-- ==== Sys2Proof/Word.lean ====
section
/-! DEFINITION. The words the frames are made of: bytes, and the 16- and 32-bit fields of section 0.5 and R5. -/

namespace Sys2Proof

/-- One byte of a frame. -/
abbrev Byte := BitVec 8

/-- A 16-bit word: the CHECK field of R5. -/
abbrev Word16 := BitVec 16

/-- A 32-bit word: hub time, which wraps at 2³² (R166). -/
abbrev Word32 := BitVec 32

/-- The time from `start` to `now`, modulo 2³² (R96). -/
def elapsed (now start : Word32) : Nat := (now - start).toNat

end Sys2Proof
end

