-- ==== Sys2Proof/Syntax.lean ====
section
/-! DEFINITION. The commands of the hub: one constructor per row of spec/opcode_table.json, with the operands that
pass into the hub at that step (a frame, a device-line message, a reading, the result of a flash operation). -/

namespace Sys2Proof

/-- The two links (section 0.1). -/
inductive Link where
  | pl | tl
  deriving DecidableEq, Repr

/-- The six universal ports A to F. -/
inductive Port where
  | a | b | c | d | e | f
  deriving DecidableEq, Repr

/-- The seven channels: the ports and the internal channel I (R79). -/
inductive Chan where
  | port (p : Port)
  | internal
  deriving DecidableEq, Repr

/-- The four voices of the Sound Unit (R124). -/
inductive VoiceId where
  | v0 | v1 | v2 | v3
  deriving DecidableEq, Repr

/-- The four rate queues of a Report Scheduler (R111). -/
inductive QueueId where
  | q0 | q1 | q2 | q3
  deriving DecidableEq, Repr

/-- The four levels of a detect input (section 2.2). -/
inductive Level where
  | openCircuit | level1 | level2 | level3
  deriving DecidableEq, Repr

/-- A whole byte on a link (R4). C3H in HUNTING is the SYNC byte; the other bytes that end no frame have no row of their own
and come by the same command: notes/assumptions/66. -/
structure ReceivedByte where
  link : Link
  byte : Byte
  deriving DecidableEq, Repr

/-- The class of an attached device (R18). An IDENTITY whose class code names none of the five is no operand. DESIGN CHOICE,
notes/assumptions/67. -/
inductive DeviceClass where
  | sensor | motor | plainMotor | lamp | internal
  deriving DecidableEq, Repr

/-- The set of supported speeds of a device record (R18). -/
structure SpeedSet where
  b2400 : Bool
  b9600 : Bool
  b57600 : Bool
  b115200 : Bool
  b460800 : Bool
  deriving DecidableEq, Repr

/-- A mode record (R18). `format` is the code as sent: 0 int8, 1 int16, 2 int32; R25 rejects any other. -/
structure ModeRecord where
  name : Nat
  count : Nat
  format : Nat
  rawMin : Int
  rawMax : Int
  scaledMin : Int
  scaledMax : Int
  unit : Nat
  minInterval : Nat
  deriving DecidableEq, Repr

/-- The motor part of a device record (R18). `size` is the code as sent: 0 S, 1 M, 2 L; R25 rejects any other. -/
structure MotorPart where
  cpr : Nat
  maxSpeed : Nat
  size : Nat
  deriving DecidableEq, Repr

/-- A device record (R18): what an IDENTITY message carries and what a port record keeps. -/
structure DeviceRecord where
  kind : DeviceClass
  typeNumber : Nat
  serial : Nat
  speeds : SpeedSet
  supplyDemand : Nat
  modes : List ModeRecord
  motor : Option MotorPart
  deriving DecidableEq, Repr

/-- The kind of an asset version (R138). -/
inductive AssetKind where
  | program | sound | data | settings
  deriving DecidableEq, Repr

/-- The sound format of an asset version (R138); `none` for every kind but SOUND. -/
inductive SoundFormat where
  | none | u8at8k | u8at16k | s16at8k | s16at16k
  deriving DecidableEq, Repr

/-- The protection of an entry (R138). -/
inductive Protection where
  | opened | readOnly | fixed
  deriving DecidableEq, Repr

/-- A version record without its pin count: what the flash holds of it (R138, R160). -/
structure VersionImage where
  number : Nat
  kind : AssetKind
  format : SoundFormat
  length : Nat
  extents : List (Nat × Nat)
  deriving DecidableEq, Repr

/-- What a snapshot entry says an asset number holds (R160). -/
inductive ContentImage where
  | absent
  | present (v : VersionImage)
  | aliasOf (target : Nat)
  deriving DecidableEq, Repr

/-- One packed entry of a snapshot (R160). -/
structure EntryImage where
  number : Nat
  content : ContentImage
  protection : Protection
  changed : Bool
  lastVersion : Nat
  deriving DecidableEq, Repr

/-- What a snapshot holds (R160): its sequence, the packed user directory, the spare pool list and the bad list. -/
structure SnapshotImage where
  sequence : Nat
  entries : List EntryImage
  spares : List Nat
  bads : List Nat
  deriving DecidableEq, Repr

/-- The record kinds of the catalogue (R160). -/
inductive CatRecord where
  | commit (asset : Nat) (version : VersionImage)
  | delete (asset : Nat)
  | redirect (asset target : Nat)
  | protect (asset : Nat) (protection : Protection)
  | marksClear (assets : List Nat)
  | remap (old new : Nat)
  | bad (block : Nat)
  | spareTaken (block : Nat)
  deriving DecidableEq, Repr

/-- What start-up reads from one ring block (R161): the header's sequence, whether the snapshot's end-page check is
correct, what the snapshot holds, the number of its pages, the records that follow it up to the first blank page or
the first page whose check fails, and whether a page whose check fails stopped them. -/
structure RingImage where
  sequence : Option Nat
  complete : Bool
  entries : List EntryImage
  spares : List Nat
  bads : List Nat
  snapshotPages : Nat
  records : List CatRecord
  torn : Bool
  deriving DecidableEq, Repr

/-- How start-up step 1 ends (R166, R167). -/
inductive MemoryResult where
  | pass
  | patternFault (address expected read : Nat)
  | addressFault (address expected read : Nat)
  deriving DecidableEq, Repr

/-- What the block scan finds of one block (R151): its erase count, if it can be read, and its factory bad flag. -/
structure ScanBlock where
  count : Option Nat
  bad : Bool
  deriving DecidableEq, Repr

/-- How start-up step 4 ends (R166, R167). -/
inductive FlashScan where
  | notIdentified (idRead : Nat)
  | unreadable (idRead block : Nat)
  | scanned (blocks : List ScanBlock)
  deriving DecidableEq, Repr

/-- How start-up step 5 ends (R166, R167): the factory index gives a version for each PRESENT factory number. -/
inductive FactoryIndex where
  | unreadable (page : Nat)
  | checkFailed (page : Nat)
  | index (entries : List (Nat × VersionImage))
  deriving DecidableEq, Repr

/-- The result of a page read (R153): for each of the four sectors the bits corrected (0 to 4), or `none` where the
sector is uncorrectable; and the corrected bytes. -/
structure PageRead where
  sectors : List (Option Nat)
  data : List Byte
  deriving DecidableEq, Repr

/-- A complete message on a device line (R22): its kind byte, its body, whose length is the length byte, and its check
byte. -/
structure LineMessage where
  kind : Byte
  body : List Byte
  check : Byte
  deriving DecidableEq, Repr

/-- One edge of an A/B encoder pair, as R63 reads it: a count up, a count down, or a sequence that skips a state. -/
inductive EncoderStep where
  | up | down | skip
  deriving DecidableEq, Repr

/-- The commands. A request is the step in which its owner block takes the request that R7 admitted on link `l` with
TAG `tag`; its fields are the body bytes that FRAME_RECEIVED brought. Every other command carries what it brings into
the hub. -/
inductive Instr where
  -- resets and start-up
  | powerOn
  | resetAsserted
  | resetReleased
  | memoryTest (result : MemoryResult)
  | driverCheck
  | flashIdentification (scan : FlashScan)
  | factoryIndexRead (index : FactoryIndex)
  | catalogueReplay (ring : List RingImage)
  -- the links
  | linkUp (l : Link)
  | linkDown (l : Link)
  | holdRises
  | holdFalls
  | overlength (l : Link) (length : Word16)
  | frameReceived (l : Link) (kind tag code : Byte) (body : List Byte) (check : Word16)
  | fragmentTimeout (l : Link)
  | badStopBit
  | transmitArbiterChoose (l : Link)
  | frameSent (l : Link)
  -- requests
  | hubStatus (l : Link) (tag : Byte)
  | linkCounts (l : Link) (tag : Byte)
  | hubReset (l : Link) (tag : Byte)
  | portInfo (l : Link) (tag : Byte)
  | claimPort (l : Link) (tag : Byte)
  | releasePort (l : Link) (tag : Byte)
  | selectMode (l : Link) (tag : Byte)
  | portReset (l : Link) (tag : Byte)
  | move (l : Link) (tag : Byte)
  | halt (l : Link) (tag : Byte)
  | setZero (l : Link) (tag : Byte)
  | setGains (l : Link) (tag : Byte)
  | motorState (l : Link) (tag : Byte)
  | pairBind (l : Link) (tag : Byte)
  | pairUnbind (l : Link) (tag : Byte)
  | pairMove (l : Link) (tag : Byte)
  | viewSet (l : Link) (tag : Byte)
  | readValues (l : Link) (tag : Byte)
  | brickDetectSet (l : Link) (tag : Byte)
  | subscribe (l : Link) (tag : Byte)
  | watchSet (l : Link) (tag : Byte)
  | watchClear (l : Link) (tag : Byte)
  | watchState (l : Link) (tag : Byte)
  | brickState (l : Link) (tag : Byte)
  | rateSet (l : Link) (tag : Byte)
  | streamSet (l : Link) (tag : Byte)
  | streamEnable (l : Link) (tag : Byte)
  | playTone (l : Link) (tag : Byte)
  | playClip (l : Link) (tag : Byte)
  | soundStop (l : Link) (tag : Byte)
  | volumeSet (l : Link) (tag : Byte)
  | soundState (l : Link) (tag : Byte)
  | assetInfo (l : Link) (tag : Byte)
  | assetRead (l : Link) (tag : Byte)
  | writeOpen (l : Link) (tag : Byte)
  | writeChunk (l : Link) (tag : Byte)
  | writeClose (l : Link) (tag : Byte)
  | writeCancel (l : Link) (tag : Byte)
  | assetDelete (l : Link) (tag : Byte)
  | assetAlias (l : Link) (tag : Byte)
  | assetProtect (l : Link) (tag : Byte)
  | marksRead (l : Link) (tag : Byte)
  | marksClear (l : Link) (tag : Byte)
  | storeLock (l : Link) (tag : Byte)
  | probePage (l : Link) (tag : Byte)
  | storeState (l : Link) (tag : Byte)
  | formatUser (l : Link) (tag : Byte)
  -- ports and device lines; `m` is the message as its bytes came in (R22), beside what its body says
  | detectChange (p : Port) (level : Level)
  | debounceExpiry (p : Port)
  | deviceLineGapTimeout (p : Port)
  | deviceNotReady (p : Port) (m : LineMessage)
  | deviceIdentity (p : Port) (record : DeviceRecord) (m : LineMessage)
  | deviceAck (p : Port) (m : LineMessage)
  | deviceData (p : Port) (mode : Nat) (values : List Int) (m : LineMessage)
  | enquirePoll (p : Port)
  | identDeadlineExpiry (p : Port)
  | speedAckTimeout (p : Port)
  | firstDataTimeout (p : Port)
  | nudge (p : Port)
  | silentPath (p : Port)
  | silentRetryClear (p : Port)
  | modeChangeTimeout (p : Port)
  | driverFault (p : Port) (asserted : Bool)
  -- motion
  | controlPeriod
  | timeRunEnd (p : Port)
  | settleDone (p : Port)
  | settleTimeout (p : Port)
  | stallRecognised (p : Port)
  -- the motion sensor and the watches
  | portISample (ax ay az gx gy gz : Int)
  | watchFired (l : Link) (slot : Nat)
  | rateQueueExpiry (l : Link) (q : QueueId)
  -- sound
  | outputSample
  | toneEnd (v : VoiceId)
  | clipPassEnd (v : VoiceId)
  | soundStarved (v : VoiceId)
  | refillComplete (result : PageRead)
  -- flash
  | flashArbiterChoose
  | backgroundEraseStart
  | refreshStart
  | pageReadComplete (result : PageRead)
  | programComplete (ok : Bool)
  | verifyComplete (sectors : List (Option Nat))
  | eraseComplete (ok : Bool)
  -- supply, receiver, encoder
  | supplyReading (mv : Nat)
  | syncByteReceived (x : ReceivedByte)
  | encoderEdge (p : Port) (step : EncoderStep)
  deriving DecidableEq, Repr

end Sys2Proof
end

