-- ==== Sys2Proof/Config.lean ====
section
/-! DEFINITION. The values the manual leaves open, as constants without a body: no proof can see what they are. -/

namespace Sys2Proof

/-- What a signed 4-byte field carries for a number outside ±2³¹: no rule states it (section 1.9 gives the field its
size alone). DESIGN CHOICE, notes/assumptions/16. -/
opaque Config.wideField : Int → BitVec 32

/-- The follower's final error of a pair DEGREES command that ends before the follower has a target (R78 defines that
target only in SETTLE), from its reference in milli-counts and its position. DESIGN CHOICE, notes/assumptions/17. -/
opaque Config.followerError : Int → Int → Int

/-- The erase count the scan gives block `n` when no block's count can be read (R151 names only the highest count
read). DESIGN CHOICE, notes/assumptions/18. -/
opaque Config.unreadCount : Nat → BitVec 32

/-- The erase count of block `n` after an erase at 4,294,967,295 (R151 gives the range alone). DESIGN CHOICE,
notes/assumptions/18. -/
opaque Config.eraseCountPastMax : Nat → BitVec 32

/-- The cap that SOUND STATE reports while the supply is CUTOFF or has no state (R132 gives NORMAL and LOW alone).
DESIGN CHOICE, notes/assumptions/19. -/
opaque Config.cutoffCap : BitVec 8

/-- The number of entry and list pages of a snapshot (R160 gives no packed size). DESIGN CHOICE, notes/assumptions/20. -/
opaque Config.entryPages : SnapshotImage → Nat

/-- The bytes of page `n` of a snapshot before its end page: page 0 the header, then the entry and list pages (R160 says
what they carry and gives no packed layout). DESIGN CHOICE, notes/assumptions/20. -/
opaque Config.snapshotPageBytes : SnapshotImage → Nat → List (BitVec 8)

/-- The bytes of a catalogue record before its check (R160 gives no packed layout). DESIGN CHOICE, notes/assumptions/20. -/
opaque Config.recordBytes : CatRecord → List (BitVec 8)

/-- The sequence of the snapshot that follows one of sequence `n` where `n` is the highest 32-bit number (R160 says 'one
higher' and gives the 32 bits alone). DESIGN CHOICE, notes/assumptions/48. -/
opaque Config.sequencePastMax : Nat → BitVec 32

/-- The kind byte of the hub's device-line messages ENQUIRE, SPEED, SELECT MODE, SET INTERVAL and NUDGE, 0 to 4 (R22 gives
no code). DESIGN CHOICE, notes/assumptions/39. -/
opaque Config.lineKind : Nat → BitVec 8

/-- The byte by which SPEED names a speed, by its place in R18's list: 0 2,400 to 4 460,800 baud (R22 gives no code).
DESIGN CHOICE, notes/assumptions/39. -/
opaque Config.lineSpeedByte : Nat → BitVec 8

end Sys2Proof
end

