-- ==== Sys2Proof/WellFormed.lean ====
section
/-! DEFINITION. The checks that say a command's operands are in the ranges the manual gives them. -/

namespace Sys2Proof

/-- A signed 32-bit number. -/
def int32 (x : Int) : Bool := decide (-2147483648 ≤ x) && decide (x ≤ 2147483647)

/-- A number of `n` bits. -/
def natBits (n x : Nat) : Bool := decide (x < 2 ^ n)

/-- The results of the four sectors of a page: at most 4 corrections each (R153). -/
def sectorsWf (s : List (Option Nat)) : Bool :=
  decide (s.length = 4) && s.all (fun c => match c with | none => true | some n => decide (n ≤ 4))

/-- A page read: four sectors and 2,048 bytes (chapter 10). -/
def PageRead.wf (r : PageRead) : Bool := sectorsWf r.sectors && decide (r.data.length = 2048)

def ModeRecord.wf (m : ModeRecord) : Bool :=
  natBits 8 m.name && natBits 8 m.count && natBits 8 m.format && int32 m.rawMin && int32 m.rawMax &&
    int32 m.scaledMin && int32 m.scaledMax && natBits 8 m.unit && natBits 16 m.minInterval

/-- The ranges of the fields of an IDENTITY message (R18, R22). -/
def DeviceRecord.wf (d : DeviceRecord) : Bool :=
  natBits 16 d.typeNumber && natBits 32 d.serial && natBits 16 d.supplyDemand && d.modes.all ModeRecord.wf &&
    (match d.motor with
      | none => true
      | some m => natBits 16 m.cpr && natBits 16 m.maxSpeed && natBits 8 m.size)

/-- A device-line message: 0 to 240 body bytes (R22). -/
def LineMessage.wf (m : LineMessage) : Bool := decide (m.body.length ≤ 240)

/-- A device-line message whose kind has no body: NOT READY and ACK (R22). -/
def LineMessage.bare (m : LineMessage) : Bool := decide (m.body = [])

/-- A version record as R138 bounds it. -/
def VersionImage.wf (v : VersionImage) : Bool :=
  decide (1 ≤ v.number) && natBits 16 v.number && decide (1 ≤ v.length) && decide (v.length ≤ 8388608) &&
    decide (1 ≤ v.extents.length) && decide (v.extents.length ≤ 64) &&
    v.extents.all (fun e => decide (e.1 + e.2 ≤ 1024)) &&
    decide (v.length ≤ 131072 * (v.extents.map (·.2)).sum)

def CatRecord.wf : CatRecord → Bool
  | .commit n v => decide (128 ≤ n) && decide (n ≤ 1023) && v.wf
  | .delete n => decide (128 ≤ n) && decide (n ≤ 1023)
  | .redirect n t => decide (128 ≤ n) && decide (n ≤ 1023) && decide (t ≤ 1023)
  | .protect n _ => decide (128 ≤ n) && decide (n ≤ 1023)
  | .marksClear ns => ns.all (fun n => decide (128 ≤ n) && decide (n ≤ 1023))
  | .remap o n => decide (o ≤ 1023) && decide (n ≤ 1023)
  | .bad b => decide (b ≤ 1023)
  | .spareTaken b => decide (b ≤ 1023)

def EntryImage.wf (e : EntryImage) : Bool :=
  decide (128 ≤ e.number) && decide (e.number ≤ 1023) && natBits 16 e.lastVersion &&
    (match e.content with
      | .absent => true
      | .present v => v.wf
      | .aliasOf t => decide (t ≤ 1023))

/-- A ring block: at most 16 snapshot pages and 64 pages in all (R160). -/
def RingImage.wf (r : RingImage) : Bool :=
  (match r.sequence with | none => !r.complete | some n => natBits 32 n) && r.entries.all EntryImage.wf &&
    r.spares.all (fun b => decide (b ≤ 1023)) && r.bads.all (fun b => decide (b ≤ 1023)) &&
    decide (r.snapshotPages ≤ 16) && decide (r.snapshotPages + r.records.length ≤ 64) && r.records.all CatRecord.wf

/-- The well-formed commands. Commands not named carry operands of any value. -/
def Instr.wf : Instr → Bool
  | .memoryTest (.patternFault a e r) => natBits 32 a && natBits 32 e && natBits 32 r
  | .memoryTest (.addressFault a e r) => natBits 32 a && natBits 32 e && natBits 32 r
  | .flashIdentification (.notIdentified i) => natBits 32 i
  | .flashIdentification (.unreadable i b) => natBits 32 i && decide (b ≤ 1023)
  | .flashIdentification (.scanned bs) =>
    decide (bs.length = 1024) && bs.all (fun b => match b.count with | none => true | some n => natBits 32 n)
  | .factoryIndexRead (.index es) => es.all (fun e => decide (e.1 ≤ 127) && e.2.wf)
  | .factoryIndexRead (.unreadable p) => decide (p ≤ 63)
  | .factoryIndexRead (.checkFailed p) => decide (p ≤ 63)
  | .catalogueReplay ring => decide (ring.length = 8) && ring.all RingImage.wf
  | .overlength _ n => decide (n.toNat < 3) || decide (523 < n.toNat)
  | .frameReceived _ _ _ _ body _ => decide (body.length ≤ 520)
  | .deviceNotReady _ m => m.bare
  | .deviceAck _ m => m.bare
  | .deviceIdentity _ d m => d.wf && m.wf && decide (d.modes.length < m.body.length)
  | .deviceData _ mode vs m => natBits 8 mode && vs.all int32 && m.wf && decide (vs.length < m.body.length)
  | .watchFired _ slot => decide (slot ≤ 7)
  | .refillComplete r => r.wf
  | .pageReadComplete r => r.wf
  | .verifyComplete s => sectorsWf s
  | .supplyReading mv => natBits 16 mv
  | _ => true

end Sys2Proof
end

