-- ==== Sys2Proof/Decode.lean ====
section
/-! DEFINITION. The commands that spec/opcode_table.json spells by bits: none of its 104 rows carries bits (their
"fields" are empty), so no word spells a command. The frames of section 1.9 are decoded where they are received
(Sys2Proof/Machine/Frames.lean, Sys2Proof/Machine/Operands.lean). -/

namespace Sys2Proof

/-- The command a word spells by the table's bits: no row gives bits, so none. -/
def decodeTableWord (nbits w : Nat) : Option Instr :=
  match nbits, w with
  | _, _ => none

end Sys2Proof
end

