-- ==== Sys2Proof/Machine/Table.lean ====
section
/-! DEFINITION. Families of records: one per link, port, channel, voice or rate queue, and numbered tables (the block
table, the directories, watch slots, streams, pair entries) as sorted lists in one canonical form. -/

namespace Sys2Proof.Machine

/-- One record per link. -/
structure PerLink (α : Type) where
  pl : α
  tl : α
  deriving DecidableEq, Repr

/-- One record per port A to F. -/
structure PerPort (α : Type) where
  a : α
  b : α
  c : α
  d : α
  e : α
  f : α
  deriving DecidableEq, Repr

/-- One record per channel A to F and I. -/
structure PerChan (α : Type) where
  ports : PerPort α
  internal : α
  deriving DecidableEq, Repr

/-- One record per voice. -/
structure PerVoice (α : Type) where
  v0 : α
  v1 : α
  v2 : α
  v3 : α
  deriving DecidableEq, Repr

/-- One record per rate queue. -/
structure PerQueue (α : Type) where
  q0 : α
  q1 : α
  q2 : α
  q3 : α
  deriving DecidableEq, Repr

def PerLink.get {α : Type} (t : PerLink α) : Link → α
  | .pl => t.pl
  | .tl => t.tl

def PerLink.set {α : Type} (t : PerLink α) (l : Link) (x : α) : PerLink α :=
  match l with
  | .pl => { t with pl := x }
  | .tl => { t with tl := x }

def PerPort.get {α : Type} (t : PerPort α) : Port → α
  | .a => t.a
  | .b => t.b
  | .c => t.c
  | .d => t.d
  | .e => t.e
  | .f => t.f

def PerPort.set {α : Type} (t : PerPort α) (p : Port) (x : α) : PerPort α :=
  match p with
  | .a => { t with a := x }
  | .b => { t with b := x }
  | .c => { t with c := x }
  | .d => { t with d := x }
  | .e => { t with e := x }
  | .f => { t with f := x }

def PerPort.all {α : Type} (x : α) : PerPort α := ⟨x, x, x, x, x, x⟩

def PerChan.get {α : Type} (t : PerChan α) : Chan → α
  | .port p => t.ports.get p
  | .internal => t.internal

def PerChan.set {α : Type} (t : PerChan α) (c : Chan) (x : α) : PerChan α :=
  match c with
  | .port p => { t with ports := t.ports.set p x }
  | .internal => { t with internal := x }

def PerVoice.get {α : Type} (t : PerVoice α) : VoiceId → α
  | .v0 => t.v0
  | .v1 => t.v1
  | .v2 => t.v2
  | .v3 => t.v3

def PerVoice.set {α : Type} (t : PerVoice α) (v : VoiceId) (x : α) : PerVoice α :=
  match v with
  | .v0 => { t with v0 := x }
  | .v1 => { t with v1 := x }
  | .v2 => { t with v2 := x }
  | .v3 => { t with v3 := x }

def PerQueue.get {α : Type} (t : PerQueue α) : QueueId → α
  | .q0 => t.q0
  | .q1 => t.q1
  | .q2 => t.q2
  | .q3 => t.q3

def PerQueue.set {α : Type} (t : PerQueue α) (q : QueueId) (x : α) : PerQueue α :=
  match q with
  | .q0 => { t with q0 := x }
  | .q1 => { t with q1 := x }
  | .q2 => { t with q2 := x }
  | .q3 => { t with q3 := x }

/-- The links in the order the model takes them where the manual sets none. -/
def allLinks : List Link := [.pl, .tl]

/-- The ports in letter order. -/
def allPorts : List Port := [.a, .b, .c, .d, .e, .f]

/-- The voices in number order (R133). -/
def allVoices : List VoiceId := [.v0, .v1, .v2, .v3]

/-- The rate queues, Q0 first. -/
def allQueues : List QueueId := [.q0, .q1, .q2, .q3]

/-- A numbered table: the numbers whose record differs from the default, in rising order. -/
structure Table (α : Type) where
  cells : List (Nat × α)
  deriving DecidableEq, Repr

def Table.empty {α : Type} : Table α := ⟨[]⟩

/-- The value the list gives the number `k`, or the default. -/
def cellsGet {α : Type} (dflt : α) : List (Nat × α) → Nat → α
  | [], _ => dflt
  | (n, x) :: rest, k => if k = n then x else cellsGet dflt rest k

/-- The list with the number `k` removed. -/
def cellsErase {α : Type} : List (Nat × α) → Nat → List (Nat × α)
  | [], _ => []
  | (n, x) :: rest, k => if k = n then cellsErase rest k else (n, x) :: cellsErase rest k

/-- The list with the number `k` given the value `v`, in rising order. -/
def cellsInsert {α : Type} : List (Nat × α) → Nat → α → List (Nat × α)
  | [], k, v => [(k, v)]
  | (n, x) :: rest, k, v =>
    if k < n then (k, v) :: (n, x) :: rest
    else if k = n then (k, v) :: rest
    else (n, x) :: cellsInsert rest k v

/-- Reads the record of number `k`; an unlisted number holds the default. -/
def Table.get {α : Type} (dflt : α) (t : Table α) (k : Nat) : α := cellsGet dflt t.cells k

/-- Writes the record of number `k`; writing the default removes the cell. -/
def Table.set {α : Type} [DecidableEq α] (dflt : α) (t : Table α) (k : Nat) (v : α) : Table α :=
  if v = dflt then ⟨cellsErase t.cells k⟩ else ⟨cellsInsert t.cells k v⟩

/-- Keeps the cells whose number passes `p`; the others return to the default. -/
def Table.keep {α : Type} (p : Nat → Bool) (t : Table α) : Table α :=
  ⟨t.cells.filter (fun c => p c.1)⟩

/-- The table whose numbers below `n` hold what `f` gives them. -/
def Table.build {α : Type} [DecidableEq α] (dflt : α) (n : Nat) (f : Nat → α) : Table α :=
  ⟨((List.range n).map (fun k => (k, f k))).filter (fun c => decide (c.2 ≠ dflt))⟩

/-- Rising numbers, none of them below `lo`. -/
def risingFrom {α : Type} : Nat → List (Nat × α) → Bool
  | _, [] => true
  | lo, (n, _) :: rest => decide (lo ≤ n) && risingFrom (n + 1) rest

/-- The canonical form: rising numbers, and no cell equal to the default. -/
def Table.wf {α : Type} [DecidableEq α] (dflt : α) (t : Table α) : Bool :=
  risingFrom 0 t.cells && t.cells.all (fun c => decide (c.2 ≠ dflt))

end Sys2Proof.Machine
end

