-- ==== Sys2Proof/Machine/Records.lean ====
section
/-! DEFINITION. The records of every functional block (section 0.2), as plain data, each with the rule that names it. -/

namespace Sys2Proof.Machine

/-! ### Codes of chapter 1 -/

/-- The request codes of section 1.8 (R16). -/
inductive ReqCode where
  | hubStatus | linkCounts | hubReset
  | portInfo | claimPort | releasePort | selectMode | portReset
  | move | halt | setZero | setGains | motorState | pairBind | pairUnbind | pairMove
  | viewSet | readValues | brickDetectSet | subscribe | watchSet | watchClear | watchState | brickState
  | rateSet | streamSet | streamEnable
  | playTone | playClip | soundStop | volumeSet | soundState
  | assetInfo | assetRead | writeOpen | writeChunk | writeClose | writeCancel
  | assetDelete | assetAlias | assetProtect | marksRead | marksClear | storeLock | probePage | storeState | formatUser
  deriving DecidableEq, Repr

/-- The owner blocks of section 1.8. -/
inductive Owner where
  | startUpControl | linkUnit | portService | motionUnit | sensingUnit | detectorUnit | reportScheduler | soundUnit
  | assetMap | mediaController
  deriving DecidableEq, Repr

/-- The judgement codes of section 1.8 (R16). -/
inductive Judgement where
  | normalCompletion | portError | deviceMismatch | parameterError | heldByOtherLink | queueFull | busy
  | writeProtected | noSuchAsset | mediaError | supplyLow | tagInUse | unknownRequest | assetInUse | notReady
  | storeFull | sequenceError | deviceTimeout | portPaired | linkNotPermitted
  deriving DecidableEq, Repr

/-- The completion outcomes of section 1.8 (R16). LINK LOST has no code: an end whose link is DOWN sends no notice. -/
inductive EndOutcome where
  | done | stalled | stallEnd | superseded | halted | removed | supply | preempted | starved | mediaError | stopped
  | released
  deriving DecidableEq, Repr

/-- Names one admitted request: its link and the model's own serial of the admission, so that a response handed over
after the entry has gone (R8) finds no entry, even where a later request bears the same TAG. -/
structure Ticket where
  link : Link
  serial : Nat
  deriving DecidableEq, Repr

/-! ### Link Unit (chapter 1) -/

/-- Where the request of an outstanding entry stands: in its owner block's hands with its body, taken by the owner,
or answered with the response waiting or in transmission. -/
inductive EntryStage where
  | routed (body : List Byte)
  | working
  | answered
  deriving DecidableEq, Repr

/-- One entry of the outstanding-request table (R8). The owner block is `ReqCode.owner code`. -/
structure Entry where
  tag : Byte
  code : ReqCode
  serial : Nat
  arrival : Word32
  stage : EntryStage
  deriving DecidableEq, Repr

/-- What is ready in the arbiter's class 1 (R12): responses handed over by owners, and the refusal queue (R9). -/
inductive Ready where
  | response (serial : Nat) (tag : Byte) (code : ReqCode) (judgement : Judgement) (body : List Byte)
  | refusal (tag : Byte) (judgement : Judgement)
  deriving DecidableEq, Repr

/-- The state of a receiver (R4); `last` is the hub time of the last byte received in the frame. -/
inductive Receiver where
  | hunting
  | inFrame (last : Word32)
  deriving DecidableEq, Repr

/-- The port states of R18. -/
inductive PortState where
  | empty | settling | identifying | active | rejected | fault
  deriving DecidableEq, Repr

/-- The kinds of BRICK EVENT (R101). -/
inductive BrickKind where
  | orientation | singleTap | doubleTap | fallStart | fallEnd | moving | still
  deriving DecidableEq, Repr

/-- The faces of the brick (R95). -/
inductive Face where
  | unknown | up | down | front | back | left | right
  deriving DecidableEq, Repr

/-- An axis of the motion sensor. -/
inductive Axis where
  | x | y | z
  deriving DecidableEq, Repr

/-- The supply states (R164). -/
inductive SupplyState where
  | normal | low | cutoff
  deriving DecidableEq, Repr

/-- The store states (R162). -/
inductive StoreState where
  | offline | ready | readOnly
  deriving DecidableEq, Repr

/-- The kinds of STORE EVENT (R162). -/
inductive StoreEventKind where
  | committed | failed | stateChanged | formatted
  deriving DecidableEq, Repr

/-- What a notice says, beside the common notice header: one constructor per notice code of section 1.8. -/
inductive NoticeBody where
  | portChanged (port : Port) (new previous : PortState) (generation : Nat) (detect : Level)
      (device : Option (DeviceClass × Nat)) (reason : Nat)
  | modeChanged (port : Port) (generation new : Nat) (previous : Option Nat)
  | motionDone (port : Port) (pair : Option Nat) (number : Nat) (outcome : EndOutcome) (position error : Int)
      (second : Option (Int × Int))
  | watchFired (slot : Nat) (chan : Chan) (index : Nat) (value : Int) (sequence : Nat) (clipped : Bool) (fires : Nat)
      (action result ended : Nat)
  | brickEvent (kind : BrickKind) (orientation previous : Face) (tap : Option (Axis × Bool)) (time : Word32)
      (count : Nat)
  | soundDone (number : Nat) (clip : Bool) (outcome : EndOutcome) (voice : Option VoiceId) (asset version loops : Nat)
  | storeEvent (kind : StoreEventKind) (after previous : StoreState) (asset : Option Nat) (version : Nat)
  | supplyChanged (new previous : SupplyState) (mean : Nat)
  deriving DecidableEq, Repr

/-- A notice waiting in a notice queue (R10): what it says and the hub time at which it was generated. -/
structure Notice where
  body : NoticeBody
  time : Word32
  deriving DecidableEq, Repr

/-- What a frame in transmission came from. -/
inductive TxSource where
  | response (serial : Nat) (code : ReqCode) (judgement : Judgement)
  | refusal
  | notice
  | report (queue : QueueId)
  deriving DecidableEq, Repr

/-- The frame in transmission (R12): where it came from and those of its bytes, SYNC to CHECK, that have not been sent
whole (R1). -/
structure Tx where
  source : TxSource
  bytes : List Byte
  deriving DecidableEq, Repr

/-- The link counts (R15), each 0 to 4,294,967,295. -/
structure LinkCounts where
  checkErrors : Nat
  overlength : Nat
  fragments : Nat
  kindErrors : Nat
  received : Nat
  accepted : Nat
  refused : Nat
  refusalDrops : Nat
  noticesDropped : Nat
  reportsSent : Nat
  overruns : PerQueue Nat
  deriving DecidableEq, Repr

def LinkCounts.zero : LinkCounts := ⟨0, 0, 0, 0, 0, 0, 0, 0, 0, 0, ⟨0, 0, 0, 0⟩⟩

/-- One Link Unit (R3 to R15). `ready` holds class 1 in the order it became ready: the refusal queue is its refusals.
`nextSerial` numbers admissions. -/
structure LinkUnit where
  up : Bool
  receiver : Receiver
  table : List Entry
  ready : List Ready
  notices : List Notice
  drops : Nat
  tx : Option Tx
  counts : LinkCounts
  nextSerial : Nat
  deriving DecidableEq, Repr

/-- A Link Unit after the three resets (R3). -/
def LinkUnit.reset : LinkUnit := ⟨false, .hunting, [], [], [], 0, none, .zero, 0⟩

/-! ### Port Service (chapter 2) -/

/-- The stages of identification (R18). -/
inductive IdentStage where
  | enquiring | speed | firstData
  deriving DecidableEq, Repr

/-- The speed of a device line (R18). -/
inductive LineSpeed where
  | closed | b2400 | b9600 | b57600 | b115200 | b460800
  deriving DecidableEq, Repr

inductive FaultReason where
  | overload | silent | identTimeout
  deriving DecidableEq, Repr

inductive RejectReason where
  | supplyDemand | speed | record
  deriving DecidableEq, Repr

/-- The messages the hub sends on a device line (R22). -/
inductive HubMsg where
  | enquire
  | speed (s : LineSpeed)
  | selectMode (mode : Nat)
  | setInterval (ms : Nat)
  | nudge
  deriving DecidableEq, Repr

/-- The device-line counts (R18), each 0 to 65,535. -/
structure LineCounts where
  received : Nat
  checkErrors : Nat
  unexpected : Nat
  nudges : Nat
  deriving DecidableEq, Repr

def LineCounts.zero : LineCounts := ⟨0, 0, 0, 0⟩

/-- A pending mode (R37) with the request that waits for it. -/
structure PendingMode where
  mode : Nat
  ticket : Ticket
  deriving DecidableEq, Repr

/-- One port record (R18), followed by the port's timers (R20, R24, R26, R29, R38). `waitFrom` is the start of the
debounce or of the present 100 ms wait and `secondWait` says that the wait is the second. `superviseMs` is the T of
R29, taken when the last DATA arrived. `sentInterval` is the interval last sent by SET INTERVAL (R28), and `sent` what
the hub last put on the device line. -/
structure PortRec where
  state : PortState
  detect : Level
  stage : Option IdentStage
  device : Option DeviceRecord
  generation : Nat
  holder : Option Link
  mode : Option Nat
  pendingMode : Option PendingMode
  interval : Option Nat
  line : LineSpeed
  fault : Option FaultReason
  reject : Option RejectReason
  silentRetry : Bool
  counts : LineCounts
  waitFrom : Word32
  secondWait : Bool
  identFrom : Word32
  enquiredAt : Word32
  lastData : Word32
  superviseMs : Nat
  nudgedAt : Option Word32
  healthyFrom : Word32
  sentInterval : Option Nat
  sent : List HubMsg
  deriving DecidableEq, Repr

/-- A port record after the three resets (R18). -/
def PortRec.reset : PortRec :=
  { state := .empty, detect := .openCircuit, stage := none, device := none, generation := 0, holder := none,
    mode := none, pendingMode := none, interval := none, line := .closed, fault := none, reject := none,
    silentRetry := false, counts := .zero, waitFrom := 0, secondWait := false, identFrom := 0, enquiredAt := 0,
    lastData := 0, superviseMs := 0, nudgedAt := none, healthyFrom := 0, sentInterval := none, sent := [] }

/-! ### Motion Unit (chapters 3 and 4) -/

inductive ChanState where
  | free | braked | holding | running
  deriving DecidableEq, Repr

inductive Phase where
  | idle | accel | cruise | decel | settle | hold | duty
  deriving DecidableEq, Repr

inductive MoveKind where
  | speed | degrees | position | time | duty
  deriving DecidableEq, Repr

inductive EndAction where
  | coast | brake | hold
  deriving DecidableEq, Repr

inductive StallPolicy where
  | fail | finish
  deriving DecidableEq, Repr

/-- The gains of a channel (R41). -/
structure Gains where
  kp : Nat
  ki : Nat
  feedforward : Bool
  deriving DecidableEq, Repr

/-- A command record (R43): the fields as accepted; what R62 converts stands in the channel's profile while the
command is active. `speed` and `speedB` are clamped percentages, `ramp` is in ms with FFFFH read as 300. -/
structure Command where
  link : Link
  number : Nat
  kind : MoveKind
  speed : Int
  speedB : Int
  amount : Int
  ramp : Nat
  endAction : EndAction
  stall : StallPolicy
  pair : Option Nat
  deriving DecidableEq, Repr

/-- The profile state of a channel (R41, R65): speed `v`, reference `pRef`, ramp step `dv`, the converted fields of
R62, the direction `d`, the elapsed periods of a TIME command, the settle counters, the phase, the previous u, and the
reference at which the command started (R76). `settling` says that the SETTLE of R71 has been entered and `rampDown`
that the ramp-down part of R70 has begun. -/
structure Profile where
  v : Int
  pRef : Int
  dv : Int
  vt : Int
  vmax : Int
  tol : Int
  target : Int
  d : Int
  elapsed : Nat
  inTol : Nat
  settleTimer : Nat
  settling : Bool
  rampDown : Bool
  phase : Phase
  start : Int
  prevU : Int
  deriving DecidableEq, Repr

/-- The profile at attach and after the resets: v 0, p_ref 0 and phase IDLE by R41; v_t, the elapsed periods, the settle
counters and the previous u 0, with d = +1, by R65. The ramp step `dv` and the `target`, which neither rule names, and the
model's own `vmax`, `tol` and `start` are 0: DESIGN CHOICE, notes/assumptions/78. -/
def Profile.reset : Profile :=
  { v := 0, pRef := 0, dv := 0, vt := 0, vmax := 0, tol := 0, target := 0, d := 1, elapsed := 0, inTol := 0,
    settleTimer := 0, settling := false, rampDown := false, phase := .idle, start := 0, prevU := 0 }

/-- The positions of the last five control periods, newest first (R64). -/
structure History where
  h0 : Int
  h1 : Int
  h2 : Int
  h3 : Int
  h4 : Int
  deriving DecidableEq, Repr

/-- One motor channel (R41). `edges` are the encoder edges counted since the last control period (R63). -/
structure Motor where
  state : ChanState
  position : Int
  saturated : Bool
  history : History
  speed : Int
  duty : Int
  active : Option Command
  waiting : List Command
  counter : Nat
  gains : Option Gains
  profile : Profile
  integral : Int
  stallTimer : Nat
  holdTarget : Option Int
  pair : Option Nat
  edges : Int
  deriving DecidableEq, Repr

/-- A motor channel after the three resets (R41). -/
def Motor.reset : Motor :=
  { state := .free, position := 0, saturated := false, history := ⟨0, 0, 0, 0, 0⟩, speed := 0, duty := 0,
    active := none, waiting := [], counter := 0, gains := none, profile := .reset, integral := 0, stallTimer := 0,
    holdTarget := none, pair := none, edges := 0 }

/-- A bound entry of the pair table (R56); its state is RUNNING while the first port's channel has an active command. -/
structure Pair where
  first : Port
  second : Port
  lagLimit : Nat
  holder : Link
  deriving DecidableEq, Repr

/-! ### Sensing Unit (chapter 5) -/

/-- A channel sample record (R79). -/
structure Sample where
  mode : Option Nat
  sequence : Nat
  time : Word32
  values : List Int
  clipped : List Bool
  interval : Nat
  deriving DecidableEq, Repr

/-- The cleared record of a channel with `n` values (R79). Its mode is none: R79 does not list it. DESIGN CHOICE,
notes/assumptions/44. -/
def Sample.cleared (n interval : Nat) : Sample :=
  ⟨none, 0, 0, List.replicate n 0, List.replicate n false, interval⟩

inductive FilterKind where
  | none | low | high | slope
  deriving DecidableEq, Repr

/-- The filter state of one value index (R85, R87). -/
structure FilterState where
  y : Int
  prev : Int
  seeded : Bool
  deriving DecidableEq, Repr

/-- An unseeded value (R85, R93). The LOW state and the previous input, which no step reads until it has seeded them, are
0: DESIGN CHOICE, notes/assumptions/74. -/
def FilterState.unseeded : FilterState := ⟨0, 0, false⟩

/-- A stamp: motion number and phase (R89). -/
structure Stamp where
  number : Nat
  phase : Phase
  deriving DecidableEq, Repr

/-- A view's output (R85). -/
structure ViewOutput where
  values : List Int
  sequence : Nat
  time : Word32
  clipped : List Bool
  mode : Option Nat
  stamp : Option Stamp
  deriving DecidableEq, Repr

/-- A cleared output of `n` values (R85). Its mode is none, sent as FFH: R85 does not list it. DESIGN CHOICE,
notes/assumptions/44. -/
def ViewOutput.cleared (n : Nat) : ViewOutput :=
  ⟨List.replicate n 0, 0, 0, List.replicate n false, none, none⟩

/-- A view record (R85). `interval` is in ms and 0 when the view is off; `filters` holds the eight filter states. -/
structure View where
  interval : Nat
  filter : FilterKind
  strength : Nat
  offsets : List Int
  accelRange : Nat
  gyroRange : Nat
  stampPort : Option Port
  counter : Nat
  filters : List FilterState
  output : ViewOutput
  fresh : Bool
  deriving DecidableEq, Repr

/-- A view after the three resets and at link DOWN, on a channel of `n` values (R85). -/
def View.reset (n : Nat) : View :=
  { interval := 0, filter := .none, strength := 1, offsets := List.replicate 8 0, accelRange := 8000,
    gyroRange := 2000, stampPort := none, counter := 0, filters := List.replicate 8 .unseeded,
    output := .cleared n, fresh := false }

/-- Port I's shared settings (R84): interval in microseconds, ranges in mg and dps. -/
structure SharedI where
  interval : Nat
  accelRange : Nat
  gyroRange : Nat
  deriving DecidableEq, Repr

/-! ### Detector Unit (chapter 6) -/

inductive TapKind where
  | none | single | double
  deriving DecidableEq, Repr

/-- The last tap of the brick state record (R95). -/
structure Tap where
  kind : TapKind
  axis : Axis
  negative : Bool
  time : Word32
  deriving DecidableEq, Repr

/-- The brick state record without the settings (R95). `counts` is by kind number. -/
structure BrickState where
  orientation : Face
  moving : Bool
  falling : Bool
  lastTap : Tap
  counts : Table Nat
  deriving DecidableEq, Repr

def BrickState.reset : BrickState := ⟨.unknown, false, false, ⟨.none, .x, false, 0⟩, .empty⟩

/-- The brick detector settings (R95). -/
structure BrickSettings where
  orientation : Bool
  tap : Bool
  freeFall : Bool
  motion : Bool
  orientThreshold : Nat
  orientDwell : Nat
  tapThreshold : Nat
  tapQuiet : Nat
  doubleWindow : Nat
  fallThreshold : Nat
  fallDwell : Nat
  motionThreshold : Nat
  stillTime : Nat
  deriving DecidableEq, Repr

def BrickSettings.reset : BrickSettings :=
  { orientation := false, tap := false, freeFall := false, motion := false, orientThreshold := 800,
    orientDwell := 100, tapThreshold := 1500, tapQuiet := 30, doubleWindow := 300, fallThreshold := 300,
    fallDwell := 60, motionThreshold := 500, stillTime := 2000 }

inductive TapStage where
  | idle | quiet | waiting
  deriving DecidableEq, Repr

/-- The detectors' working state (R95). -/
structure DetectorWork where
  candidate : Option (Face × Word32)
  tapStage : TapStage
  tapPrev : Option (Int × Int × Int)
  tapAxis : Axis
  tapNegative : Bool
  tapTime : Word32
  tapSecond : Bool
  quietFrom : Word32
  fallRun : Option Word32
  stillRun : Option Word32
  deriving DecidableEq, Repr

def DetectorWork.reset : DetectorWork :=
  { candidate := none, tapStage := .idle, tapPrev := none, tapAxis := .x, tapNegative := false, tapTime := 0,
    tapSecond := false, quietFrom := 0, fallRun := none, stillRun := none }

inductive Condition where
  | above | below | inside | outside
  deriving DecidableEq, Repr

inductive WatchAction where
  | none
  | haltPort (target : Port) (e : EndAction)
  | haltPair (target : Nat) (e : EndAction)
  deriving DecidableEq, Repr

inductive WatchState where
  | disarmed | armed | pending | fired
  deriving DecidableEq, Repr

inductive DisarmReason where
  | mode | departed | view
  deriving DecidableEq, Repr

/-- A watch entry (R105). -/
structure Watch where
  chan : Chan
  index : Nat
  condition : Condition
  level1 : Int
  level2 : Int
  hysteresis : Int
  dwell : Nat
  repeats : Bool
  action : WatchAction
  armMode : Option Nat
  state : WatchState
  progress : Nat
  reason : Option DisarmReason
  fires : Nat
  skips : Nat
  deriving DecidableEq, Repr

/-! ### Report Scheduler (chapter 7) -/

/-- A rate queue record (R111); `origin` is `none` while the timer is stopped, and moves on by one period at each
expiry taken, so the next expiry always falls one period after it. -/
structure RateQueue where
  period : Nat
  origin : Option Word32
  waiting : Bool
  deriving DecidableEq, Repr

/-- A stream record (R111). -/
structure Stream where
  defined : Bool
  queue : QueueId
  members : List Chan
  enabled : Bool
  deriving DecidableEq, Repr

def Stream.undefined : Stream := ⟨false, .q0, [], false⟩

/-- One assembled REPORT frame: its stream number and body (R117). -/
structure ReportFrame where
  stream : Nat
  body : List Byte
  deriving DecidableEq, Repr

/-- The service in progress: its rate queue and the frames whose last byte has not been sent (R117, R119). -/
structure Service where
  queue : QueueId
  frames : List ReportFrame
  deriving DecidableEq, Repr

/-- One Report Scheduler (R111). -/
structure Scheduler where
  queues : PerQueue RateQueue
  streams : Table Stream
  fastMark : QueueId
  slowMark : QueueId
  service : Option Service
  deriving DecidableEq, Repr

/-- A Report Scheduler after the three resets and at link DOWN (R111). -/
def Scheduler.reset : Scheduler :=
  { queues := ⟨⟨100, none, false⟩, ⟨100, none, false⟩, ⟨1000, none, false⟩, ⟨1000, none, false⟩⟩, streams := .empty,
    fastMark := .q0, slowMark := .q2, service := none }

/-! ### Sound Unit (chapter 8) -/

inductive Waveform where
  | square | triangle
  deriving DecidableEq, Repr

/-- The tone part or the clip part of a sound entry (R123). A clip names its pinned version by the asset number whose
entry held it at acceptance (`holder`) and the model's own serial of its commit; `version` is its version number, which
a later commit can bear again (R138). -/
inductive SoundPart where
  | tone (frequency : Nat) (waveform : Waveform) (remaining phase : Nat)
  | clip (asset holder serial version length : Nat) (format : SoundFormat) (offset loops loopsDone readPos : Nat)
  deriving DecidableEq, Repr

/-- A sound entry (R123). -/
structure Sound where
  number : Nat
  link : Link
  priority : Nat
  volume : Nat
  part : SoundPart
  deriving DecidableEq, Repr

inductive VoiceStage where
  | priming | playing | starving
  deriving DecidableEq, Repr

/-- A full page buffer: the clip page it holds and its 2,048 bytes (R129). -/
structure PageBuffer where
  page : Nat
  bytes : List Byte
  deriving DecidableEq, Repr

/-- A refill asked for: the buffer it fills, the clip page, and where it lies in flash (R129). -/
structure Refill where
  second : Bool
  page : Nat
  block : Nat
  flashPage : Nat
  deriving DecidableEq, Repr

/-- A voice that holds an entry (R124, R129): `timer` counts the output samples left of the priming or starvation
timer, `cur` says that output is from the second buffer, and `again` holds a sample of an 8,000 Hz clip that is due at
one more output sample (R131). -/
structure Voice where
  sound : Sound
  order : Nat
  stage : VoiceStage
  timer : Nat
  buffer0 : Option PageBuffer
  buffer1 : Option PageBuffer
  cur : Bool
  refill : Option Refill
  again : Option Int
  deriving DecidableEq, Repr

/-- The Sound Unit (R123, R124, R132, R135, R152). `nextOrder` gives start orders, `lastServed` is the voice whose
refill the flash arbiter took last. -/
structure SoundUnit where
  voices : PerVoice (Option Voice)
  queue : List Sound
  counter : Nat
  nextOrder : Nat
  volumes : PerLink Nat
  speaker : Int
  lastServed : Option VoiceId
  deriving DecidableEq, Repr

/-- The Sound Unit after the three resets (R123). -/
def SoundUnit.reset : SoundUnit := ⟨⟨none, none, none, none⟩, [], 0, 0, ⟨80, 80⟩, 0, none⟩

/-! ### Asset Map (chapter 9) -/

/-- A version record (R138). `serial` is the model's own: it tells one commit from another where version numbers come
round again, and is 0 in a version that start-up loaded. -/
structure Version where
  image : VersionImage
  pins : Nat
  serial : Nat
  deriving DecidableEq, Repr

/-- What an entry holds (R138). -/
inductive Content where
  | absent
  | present (v : Version)
  | aliasOf (target : Nat)
  deriving DecidableEq, Repr

/-- A directory entry (R138). -/
structure DirEntry where
  content : Content
  protection : Protection
  lastVersion : Nat
  changed : Bool
  read : Bool
  deriving DecidableEq, Repr

def DirEntry.absent : DirEntry := ⟨.absent, .opened, 0, false, false⟩

/-- A version on the retired list (R143), with the asset whose entry it was current in. -/
structure Retired where
  holder : Nat
  version : Version
  deriving DecidableEq, Repr

/-- A map cache entry (R142). -/
structure CacheEntry where
  asset : Nat
  logical : Nat
  block : Nat
  factory : Bool
  deriving DecidableEq, Repr

/-- A directory change awaiting its record (R144); `numbers` are the numbers a MARKS CLEAR lists. -/
structure Change where
  ticket : Ticket
  record : CatRecord
  numbers : List Nat
  deriving DecidableEq, Repr

/-- What a page read in the class of ASSET READ is for (R146, R150). -/
inductive ReadPurpose where
  | asset (number offset count : Nat)
  | probe (number offset : Nat)
  deriving DecidableEq, Repr

/-- One page a read waits for. -/
structure ReadPage where
  block : Nat
  page : Nat
  data : Option (List Byte)
  deriving DecidableEq, Repr

/-- An ASSET READ or PROBE PAGE whose pages are awaited: the version it walks, the count after the cut of R146 and
whether the first lookup was a cache hit. -/
structure ReadJob where
  ticket : Ticket
  purpose : ReadPurpose
  holder : Nat
  version : Nat
  count : Nat
  hit : Bool
  pages : List ReadPage
  deriving DecidableEq, Repr

/-- The Asset Map (R138 to R150). The map cache stands most recently used first. `commits` is the model's own count of
commits, from which versions take their serials. -/
structure AssetMap where
  directory : Table DirEntry
  retired : List Retired
  cache : List CacheEntry
  lock : Option Link
  change : Option Change
  reads : List ReadJob
  commits : Nat
  deriving DecidableEq, Repr

def AssetMap.reset : AssetMap := ⟨.empty, [], [], none, none, [], 0⟩

/-! ### Media Controller (chapter 10) -/

/-- The block states of R151. -/
inductive BlockState where
  | freeClean | freeDirty | live | retired | session | catalogue | factory | spare | bad
  deriving DecidableEq, Repr

/-- A block record (R151). -/
structure Block where
  state : BlockState
  erases : Nat
  deriving DecidableEq, Repr

def Block.unscanned : Block := ⟨.freeDirty, 0⟩

/-- Where a good page of the session stands: place in the reserved list, page, and the block that holds it now. -/
structure StoredPage where
  place : Nat
  page : Nat
  block : Nat
  deriving DecidableEq, Repr

/-- A page of the session to be programmed, with the WRITE CHUNK that waits for it. -/
structure PageWork where
  page : Nat
  data : List Byte
  ticket : Option Ticket
  deriving DecidableEq, Repr

/-- A replacement under way in the session (R157): the place in the reserved list and the pages to program again once
the copies are made. -/
structure Repair where
  place : Nat
  todo : List PageWork
  deriving DecidableEq, Repr

/-- The CLOSING part of a session (R158): the WRITE CLOSE that waits, and whether its COMMIT record has been handed
over. -/
structure Closing where
  ticket : Ticket
  committing : Bool
  deriving DecidableEq, Repr

/-- The write session (R155). The next offset always equals the bytes written (R156), so one number holds both.
`unerased` are the reserved blocks whose erase is still to come. -/
structure Session where
  link : Link
  asset : Nat
  kind : AssetKind
  format : SoundFormat
  declared : Nat
  reserved : List Nat
  unerased : List Nat
  written : Nat
  buffer : List Byte
  closing : Option Closing
  pages : List StoredPage
  repairs : List Repair
  deriving DecidableEq, Repr

/-- A block on the refresh list (R153, R154). -/
structure RefreshItem where
  block : Nat
  postponed : Bool
  deriving DecidableEq, Repr

/-- The refresh copy under way (R154): `page` is the page in work, 64 once the REMAP record is awaited. -/
structure RefreshCopy where
  old : Nat
  dest : Nat
  page : Nat
  deriving DecidableEq, Repr

/-- Who is told when a catalogue record is in flash (R160). -/
inductive Asker where
  | change | commit | remap | bookkeeping
  deriving DecidableEq, Repr

/-- A record waiting to be appended; `begun` once its program has been chosen (R158). -/
structure PendingRecord where
  record : CatRecord
  asker : Asker
  begun : Bool
  deriving DecidableEq, Repr

/-- A compaction under way (R160): the block just filled, the ring block being written, how many ring blocks have been
tried, and the snapshot page in work with the snapshot it belongs to (`none` while the block is erased). -/
structure Compaction where
  source : Option Nat
  target : Nat
  tried : Nat
  page : Option (Nat × SnapshotImage)
  deriving DecidableEq, Repr

/-- What a page of a snapshot holds (R160): bytes of the header, the entries and the lists, or, in the end page, the
CRC-16 over every earlier page. -/
inductive SnapshotPage where
  | body (bytes : List Byte)
  | finish (check : Word16)
  deriving DecidableEq, Repr

/-- What a flash operation puts into flash: a page program data, a catalogue record with its check, or a page of a
snapshot; an erase the block's new erase count, in the block's header area (R151). -/
inductive PageContent where
  | data (bytes : List Byte)
  | record (page : List Byte)
  | snapshot (page : SnapshotPage)
  | header (erases : Nat)
  deriving DecidableEq, Repr

inductive OpKind where
  | read | program | verify | erase
  deriving DecidableEq, Repr

/-- What a flash operation is for; `orphan` is work withdrawn while its operation was in progress (R159, R129). -/
inductive Work where
  | refill (v : VoiceId)
  | sessionPage (place : Nat) (w : PageWork)
  | sessionErase (block : Nat)
  | copyRead (place page : Nat)
  | copyProgram (place page : Nat) (data : List Byte)
  | record (r : CatRecord)
  | ringErase
  | snapshotPage (i : Nat) (content : SnapshotPage)
  | spareErase (block : Nat)
  | readJob (ticket : Ticket) (slot : Nat)
  | dirtyErase (block : Nat)
  | refreshRead (page : Nat)
  | refreshProgram (page : Nat) (data : List Byte)
  | orphan
  deriving DecidableEq, Repr

/-- One flash operation (R152). -/
structure FlashOp where
  kind : OpKind
  block : Nat
  page : Nat
  work : Work
  deriving DecidableEq, Repr

/-- A format under way (R163): the request that waits, and the chosen spares still to be erased. -/
structure Format where
  ticket : Ticket
  toErase : List Nat
  deriving DecidableEq, Repr

/-- The Media Controller (R151 to R163). `store` is `none` until it is first set (R168); `ring` is the ring block in
use; `mustCompact` says that compaction runs before the next record (R160, R161); `op` is the operation in progress
and `class2`, `class3`, `class4` the waiting operations in the order they were asked (R152). -/
structure Media where
  blocks : Table Block
  store : Option StoreState
  session : Option Session
  refreshList : List RefreshItem
  refresh : Option RefreshCopy
  ring : Option Nat
  sequence : Nat
  pagesUsed : Nat
  mustCompact : Bool
  records : List PendingRecord
  appending : Bool
  compaction : Option Compaction
  format : Option Format
  op : Option FlashOp
  class2 : List FlashOp
  class3 : List FlashOp
  class4 : List FlashOp
  deriving DecidableEq, Repr

/-- The block table before the scan: blocks 0 to 7 CATALOGUE and block 8 FACTORY, as R151 fixes them. -/
def initialBlocks : Table Block :=
  ⟨[(0, ⟨.catalogue, 0⟩), (1, ⟨.catalogue, 0⟩), (2, ⟨.catalogue, 0⟩), (3, ⟨.catalogue, 0⟩), (4, ⟨.catalogue, 0⟩),
    (5, ⟨.catalogue, 0⟩), (6, ⟨.catalogue, 0⟩), (7, ⟨.catalogue, 0⟩), (8, ⟨.factory, 0⟩)]⟩

def Media.reset : Media :=
  { blocks := initialBlocks, store := none, session := none, refreshList := [], refresh := none, ring := none,
    sequence := 0, pagesUsed := 0, mustCompact := false, records := [], appending := false, compaction := none,
    format := none, op := none, class2 := [], class3 := [], class4 := [] }

/-! ### Supply Monitor and Start-up Control (chapter 11) -/

/-- The supply record (R164): up to eight readings, oldest first; `mean` and `state` are absent before the first
mean. -/
structure Supply where
  readings : List Nat
  mean : Option Nat
  state : Option SupplyState
  changedAt : Word32
  deriving DecidableEq, Repr

def Supply.reset : Supply := ⟨[], none, none, 0⟩

/-- The hub states (R166). -/
inductive HubState where
  | starting | ready | failed
  deriving DecidableEq, Repr

/-- The major areas of the fail record (R167). -/
inductive Area where
  | memory | driver | flash | catalogue | factoryIndex
  deriving DecidableEq, Repr

/-- The fail record (R167). -/
structure FailRecord where
  major : Option Area
  minor : Nat
  params : List Nat
  failed : List Area
  deriving DecidableEq, Repr

def FailRecord.reset : FailRecord := ⟨none, 0, [], []⟩

/-- Start-up Control (R166 to R170). `held` says that RESET is asserted; `driverFaults` are the ports recorded by
start-up step 2. -/
structure HubRec where
  held : Bool
  state : HubState
  step : Nat
  time : Word32
  fail : FailRecord
  driverFaults : List Port
  resetPending : Bool
  deriving DecidableEq, Repr

def HubRec.reset : HubRec := ⟨false, .starting, 1, 0, .reset, [], false⟩

/-- The levels of the hub's input lines (section 0.1): the two enable lines, HOLD, each port's detect and driver fault
inputs, and SELECT of the Program Link (R1). -/
structure Pins where
  enable : PerLink Bool
  hold : Bool
  detect : PerPort Level
  fault : PerPort Bool
  select : Bool
  deriving DecidableEq, Repr

def Pins.quiet : Pins := ⟨⟨false, false⟩, false, .all .openCircuit, .all false, false⟩

end Sys2Proof.Machine
end

