-- ==== Sys2Proof/Machine/State.lean ====
section
/-! DEFINITION. The state of the hub: every record of every functional block, the input lines, and the queue of
commands that wait; and the state after reset. -/

namespace Sys2Proof.Machine

/-- The reasons a command can stop the hub with a fault. There is none: section 0.5 answers every wrong request with a
judgement code, and every other error of the manual is a count, an outcome or a state of a record. -/
inductive Fault where
  deriving DecidableEq, Repr

/-- The reasons a command is refused. -/
inductive Refusal where
  /-- Raised by an arm of exec whose command has no meaning yet (none in this model). Safe: the hub stops where the
  part would go on. -/
  | notModelled (mnemonic : String)
  deriving DecidableEq, Repr

/-- The state of the hub. `pending` is the queue of commands that wait, first in, first out. -/
structure State where
  pending : List Instr
  /-- Start-up Control: R166 to R170. -/
  hub : HubRec
  /-- The input lines: section 0.1. -/
  pins : Pins
  /-- The two Link Units: R3 to R15. -/
  links : PerLink LinkUnit
  /-- The records of ports A to F: R18. -/
  ports : PerPort PortRec
  /-- The holder of port I: R40. The rest of port I's record is fixed. -/
  holderI : Option Link
  /-- The six motor channels: R41. -/
  motors : PerPort Motor
  /-- The pair table, entries 0 to 2: R56. -/
  pairs : Table (Option Pair)
  /-- The channel sample records: R79. -/
  samples : PerChan Sample
  /-- The fourteen view records: R85. -/
  views : PerLink (PerChan View)
  /-- Port I's shared settings: R84. -/
  sharedI : SharedI
  /-- The brick state record: R95. -/
  brick : BrickState
  /-- The brick detector settings: R95. -/
  brickSet : BrickSettings
  /-- The detectors' working state: R95. -/
  brickWork : DetectorWork
  /-- The BRICK EVENT subscriptions: R103. -/
  subs : PerLink Byte
  /-- The watch slots, 0 to 7 of each link: R105. -/
  watches : PerLink (Table (Option Watch))
  /-- The two Report Schedulers: R111. -/
  scheds : PerLink Scheduler
  /-- The Sound Unit: R123, R124. -/
  sound : SoundUnit
  /-- The Asset Map: R138. -/
  assets : AssetMap
  /-- The Media Controller: R151. -/
  media : Media
  /-- The Supply Monitor: R164. -/
  supply : Supply
  deriving DecidableEq, Repr

/-- The seven views of a link after the three resets and at link DOWN, where no device is attached (R85): one value on
a port, six on port I. -/
def resetViews : PerChan View := ⟨.all (.reset 1), .reset 6⟩

/-- Every record at its reset value, with the input lines `pins` and the queue `pending`. Until READY sets them (R84),
port I's shared settings stand at the values READY gives with every view off: DESIGN CHOICE, notes/assumptions/45. -/
def State.fresh (pins : Pins) (pending : List Instr) : State :=
  { pending := pending, hub := .reset, pins := pins, links := ⟨.reset, .reset⟩, ports := .all .reset, holderI := none,
    motors := .all .reset, pairs := .empty, samples := ⟨.all (.cleared 1 0), .cleared 6 40000⟩,
    views := ⟨resetViews, resetViews⟩, sharedI := ⟨40000, 8000, 2000⟩, brick := .reset, brickSet := .reset,
    brickWork := .reset, subs := ⟨0, 0⟩, watches := ⟨.empty, .empty⟩, scheds := ⟨.reset, .reset⟩, sound := .reset,
    assets := .reset, media := .reset, supply := .reset }

/-- The hub right after reset (R166, R169), with quiet input lines and no command waiting. -/
def State.reset : State := .fresh .quiet []

end Sys2Proof.Machine
end

