-- ==== Sys2Proof/Machine/Operands.lean ====
section
/-! DEFINITION. The operand forms: reading the fields of a request body and writing the fields of a frame (section 0.5,
section 1.9), the rounding terms of section 0.5, and the code of every name that a field carries. -/

namespace Sys2Proof.Machine

/-! ### Arithmetic (section 0.5) -/

/-- The nearest value to `x` in `lo` to `hi`: clamping and saturation. -/
def clamp (lo hi x : Int) : Int := max lo (min hi x)

/-- The nearest natural number to `x` in `lo` to `hi`. -/
def clampNat (lo hi x : Nat) : Nat := max lo (min hi x)

/-- Division rounded up (ceil), for a positive divisor. -/
def ceilDiv (a b : Nat) : Nat := (a + b - 1) / b

/-- Division rounded toward zero. -/
def towardZero (a b : Int) : Int := a.tdiv b

/-- Division by a positive number, rounded to nearest, halves away from zero. -/
def nearest (a b : Int) : Int := a.sign * ((2 * (a.natAbs : Int) + b) / (2 * b))

/-- A count that saturates at `limit`. -/
def satAdd (limit n k : Nat) : Nat := min limit (n + k)

/-- The limit of a 32-bit count (R15). -/
def max32 : Nat := 4294967295

/-- The limit of a 16-bit count (R18, R95). -/
def max16 : Nat := 65535

/-- The next number of a counter that passes from 65,535 to 1 (R43, R79, R123). -/
def nextNumber (n : Nat) : Nat := if max16 ≤ n then 1 else n + 1

/-! ### Reading a body: multi-byte fields are sent least significant byte first (section 0.5) -/

def u8 (body : List Byte) (i : Nat) : Nat := (body.getD i 0).toNat

def u16 (body : List Byte) (i : Nat) : Nat := u8 body i + 256 * u8 body (i + 1)

def u32 (body : List Byte) (i : Nat) : Nat := u16 body i + 65536 * u16 body (i + 2)

/-- A signed field of `m` values (256 or 2³²), two's complement. -/
def signed (m n : Nat) : Int := if 2 * n < m then n else (n : Int) - m

def s8 (body : List Byte) (i : Nat) : Int := signed 256 (u8 body i)

def s32 (body : List Byte) (i : Nat) : Int := signed 4294967296 (u32 body i)

/-! ### Writing a body -/

def e8 (n : Nat) : List Byte := [BitVec.ofNat 8 n]

def e16 (n : Nat) : List Byte := [BitVec.ofNat 8 n, BitVec.ofNat 8 (n / 256)]

def e32 (n : Nat) : List Byte := e16 n ++ e16 (n / 65536)

def eTime (t : Word32) : List Byte := e32 t.toNat

/-- A signed 2-byte field. -/
def es16 (x : Int) : List Byte := e16 (BitVec.ofInt 16 x).toNat

/-- A signed 4-byte field; a number outside ±2³¹ has no stated bytes. -/
def es32 (x : Int) : List Byte :=
  if int32 x then e32 (BitVec.ofInt 32 x).toNat else e32 (Config.wideField x).toNat

def eBool (b : Bool) : List Byte := e8 (if b then 1 else 0)

/-! ### Codes -/

def linkCode : Link → Nat
  | .pl => 1
  | .tl => 2

/-- A holder or session link: 0 none, 1 PL, 2 TL (section 1.9). -/
def holderCode : Option Link → Nat
  | none => 0
  | some l => linkCode l

/-- The link that is not `l`. -/
def otherLink : Link → Link
  | .pl => .tl
  | .tl => .pl

def portCode : Port → Nat
  | .a => 0
  | .b => 1
  | .c => 2
  | .d => 3
  | .e => 4
  | .f => 5

/-- The port a number names; the callers have refused a number above 5. -/
def portOf : Nat → Port
  | 0 => .a
  | 1 => .b
  | 2 => .c
  | 3 => .d
  | 4 => .e
  | _ => .f

def chanCode : Chan → Nat
  | .port p => portCode p
  | .internal => 6

/-- The channel a number names: 0 to 5 are A to F, 6 is I. -/
def chanOf (n : Nat) : Chan := if n ≤ 5 then .port (portOf n) else .internal

def voiceCode : VoiceId → Nat
  | .v0 => 0
  | .v1 => 1
  | .v2 => 2
  | .v3 => 3

def queueCode : QueueId → Nat
  | .q0 => 0
  | .q1 => 1
  | .q2 => 2
  | .q3 => 3

def queueOf : Nat → QueueId
  | 0 => .q0
  | 1 => .q1
  | 2 => .q2
  | _ => .q3

def judgementCode : Judgement → Nat
  | .normalCompletion => 0
  | .portError => 1
  | .deviceMismatch => 2
  | .parameterError => 3
  | .heldByOtherLink => 4
  | .queueFull => 5
  | .busy => 6
  | .writeProtected => 7
  | .noSuchAsset => 8
  | .mediaError => 9
  | .supplyLow => 10
  | .tagInUse => 11
  | .unknownRequest => 12
  | .assetInUse => 13
  | .notReady => 14
  | .storeFull => 15
  | .sequenceError => 16
  | .deviceTimeout => 17
  | .portPaired => 18
  | .linkNotPermitted => 19

def endOutcomeCode : EndOutcome → Nat
  | .done => 0
  | .stalled => 1
  | .stallEnd => 2
  | .superseded => 3
  | .halted => 4
  | .removed => 5
  | .supply => 6
  | .preempted => 7
  | .starved => 8
  | .mediaError => 9
  | .stopped => 10
  | .released => 11

/-- The request codes of section 1.8. -/
def reqByte : ReqCode → Nat
  | .hubStatus => 0x01
  | .linkCounts => 0x02
  | .hubReset => 0x03
  | .portInfo => 0x10
  | .claimPort => 0x11
  | .releasePort => 0x12
  | .selectMode => 0x13
  | .portReset => 0x14
  | .move => 0x20
  | .halt => 0x21
  | .setZero => 0x22
  | .setGains => 0x23
  | .motorState => 0x24
  | .pairBind => 0x25
  | .pairUnbind => 0x26
  | .pairMove => 0x27
  | .viewSet => 0x30
  | .readValues => 0x31
  | .brickDetectSet => 0x32
  | .subscribe => 0x33
  | .watchSet => 0x34
  | .watchClear => 0x35
  | .watchState => 0x36
  | .brickState => 0x37
  | .rateSet => 0x38
  | .streamSet => 0x39
  | .streamEnable => 0x3A
  | .playTone => 0x40
  | .playClip => 0x41
  | .soundStop => 0x42
  | .volumeSet => 0x43
  | .soundState => 0x44
  | .assetInfo => 0x50
  | .assetRead => 0x51
  | .writeOpen => 0x52
  | .writeChunk => 0x53
  | .writeClose => 0x54
  | .writeCancel => 0x55
  | .assetDelete => 0x56
  | .assetAlias => 0x57
  | .assetProtect => 0x58
  | .marksRead => 0x59
  | .marksClear => 0x5A
  | .storeLock => 0x5B
  | .probePage => 0x5C
  | .storeState => 0x5D
  | .formatUser => 0x5E

/-- Every request code, in the table's order. -/
def allReqCodes : List ReqCode :=
  [.hubStatus, .linkCounts, .hubReset, .portInfo, .claimPort, .releasePort, .selectMode, .portReset, .move, .halt,
    .setZero, .setGains, .motorState, .pairBind, .pairUnbind, .pairMove, .viewSet, .readValues, .brickDetectSet,
    .subscribe, .watchSet, .watchClear, .watchState, .brickState, .rateSet, .streamSet, .streamEnable, .playTone,
    .playClip, .soundStop, .volumeSet, .soundState, .assetInfo, .assetRead, .writeOpen, .writeChunk, .writeClose,
    .writeCancel, .assetDelete, .assetAlias, .assetProtect, .marksRead, .marksClear, .storeLock, .probePage,
    .storeState, .formatUser]

/-- The request a CODE byte names, if any. -/
def reqOf (b : Byte) : Option ReqCode := allReqCodes.find? (fun c => reqByte c == b.toNat)

/-- The owner block of each request (section 1.8). -/
def ReqCode.owner : ReqCode → Owner
  | .hubStatus => .startUpControl
  | .linkCounts => .linkUnit
  | .hubReset => .startUpControl
  | .portInfo => .portService
  | .claimPort => .portService
  | .releasePort => .portService
  | .selectMode => .portService
  | .portReset => .portService
  | .move => .motionUnit
  | .halt => .motionUnit
  | .setZero => .motionUnit
  | .setGains => .motionUnit
  | .motorState => .motionUnit
  | .pairBind => .motionUnit
  | .pairUnbind => .motionUnit
  | .pairMove => .motionUnit
  | .viewSet => .sensingUnit
  | .readValues => .sensingUnit
  | .brickDetectSet => .detectorUnit
  | .subscribe => .detectorUnit
  | .watchSet => .detectorUnit
  | .watchClear => .detectorUnit
  | .watchState => .detectorUnit
  | .brickState => .detectorUnit
  | .rateSet => .reportScheduler
  | .streamSet => .reportScheduler
  | .streamEnable => .reportScheduler
  | .playTone => .soundUnit
  | .playClip => .soundUnit
  | .soundStop => .soundUnit
  | .volumeSet => .soundUnit
  | .soundState => .soundUnit
  | .assetInfo => .assetMap
  | .assetRead => .assetMap
  | .writeOpen => .mediaController
  | .writeChunk => .mediaController
  | .writeClose => .mediaController
  | .writeCancel => .mediaController
  | .assetDelete => .assetMap
  | .assetAlias => .assetMap
  | .assetProtect => .assetMap
  | .marksRead => .assetMap
  | .marksClear => .assetMap
  | .storeLock => .assetMap
  | .probePage => .assetMap
  | .storeState => .mediaController
  | .formatUser => .mediaController

def levelCode : Level → Nat
  | .openCircuit => 0
  | .level1 => 1
  | .level2 => 2
  | .level3 => 3

def portStateCode : PortState → Nat
  | .empty => 0
  | .settling => 1
  | .identifying => 2
  | .active => 3
  | .rejected => 4
  | .fault => 5

def faultCode : Option FaultReason → Nat
  | none => 0
  | some .overload => 1
  | some .silent => 2
  | some .identTimeout => 3

def rejectCode : Option RejectReason → Nat
  | none => 0
  | some .supplyDemand => 1
  | some .speed => 2
  | some .record => 3

def classCode : DeviceClass → Nat
  | .sensor => 0
  | .motor => 1
  | .plainMotor => 2
  | .lamp => 3
  | .internal => 4

def chanStateCode : ChanState → Nat
  | .free => 0
  | .braked => 1
  | .holding => 2
  | .running => 3

def phaseCode : Phase → Nat
  | .idle => 0
  | .accel => 1
  | .cruise => 2
  | .decel => 3
  | .settle => 4
  | .hold => 5
  | .duty => 6

def moveKindCode : MoveKind → Nat
  | .speed => 0
  | .degrees => 1
  | .position => 2
  | .time => 3
  | .duty => 4

def moveKindOf : Nat → MoveKind
  | 0 => .speed
  | 1 => .degrees
  | 2 => .position
  | 3 => .time
  | _ => .duty

def endActionOf : Nat → EndAction
  | 0 => .coast
  | 1 => .brake
  | _ => .hold

def stallOf (n : Nat) : StallPolicy := if n = 0 then .fail else .finish

def filterOf : Nat → FilterKind
  | 0 => .none
  | 1 => .low
  | 2 => .high
  | _ => .slope

def faceCode : Face → Nat
  | .unknown => 0
  | .up => 1
  | .down => 2
  | .front => 3
  | .back => 4
  | .left => 5
  | .right => 6

def axisCode : Axis → Nat
  | .x => 0
  | .y => 1
  | .z => 2

def tapKindCode : TapKind → Nat
  | .none => 0
  | .single => 1
  | .double => 2

def brickKindCode : BrickKind → Nat
  | .orientation => 0
  | .singleTap => 1
  | .doubleTap => 2
  | .fallStart => 3
  | .fallEnd => 4
  | .moving => 5
  | .still => 6

def conditionCode : Condition → Nat
  | .above => 0
  | .below => 1
  | .inside => 2
  | .outside => 3

def conditionOf : Nat → Condition
  | 0 => .above
  | 1 => .below
  | 2 => .inside
  | _ => .outside

def watchStateCode : WatchState → Nat
  | .disarmed => 1
  | .armed => 2
  | .pending => 3
  | .fired => 4

def disarmCode : Option DisarmReason → Nat
  | none => 0
  | some .mode => 1
  | some .departed => 2
  | some .view => 3

def supplyCode : SupplyState → Nat
  | .normal => 0
  | .low => 1
  | .cutoff => 2

def storeCode : StoreState → Nat
  | .offline => 0
  | .ready => 1
  | .readOnly => 2

def storeEventCode : StoreEventKind → Nat
  | .committed => 0
  | .failed => 1
  | .stateChanged => 2
  | .formatted => 3

def assetKindCode : AssetKind → Nat
  | .program => 0
  | .sound => 1
  | .data => 2
  | .settings => 3

def assetKindOf : Nat → AssetKind
  | 0 => .program
  | 1 => .sound
  | 2 => .data
  | _ => .settings

def formatCode : SoundFormat → Nat
  | .none => 0
  | .u8at8k => 1
  | .u8at16k => 2
  | .s16at8k => 3
  | .s16at16k => 4

def formatOf : Nat → SoundFormat
  | 0 => .none
  | 1 => .u8at8k
  | 2 => .u8at16k
  | 3 => .s16at8k
  | _ => .s16at16k

def protectionCode : Protection → Nat
  | .opened => 0
  | .readOnly => 1
  | .fixed => 2

def protectionOf : Nat → Protection
  | 0 => .opened
  | 1 => .readOnly
  | _ => .fixed

def hubStateCode : HubState → Nat
  | .starting => 0
  | .ready => 1
  | .failed => 2

def areaCode : Area → Nat
  | .memory => 1
  | .driver => 2
  | .flash => 3
  | .catalogue => 4
  | .factoryIndex => 5

def voiceStageCode : VoiceStage → Nat
  | .priming => 1
  | .playing => 2
  | .starving => 3

/-- A raw value read in a mode's value format as a signed number (R80): 0 int8, 1 int16, 2 int32. -/
def inFormat (format : Nat) (raw : Int) : Int :=
  match format with
  | 0 => raw.bmod 256
  | 1 => raw.bmod 65536
  | _ => raw.bmod 4294967296

/-- The least and greatest number of a value format (R25). -/
def formatRange : Nat → Int × Int
  | 0 => (-128, 127)
  | 1 => (-32768, 32767)
  | _ => (-2147483648, 2147483647)

end Sys2Proof.Machine
end

