-- ==== Sys2Proof/Machine/Flags.lean ====
section
/-! DEFINITION. The flag bytes that frames carry: each flag at the bit its rule gives it. -/

namespace Sys2Proof.Machine

/-- A byte from its flags, bit 0 first. -/
def flagByte : List Bool → Nat
  | [] => 0
  | b :: rest => (if b then 1 else 0) + 2 * flagByte rest

/-- Bit `k` of a number. -/
def bit (n k : Nat) : Bool := n.testBit k

/-- The flags of a REPORT member block (section 1.9): fresh, stamp present, view off. -/
def memberFlags (fresh stamp off : Bool) : Nat := flagByte [fresh, stamp, off]

/-- The clipped flags of a member block: bit k for value k. -/
def clippedFlags (c : List Bool) : Nat := flagByte c

/-- The marks field of ASSET INFO and PROBE PAGE: bit 0 changed, bit 1 read (R145, section 1.9). -/
def marksFlags (e : DirEntry) : Nat := flagByte [e.changed, e.read]

/-- The flags of a PROBE PAGE record: bit 0 cache hit, bit 1 factory directory (section 1.9). -/
def probeFlags (hit factory : Bool) : Nat := flagByte [hit, factory]

/-- The enables of BRICK DETECT SET and BRICK STATE (R102). -/
def enableFlags (b : BrickSettings) : Nat := flagByte [b.orientation, b.tap, b.freeFall, b.motion]

/-- The areas-failed field of HUB STATUS: bit k − 1 for major area k (R168). -/
def areaFlags (f : FailRecord) : Nat :=
  flagByte [decide (Area.memory ∈ f.failed), decide (Area.driver ∈ f.failed), decide (Area.flash ∈ f.failed),
    decide (Area.catalogue ∈ f.failed), decide (Area.factoryIndex ∈ f.failed)]

/-- The supported speeds of PORT INFO (section 1.9). -/
def speedFlags (s : SpeedSet) : Nat := flagByte [s.b2400, s.b9600, s.b57600, s.b115200, s.b460800]

/-- The port mask of a DRIVER failure: bit 0 is port A (R167). -/
def portMask (ps : List Port) : Nat := flagByte (allPorts.map (fun p => decide (p ∈ ps)))

end Sys2Proof.Machine
end

