-- ==== Sys2Proof/Machine/Frames.lean ====
section
/-! DEFINITION. Frames (section 1.9): the check of R5, the frame around a body, the notice bodies, and the PORT INFO and
REPORT member layouts. -/

namespace Sys2Proof.Machine

/-- One bit of the CRC-16 of R5: polynomial 1021H, most significant bit first. -/
def crcBit (crc : Word16) : Word16 := if crc.msb then (crc <<< 1) ^^^ 0x1021#16 else crc <<< 1

/-- One byte of the CRC-16 of R5. -/
def crcByte (crc : Word16) (b : Byte) : Word16 :=
  let c := crc ^^^ ((b.setWidth 16) <<< 8)
  crcBit (crcBit (crcBit (crcBit (crcBit (crcBit (crcBit (crcBit c)))))))

/-- The check of R5: initial value FFFFH, no final exclusive-OR. -/
def crc16 (bytes : List Byte) : Word16 := bytes.foldl crcByte 0xFFFF#16

/-- The bytes of a frame from LENGTH through BODY: what CHECK covers (R5). -/
def frameCore (kind tag code : Byte) (body : List Byte) : List Byte :=
  e16 (body.length + 3) ++ [kind, tag, code] ++ body

/-- A whole frame: SYNC, LENGTH, KIND, TAG, CODE, BODY, CHECK (section 1.9). -/
def frameBytes (kind tag code : Byte) (body : List Byte) : List Byte :=
  [0xC3#8] ++ frameCore kind tag code body ++ e16 (crc16 (frameCore kind tag code body)).toNat

/-- An optional 1-byte field: FFH where it is absent. -/
def eOpt8 (x : Option Nat) : List Byte := e8 (x.getD 255)

/-- The notice code of section 1.8. -/
def noticeCode : NoticeBody → Nat
  | .portChanged .. => 0x80
  | .modeChanged .. => 0x81
  | .motionDone .. => 0x82
  | .watchFired .. => 0x83
  | .brickEvent .. => 0x84
  | .soundDone .. => 0x85
  | .storeEvent .. => 0x86
  | .supplyChanged .. => 0x87

/-- The body of a notice after the common notice header (R19, R38, R49, R108, R101, R133, R162, R165). The class byte of
PORT CHANGED for a REJECTED record offered as INTERNAL is 4, as in PORT INFO: DESIGN CHOICE, notes/assumptions/61. -/
def noticeBytes : NoticeBody → List Byte
  | .portChanged p new previous generation detect device reason =>
    e8 (portCode p) ++ e8 (portStateCode new) ++ e8 (portStateCode previous) ++ e8 generation ++ e8 (levelCode detect) ++
      eOpt8 (device.map (fun d => classCode d.1)) ++ e16 ((device.map (·.2)).getD 0) ++ e8 reason
  | .modeChanged p generation new previous => e8 (portCode p) ++ e8 generation ++ e8 new ++ eOpt8 previous
  | .motionDone p pair number outcome position error second =>
    e8 (portCode p) ++ eOpt8 pair ++ e16 number ++ e8 (endOutcomeCode outcome) ++ es32 position ++ es32 error ++
      (match second with
        | none => []
        | some (position2, error2) => es32 position2 ++ es32 error2)
  | .watchFired slot chan index value sequence clipped fires action result ended =>
    e8 slot ++ e8 (chanCode chan) ++ e8 index ++ es32 value ++ e16 sequence ++ eBool clipped ++ e16 fires ++ e8 action ++
      e8 result ++ e8 ended
  | .brickEvent kind orientation previous tap time count =>
    e8 (brickKindCode kind) ++ e8 (faceCode orientation) ++ e8 (faceCode previous) ++
      eOpt8 (tap.map (fun t => axisCode t.1)) ++ eOpt8 (tap.map (fun t => if t.2 then 1 else 0)) ++ eTime time ++
      e16 count
  | .soundDone number clip outcome voice asset version loops =>
    e16 number ++ eBool clip ++ e8 (endOutcomeCode outcome) ++ eOpt8 (voice.map voiceCode) ++ e16 asset ++ e16 version ++
      e8 loops
  | .storeEvent kind after previous asset version =>
    e8 (storeEventCode kind) ++ e8 (storeCode after) ++ e8 (storeCode previous) ++ e16 (asset.getD 0xFFFF) ++ e16 version
  | .supplyChanged new previous mean => e8 (supplyCode new) ++ e8 (supplyCode previous) ++ e16 mean

/-- A NOTICE frame (R11, R16): the common notice header carries the drop count and the time of the notice. -/
def noticeFrame (drops : Nat) (n : Notice) : List Byte :=
  frameBytes 4#8 0#8 (BitVec.ofNat 8 (noticeCode n.body)) (e8 drops ++ eTime n.time ++ noticeBytes n.body)

/-- A RESPONSE frame (R16). -/
def responseFrame (tag : Byte) (j : Judgement) (body : List Byte) : List Byte :=
  frameBytes 2#8 tag (BitVec.ofNat 8 (judgementCode j)) body

/-- A REPORT frame (R16, R117). -/
def reportFrame (f : ReportFrame) : List Byte := frameBytes 3#8 0#8 (BitVec.ofNat 8 f.stream) f.body

/-- A mode record of PORT INFO (section 1.9). -/
def modeBytes (m : ModeRecord) : List Byte :=
  e8 m.name ++ e8 m.count ++ e8 m.format ++ es32 m.rawMin ++ es32 m.rawMax ++ es32 m.scaledMin ++ es32 m.scaledMax ++
    e8 m.unit ++ e16 m.minInterval

/-- The device record part of PORT INFO, from offset 23 (section 1.9). A REJECTED record that the layout has no room for
(more than 8 modes, a motor part beside another class, a MOTOR without one) is sent as it was offered: the number of
its modes, and presence by the part itself. DESIGN CHOICE, notes/assumptions/51. -/
def deviceBytes (d : DeviceRecord) : List Byte :=
  e8 (classCode d.kind) ++ e16 d.typeNumber ++ e32 d.serial ++ e8 (speedFlags d.speeds) ++ e16 d.supplyDemand ++
    (match d.motor with
      | none => eBool false ++ e16 0 ++ e16 0 ++ e8 0
      | some m => eBool true ++ e16 m.cpr ++ e16 m.maxSpeed ++ e8 m.size) ++
    e8 d.modes.length ++ (d.modes.map modeBytes).flatten

/-- A REPORT member block (section 1.9). -/
def memberBlock (c : Chan) (mode : Option Nat) (flags : Nat) (clipped : List Bool) (sequence : Nat) (time : Word32)
    (stamp : Option Stamp) (values : List Int) : List Byte :=
  e8 (chanCode c) ++ eOpt8 mode ++ e8 flags ++ e8 values.length ++ e8 (clippedFlags clipped) ++ e16 sequence ++ eTime time ++
    (match stamp with
      | none => []
      | some t => e16 t.number ++ e8 (phaseCode t.phase)) ++
    (values.map es32).flatten

end Sys2Proof.Machine
end

