-- ==== Sys2Proof/Machine/Ops.lean ====
section
/-! DEFINITION. The shared operations: reading and writing each kind of record, handing over a response or a notice
(R8, R10), the request checks in their order (section 1.3), taking an admitted request, and the expiry of a timer. -/

namespace Sys2Proof.Machine

/-! ### Reading and writing records -/

def State.link (s : State) (l : Link) : LinkUnit := s.links.get l
def State.port (s : State) (p : Port) : PortRec := s.ports.get p
def State.motor (s : State) (p : Port) : Motor := s.motors.get p
def State.pair (s : State) (k : Nat) : Option Pair := s.pairs.get none k
def State.sample (s : State) (c : Chan) : Sample := s.samples.get c
def State.view (s : State) (l : Link) (c : Chan) : View := (s.views.get l).get c
def State.watch (s : State) (l : Link) (slot : Nat) : Option Watch := (s.watches.get l).get none slot
def State.sched (s : State) (l : Link) : Scheduler := s.scheds.get l
def State.stream (s : State) (l : Link) (n : Nat) : Stream := (s.sched l).streams.get .undefined n
def State.voice (s : State) (v : VoiceId) : Option Voice := s.sound.voices.get v
def State.entry (s : State) (n : Nat) : DirEntry := s.assets.directory.get .absent n
def State.block (s : State) (b : Nat) : Block := s.media.blocks.get .unscanned b

def State.setLink (s : State) (l : Link) (u : LinkUnit) : State := { s with links := s.links.set l u }
def State.setPort (s : State) (p : Port) (r : PortRec) : State := { s with ports := s.ports.set p r }
def State.setMotor (s : State) (p : Port) (m : Motor) : State := { s with motors := s.motors.set p m }
def State.setPair (s : State) (k : Nat) (x : Option Pair) : State := { s with pairs := s.pairs.set none k x }
def State.setSample (s : State) (c : Chan) (x : Sample) : State := { s with samples := s.samples.set c x }
def State.setView (s : State) (l : Link) (c : Chan) (v : View) : State :=
  { s with views := s.views.set l ((s.views.get l).set c v) }
def State.setWatch (s : State) (l : Link) (slot : Nat) (w : Option Watch) : State :=
  { s with watches := s.watches.set l ((s.watches.get l).set none slot w) }
def State.setSched (s : State) (l : Link) (x : Scheduler) : State := { s with scheds := s.scheds.set l x }
def State.setSound (s : State) (u : SoundUnit) : State := { s with sound := u }
def State.setVoice (s : State) (v : VoiceId) (x : Option Voice) : State :=
  { s with sound := { s.sound with voices := s.sound.voices.set v x } }
def State.setAssets (s : State) (a : AssetMap) : State := { s with assets := a }
def State.setMedia (s : State) (m : Media) : State := { s with media := m }
def State.setHub (s : State) (h : HubRec) : State := { s with hub := h }
def State.setPins (s : State) (p : Pins) : State := { s with pins := p }
def State.setSupply (s : State) (x : Supply) : State := { s with supply := x }

/-- Hub time now. -/
def State.now (s : State) : Word32 := s.hub.time

/-! ### Notices and responses -/

/-- A notice joins the notice queue; a full queue loses its oldest notice and counts it (R10, R11). -/
def LinkUnit.queueNotice (u : LinkUnit) (n : Notice) : LinkUnit :=
  if u.notices.length < 16 then { u with notices := u.notices ++ [n] }
  else { u with
    notices := u.notices.drop 1 ++ [n]
    drops := satAdd 255 u.drops 1
    counts := { u.counts with noticesDropped := satAdd max32 u.counts.noticesDropped 1 } }

/-- Hands a notice to one link; a DOWN link's notice is discarded (R10). -/
def State.notify (s : State) (l : Link) (b : NoticeBody) : State :=
  if (s.link l).up then s.setLink l ((s.link l).queueNotice ⟨b, s.now⟩) else s

/-- Hands a notice to both UP links (R10). -/
def State.notifyBoth (s : State) (b : NoticeBody) : State := (s.notify .pl b).notify .tl b

/-- Hands over the response of one admitted request; with no such entry left it is dropped (R8). -/
def LinkUnit.handOver (u : LinkUnit) (serial : Nat) (j : Judgement) (body : List Byte) : LinkUnit :=
  match u.table.find? (fun e => e.serial == serial && e.stage != .answered) with
  | none => u
  | some e => { u with
      table := u.table.map (fun x => if x.serial = serial then { x with stage := .answered } else x)
      ready := u.ready ++ [.response serial e.tag e.code j body] }

/-- Hands over the response to a request. -/
def State.respond (s : State) (t : Ticket) (j : Judgement) (body : List Byte) : State :=
  s.setLink t.link ((s.link t.link).handOver t.serial j body)

/-- A response that refuses: empty BODY (R8). -/
def State.refuse (s : State) (t : Ticket) (j : Judgement) : State := s.respond t j []

/-- A response NORMAL COMPLETION. -/
def State.complete (s : State) (t : Ticket) (body : List Byte) : State := s.respond t .normalCompletion body

/-! ### Requests -/

/-- The first check that fails gives the judgement (section 1.3). -/
def judge : List (Bool × Judgement) → Option Judgement
  | [] => none
  | (failed, j) :: rest => if failed then some j else judge rest

/-- Answers a request by its checks: refused by the first that fails, carried out when none does. -/
def State.check (s : State) (t : Ticket) (checks : List (Bool × Judgement)) (effect : State → State) : State :=
  match judge checks with
  | some j => s.refuse t j
  | none => effect s

/-- The serial and body of the admitted request with this TAG and request code that its owner has not yet taken. -/
def LinkUnit.routed (u : LinkUnit) (tag : Byte) (code : ReqCode) : Option (Nat × List Byte) :=
  match u.table.find? (fun e => e.tag == tag && e.code == code) with
  | some { stage := .routed body, serial := n, .. } => some (n, body)
  | _ => none

/-- The table after the owner has taken the request. -/
def LinkUnit.take (u : LinkUnit) (serial : Nat) : LinkUnit :=
  { u with table := u.table.map (fun x => if x.serial = serial then { x with stage := .working } else x) }

/-- The owner block takes the request `code` admitted on link `l` under TAG `tag` and handles it; where no such request
waits for its owner, there is nothing to take. So a request not yet taken when its link goes DOWN, which removes its entry
(R14), is never carried out: DESIGN CHOICE, notes/assumptions/73. -/
def State.serve (s : State) (l : Link) (tag : Byte) (code : ReqCode)
    (handle : Ticket → List Byte → State → State) : State :=
  match (s.link l).routed tag code with
  | none => s
  | some (serial, body) => handle ⟨l, serial⟩ body (s.setLink l ((s.link l).take serial))

/-! ### Time and reset -/

/-- A timer started at `start` runs out after `ms`: hub time moves on to that moment if it has not reached it. -/
def State.expire (s : State) (start : Word32) (ms : Nat) : State :=
  if elapsed s.now start < ms then { s with hub := { s.hub with time := start + BitVec.ofNat 32 ms } } else s

/-- While RESET is asserted the hub is held and nothing happens in it (R169). -/
def State.unlessHeld (s : State) (f : State → State) : State := if s.hub.held then s else f s

/-- Every record at its value after power-on, the RESET input and HUB RESET; start-up begins at step 1 (R166, R169).
The input lines keep their levels and the waiting commands wait on. -/
def State.restart (s : State) : State := State.fresh s.pins s.pending

/-! ### Supply and hub tests -/

def State.hubReady (s : State) : Bool := s.hub.state == .ready
def State.cutoff (s : State) : Bool := s.supply.state == some .cutoff
def State.low (s : State) : Bool := s.supply.state == some .low

/-! ### Ports as the other blocks read them -/

def State.active (s : State) (p : Port) : Bool := (s.port p).state == .active

/-- The class of the device on a port, if it has a device record. -/
def State.classOf (s : State) (p : Port) : Option DeviceClass := (s.port p).device.map (·.kind)

/-- Whether the link that did not send the request holds the port. -/
def State.heldByOther (s : State) (l : Link) (p : Port) : Bool := (s.port p).holder == some (otherLink l)

/-- The claim of a port by a link (R34, R35). -/
def State.claim (s : State) (l : Link) (p : Port) : State := s.setPort p { s.port p with holder := some l }

/-- Port checks 1 to 3 of R33 for a request on ports A to F: number, state ACTIVE, expected generation. -/
def State.portChecks (s : State) (n generation : Nat) : List (Bool × Judgement) :=
  [(decide (5 < n), .portError), (!s.active (portOf n), .portError),
    (decide (generation ≠ 0) && decide (generation ≠ (s.port (portOf n)).generation), .deviceMismatch)]

/-- Port checks 1 to 3 of R33 where the request accepts port I, which is ACTIVE with generation 1 once the hub is READY
(R33, R40). -/
def State.chanChecks (s : State) (n generation : Nat) : List (Bool × Judgement) :=
  if n = 6 then
    [(!s.hubReady, .portError), (decide (generation ≠ 0) && decide (generation ≠ 1), .deviceMismatch)]
  else s.portChecks n generation

end Sys2Proof.Machine
end

