-- ==== Sys2Proof/Machine/MotionOps.lean ====
section
/-! DEFINITION. The operations of the Motion Unit (chapters 3 and 4): conversions, starting and ending commands, profile
steps, settling, the control law, the stall test, and the acts of other blocks on commands. -/

namespace Sys2Proof.Machine

/-- The limit of a position and of a target, in counts (R41, R62). -/
def maxCounts : Int := 2000000000

/-- The limit of a reference, in milli-counts (R63). -/
def maxMilli : Int := 2000000000000

/-! ### The device under a channel -/

def State.motorPart (s : State) (p : Port) : Option MotorPart := (s.port p).device.bind (·.motor)

/-- CPR of the motor on a port; 0 without encoder. -/
def State.cpr (s : State) (p : Port) : Nat := ((s.motorPart p).map (·.cpr)).getD 0

/-- The position in degrees: position × 360 / CPR, rounded toward zero; 0 without encoder (R49, R55, R81). -/
def State.degrees (s : State) (p : Port) : Int := towardZero ((s.motor p).position * 360) (s.cpr p)

/-- The measured speed in deg/s (R64); 0 without encoder. -/
def State.degSpeed (s : State) (p : Port) : Int := towardZero ((s.motor p).speed * 360) (s.cpr p)

/-- The default gains of a size class (R41): 0 S, 1 M, 2 L. -/
def sizeGains : Nat → Gains
  | 0 => ⟨120, 15, true⟩
  | 1 => ⟨150, 20, true⟩
  | _ => ⟨200, 25, true⟩

/-- Sets up the channel at the attach announcement (R41). -/
def State.attachMotor (s : State) (p : Port) : State :=
  s.setMotor p { Motor.reset with gains := (s.motorPart p).map (fun m => sizeGains m.size) }

/-! ### Conversions (R62) -/

/-- v_max in counts/s. -/
def vMaxOf (m : MotorPart) : Int := towardZero ((m.maxSpeed : Int) * m.cpr) 360

/-- The distance of an amount in degrees, in counts. -/
def distanceOf (m : MotorPart) (degrees : Int) : Int := nearest (degrees * m.cpr) 360

/-- The settle tolerance in counts. -/
def tolOf (m : MotorPart) : Int := max 1 (towardZero m.cpr 120)

/-- The ramp step in counts/s per period. -/
def rampStep (vmax : Int) (ramp : Nat) : Int :=
  if ramp = 0 then vmax else max 1 (ceilDiv (vmax.toNat * 5) ramp : Nat)

/-- The speed that runs the profile: the lead motor's in a pair (R62, R76). -/
def leadSpeed (c : Command) : Int :=
  if c.pair.isNone || decide (c.speedB.natAbs ≤ c.speed.natAbs) then c.speed else c.speedB

/-- The follower's speed in a pair (R76). -/
def followSpeed (c : Command) : Int :=
  if decide (c.speedB.natAbs ≤ c.speed.natAbs) then c.speedB else c.speed

/-- The lead port of a pair command: the larger magnitude of clamped speed, the first port on a tie (R76). -/
def leadPort (c : Command) (q : Pair) : Port :=
  if decide (c.speedB.natAbs ≤ c.speed.natAbs) then q.first else q.second

/-- The follower's port. -/
def followPort (c : Command) (q : Pair) : Port :=
  if decide (c.speedB.natAbs ≤ c.speed.natAbs) then q.second else q.first

/-! ### Profile steps (R67 to R70) -/

/-- w, the speed along the direction of travel. -/
def Profile.w (q : Profile) : Int := q.v * q.d

/-- Steps 3 and 5 of R67: the new w and the phase R68 gives it. -/
def Profile.speedStep (q : Profile) : Int × Phase :=
  if q.w < 0 then (min 0 (q.w + q.dv), .decel)
  else if q.w = q.vt then (q.w, .cruise)
  else if q.w < q.vt then (min (q.w + q.dv) q.vt, .accel)
  else (max (q.w - q.dv) q.vt, .decel)

/-- The braking distance D of R67 in milli-counts: ceil(5 × w² / (2 × Δv)). -/
def Profile.braking (q : Profile) : Int := (ceilDiv (5 * (q.w.natAbs * q.w.natAbs)) (2 * q.dv.toNat) : Nat)

/-- The remaining distance R of R67 in milli-counts. -/
def Profile.remaining (q : Profile) : Int := (q.target * 1000 - q.pRef) * q.d

/-- Steps 3 to 5 of R67: the new w and its phase. -/
def Profile.boundedSpeed (q : Profile) : Int × Phase :=
  if q.w < 0 then q.speedStep
  else if q.remaining ≤ q.braking then (max (q.w - q.dv) q.dv, .decel)
  else q.speedStep

/-- p_ref advances by 5 × w × d milli-counts, saturating, and v becomes w × d (R67 stage 6, R69, R70). -/
def Profile.advance (q : Profile) (x : Int × Phase) : Profile :=
  { q with pRef := clamp (-maxMilli) maxMilli (q.pRef + 5 * x.1 * q.d), v := x.1 * q.d, phase := x.2 }

/-- One profile step of a SPEED command, and of the run part of a TIME command (R69, R70). -/
def Profile.speedAdvance (q : Profile) : Profile := q.advance q.speedStep

/-- One profile step of a DEGREES or POSITION command (R67). -/
def Profile.boundedAdvance (q : Profile) : Profile :=
  let q' := q.advance q.boundedSpeed
  if q'.remaining ≤ 0 then { q' with pRef := q.target * 1000, v := 0, phase := .settle, settling := true } else q'

/-- One ramp-down step of a TIME command (R70). -/
def Profile.rampDownAdvance (q : Profile) : Profile :=
  q.advance ((if 0 < q.w then max 0 (q.w - q.dv) else min 0 (q.w + q.dv)), .decel)

/-- The number of periods of a TIME command's run part (R70). -/
def runPeriods (amount : Int) : Nat := ceilDiv amount.toNat 5

/-- Whether a kind is position-bounded. -/
def MoveKind.bounded : MoveKind → Bool
  | .degrees => true
  | .position => true
  | _ => false

/-! ### Starting a command (R62, R66) -/

/-- How a command comes to start. -/
inductive StartFrom where
  | request
  | afterDone
  | afterStall
  deriving DecidableEq, Repr

/-- The starting v, p_ref and integral of R66, and whether the row keeps the integral (and with it the previous u,
R72) or sets it to 0. -/
structure StartRefs where
  v : Int
  pRef : Int
  integral : Int
  prevU : Int
  deriving DecidableEq, Repr

/-- A row of R66 that starts from rest at the present position with integral 0. -/
def Motor.fromRest (m : Motor) : StartRefs := ⟨0, m.position * 1000, 0, 0⟩

/-- The row of R66 that the channel is in at a command's start. -/
def startRefs (m : Motor) (origin : StartFrom) (vmax : Int) : StartRefs :=
  match origin with
  | .afterDone => ⟨0, m.profile.pRef, m.integral, m.profile.prevU⟩
  | .afterStall => m.fromRest
  | .request =>
    match m.state with
    | .free => m.fromRest
    | .braked => m.fromRest
    | .holding => ⟨0, (m.holdTarget.getD m.position) * 1000, m.integral, m.profile.prevU⟩
    | .running =>
      match m.active with
      | some { kind := .duty, .. } => ⟨clamp (-vmax) vmax m.speed, m.position * 1000, 0, 0⟩
      | _ => ⟨m.profile.v, m.profile.pRef, m.integral, m.profile.prevU⟩

/-- The target of R62 for a command that starts with reference `pRef`. A SPEED or TIME command, to which R62 gives none,
has 0: DESIGN CHOICE, notes/assumptions/78. -/
def targetOf (part : MotorPart) (c : Command) (pRef : Int) : Int :=
  match c.kind with
  | .degrees =>
    clamp (-maxCounts) maxCounts (towardZero pRef 1000 + distanceOf part c.amount * (leadSpeed c).sign)
  | .position => distanceOf part c.amount
  | _ => 0

/-- The direction of travel d of R62. Where target × 1,000 equals p_ref there is no sign and no travel; the model has +1.
DESIGN CHOICE, notes/assumptions/54. -/
def directionOf (c : Command) (target pRef v : Int) : Int :=
  match c.kind with
  | .degrees => if target * 1000 < pRef then -1 else 1
  | .position => if target * 1000 < pRef then -1 else 1
  | .speed => if leadSpeed c = 0 then (if v < 0 then -1 else 1) else (leadSpeed c).sign
  | .time => (leadSpeed c).sign
  | .duty => 1

/-- A command with no travel (R46, R67). -/
def noTravel (c : Command) (target pRef position tol : Int) : Bool :=
  match c.kind with
  | .degrees => decide (target * 1000 = pRef) || decide (c.amount = 0)
  | .position => decide (target * 1000 = pRef) || decide (((target - position).natAbs : Int) ≤ tol)
  | _ => false

/-- The phase that the first profile step gives (R66). -/
def firstPhase (c : Command) (q : Profile) : Phase :=
  if c.kind.bounded then q.boundedAdvance.phase
  else if decide (c.kind = .time) && decide (runPeriods c.amount < 1) then .decel
  else q.speedAdvance.phase

/-- The profile of an encoder command at its start (R62, R66, R67). -/
def startProfile (part : MotorPart) (c : Command) (position : Int) (refs : StartRefs) : Profile :=
  let vmax := vMaxOf part
  let target := targetOf part c refs.pRef
  let q : Profile :=
    { v := refs.v, pRef := refs.pRef, dv := rampStep vmax c.ramp
      vt := towardZero ((leadSpeed c).natAbs * vmax) 100
      vmax := vmax, tol := tolOf part, target := target, d := directionOf c target refs.pRef refs.v
      elapsed := 0, inTol := 0, settleTimer := 0, settling := false, rampDown := false
      phase := .settle, start := refs.pRef, prevU := refs.prevU }
  if noTravel c target refs.pRef position (tolOf part) then
    { q with pRef := target * 1000, v := 0, settling := true, phase := .settle }
  else { q with phase := firstPhase c q }

/-- The channel with an encoder command active on it from this moment (R66). -/
def Motor.startEncoder (m : Motor) (part : MotorPart) (c : Command) (origin : StartFrom) : Motor :=
  let refs := startRefs m origin (vMaxOf part)
  { m with state := .running, active := some c, profile := startProfile part c m.position refs, integral := refs.integral,
           stallTimer := 0, holdTarget := none }

/-- The channel with a DUTY command active on it (R66, R74). The fields of its profile that no rule names, Δv and the target
among them, are as at attach: DESIGN CHOICE, notes/assumptions/78. -/
def Motor.startDuty (m : Motor) (c : Command) : Motor :=
  { m with state := .running, active := some c, integral := 0, stallTimer := 0, holdTarget := none,
           profile := { Profile.reset with pRef := m.position * 1000, phase := .duty } }

/-- The follower's channel at the start of a pair command: its own reference by R66, kept as start_f (R76), and the
lead's phase. Where the lead has no travel it is in SETTLE from the start, and the follower's target is its own starting
reference / 1,000 toward zero, on which p_ref stands with v 0. DESIGN CHOICE, notes/assumptions/53. -/
def Motor.startFollower (m : Motor) (part : MotorPart) (origin : StartFrom) (lead : Profile) : Motor :=
  let refs := startRefs m origin (vMaxOf part)
  let target := towardZero refs.pRef 1000
  { m with state := .running, active := none, integral := refs.integral, stallTimer := 0, holdTarget := none,
           profile := { lead with
             v := if lead.settling then 0 else refs.v
             pRef := if lead.settling then target * 1000 else refs.pRef
             target := target, start := refs.pRef
             prevU := refs.prevU } }

/-- A command becomes active on the channel of port `p`; a pair command on both ports of its pair (R66, R76). -/
def State.startCommand (s : State) (p : Port) (c : Command) (origin : StartFrom) : State :=
  match s.motorPart p, c.pair.bind s.pair with
  | some part, some q =>
    let lp := leadPort c q
    let fp := followPort c q
    let lead := (s.motor lp).startEncoder part c origin
    let follower := (s.motor fp).startFollower part origin lead.profile
    let s1 := (s.setMotor lp lead).setMotor fp follower
    (s1.setMotor q.second { s1.motor q.second with active := none }).setMotor q.first
      { s1.motor q.first with active := some c }
  | some part, none =>
    if c.kind = .duty then s.setMotor p ((s.motor p).startDuty c)
    else s.setMotor p ((s.motor p).startEncoder part c origin)
  | none, _ => s.setMotor p ((s.motor p).startDuty c)

/-! ### Ending commands (R43, R49, R50) -/

/-- The channel in FREE or BRAKED (R42, R50, R66, R72). The previous u becomes 0 here, so that a HALT with HOLD finds it
0: R72 gives it a value at a start alone. DESIGN CHOICE, notes/assumptions/42. -/
def Motor.rest (m : Motor) (st : ChanState) : Motor :=
  { m with state := st, duty := 0, active := none, integral := 0, stallTimer := 0, holdTarget := none
           profile := { m.profile with
             v := 0, pRef := m.position * 1000, settling := false, rampDown := false, phase := .idle, prevU := 0 } }

/-- The channel in HOLDING at `target` (R50). -/
def Motor.hold (m : Motor) (target : Int) : Motor :=
  { m with state := .holding, active := none, stallTimer := 0, holdTarget := some target
           profile := { m.profile with v := 0, pRef := target * 1000, settling := false, rampDown := false, phase := .hold } }

/-- The channel in the state an end action names (R50); a HOLD holds at `target`. -/
def Motor.enter (m : Motor) (e : EndAction) (target : Int) : Motor :=
  match e with
  | .coast => m.rest .free
  | .brake => m.rest .braked
  | .hold => m.hold target

/-- The port whose queue holds the commands of `p`: the pair's first port when `p` is bound (R57). -/
def State.queuePort (s : State) (p : Port) : Port :=
  match (s.motor p).pair.bind s.pair with
  | some q => q.first
  | none => p

/-- The ports a command moves: `p`, or both ports of its pair, first port first. -/
def State.portsOf (s : State) (p : Port) (c : Command) : List Port :=
  match c.pair.bind s.pair with
  | some q => [q.first, q.second]
  | none => [p]

/-- The final error of R49 for an active command on one port; `follower` marks the follower of a pair (R78). -/
def State.finalError (s : State) (p : Port) (c : Command) (follower : Bool) : Int :=
  let m := s.motor p
  match c.kind with
  | .duty => 0
  | .speed => towardZero m.profile.pRef 1000 - m.position
  | .time => towardZero m.profile.pRef 1000 - m.position
  | .position => m.profile.target - m.position
  | .degrees =>
    if follower && !m.profile.settling then Config.followerError m.profile.pRef m.position
    else m.profile.target - m.position

/-- MOTION DONE for a command that ends (R43, R49): to its issuing link, if that is UP. -/
def State.motionDone (s : State) (p : Port) (c : Command) (o : EndOutcome) (wasActive : Bool) : State :=
  let err := fun (x : Port) (f : Bool) => if wasActive then s.finalError x c f else 0
  match c.pair.bind s.pair with
  | none => s.notify c.link (.motionDone p c.pair c.number o (s.degrees p) (err p false) none)
  | some q =>
    s.notify c.link (.motionDone q.first c.pair c.number o (s.degrees q.first)
      (err q.first (decide (q.first ≠ leadPort c q)))
      (some (s.degrees q.second, err q.second (decide (q.second ≠ leadPort c q)))))

/-- The number of commands on a channel. -/
def Motor.commandCount (m : Motor) : Nat := (if m.active.isSome then 1 else 0) + m.waiting.length

/-- Every command of the channel ends with one outcome: the active one first, then the waiting ones oldest first
(R43). -/
def State.endAll (s : State) (p : Port) (o : EndOutcome) : State :=
  let m := s.motor p
  let s1 := match m.active with
    | none => s
    | some c => s.motionDone p c o true
  let s2 := m.waiting.foldl (fun t c => t.motionDone p c o false) s1
  s2.setMotor p { s2.motor p with active := none, waiting := [] }

/-- The active command of queue port `p` ends DONE or STALL-END: the oldest waiting command starts, or the end action
applies (R49, R51). -/
def State.finish (s : State) (p : Port) (o : EndOutcome) (origin : StartFrom) : State :=
  let m := s.motor p
  match m.active with
  | none => s
  | some c =>
    let s1 := s.motionDone p c o true
    match m.waiting with
    | next :: rest => (s1.setMotor p { s1.motor p with waiting := rest }).startCommand p next origin
    | [] =>
      (s1.portsOf p c).foldl (fun t x =>
        let mx := t.motor x
        let at_ := if decide (o = .done) && c.kind.bounded then mx.profile.target else mx.position
        t.setMotor x (mx.enter c.endAction at_)) s1

/-- Puts a set of channels in the state of an end action, each holding at its own position (R50, R52); a HOLD on a
channel already HOLDING enters it afresh, at the present position. DESIGN CHOICE, notes/assumptions/41. -/
def State.enterAll (s : State) (ps : List Port) (e : EndAction) : State :=
  ps.foldl (fun t x => t.setMotor x ((t.motor x).enter e (t.motor x).position)) s

/-- The ports that halt together with `p` (R52). -/
def State.haltPorts (s : State) (p : Port) : List Port :=
  match (s.motor p).pair.bind s.pair with
  | some q => [q.first, q.second]
  | none => [p]

/-- What an accepted HALT does, without its claim (R52, R60). -/
def State.haltMotor (s : State) (p : Port) (e : EndAction) : State :=
  (s.endAll (s.queuePort p) .halted).enterAll (s.haltPorts p) e

/-- The number of commands a HALT on `p` ends (R52). -/
def State.haltCount (s : State) (p : Port) : Nat := (s.motor (s.queuePort p)).commandCount

/-- Frees a pair entry: both channels lose their pair number (R58). -/
def State.freePair (s : State) (k : Nat) : State :=
  match s.pair k with
  | none => s
  | some q =>
    let s1 := s.setMotor q.first { s.motor q.first with pair := none }
    (s1.setMotor q.second { s1.motor q.second with pair := none }).setPair k none

/-- Frees the pair a port belongs to, if any (R58). -/
def State.unpair (s : State) (p : Port) : State :=
  match (s.motor p).pair with
  | none => s
  | some k => s.freePair k

/-- A release ends a port's commands (RELEASED, or LINK LOST where the link is DOWN and so takes no notice), and frees its
channel and any pair it belongs to (R58, R59). -/
def State.dropMotor (s : State) (p : Port) (o : EndOutcome) : State :=
  ((s.endAll (s.queuePort p) o).enterAll (s.haltPorts p) .coast).unpair p

/-- The channel of a port that has left ACTIVE (R41): FREE with the bridge off, no command, no hold target; R72 brings
the integral to 0 and R42 the phase to IDLE. The rest of the record keeps its values. -/
def Motor.vacated (m : Motor) : Motor :=
  { m with state := .free, duty := 0, active := none, waiting := [], integral := 0, holdTarget := none
           profile := { m.profile with phase := .idle } }

/-- The departure of a port from ACTIVE: its commands end REMOVED and its channel is vacated; the other channel of its
pair coasts and the pair is freed (R41, R58, R59). -/
def State.departMotor (s : State) (p : Port) : State :=
  let s1 := (s.endAll (s.queuePort p) .removed).enterAll ((s.haltPorts p).filter (fun x => decide (x ≠ p))) .coast
  (s1.setMotor p (s1.motor p).vacated).unpair p

/-- The entry to CUTOFF (R61): every command ends SUPPLY and every channel enters FREE; pairs stay bound. A channel that
is FREE with duty 0 already stays as it is. -/
def State.cutoffMotors (s : State) : State :=
  (allPorts.foldl (fun t p => t.endAll p .supply) s).enterAll
    (allPorts.filter (fun p => decide ((s.motor p).state ≠ .free ∨ (s.motor p).duty ≠ 0))) .coast

/-! ### Placing an accepted command (R43, R47, R48) -/

/-- The last command in line: the newest waiting command, or the active one (R45). -/
def Motor.lastInLine (m : Motor) : Option Command :=
  match m.waiting.getLast? with
  | some c => some c
  | none => m.active

/-- REPLACE: every command ends SUPERSEDED and the new one becomes active (R47). The notices are handed over first;
the start then reads the channel as the superseded command left it. -/
def State.replaceCommand (s : State) (p : Port) (c : Command) : State :=
  let m := s.motor p
  let s1 := match m.active with
    | none => s
    | some a => s.motionDone p a .superseded true
  let s2 := m.waiting.foldl (fun t w => t.motionDone p w .superseded false) s1
  (s2.setMotor p { s2.motor p with waiting := [] }).startCommand p c .request

/-- Places an accepted command by its queue mode (R47, R48): APPEND waits behind a running command and starts at once
on an idle channel. -/
def State.placeCommand (s : State) (p : Port) (c : Command) (append : Bool) : State :=
  if append && decide ((s.motor p).state = .running) then
    s.setMotor p { s.motor p with waiting := (s.motor p).waiting ++ [c] }
  else s.replaceCommand p c

/-- The counter of port `p` takes its next motion number (R43). -/
def State.takeNumber (s : State) (p : Port) : State :=
  s.setMotor p { s.motor p with counter := nextNumber (s.motor p).counter }

/-! ### The control period, stage by stage (R65) -/

/-- Whether the control law runs on a channel: HOLDING, or RUNNING with an encoder command (R65, R72). -/
def Motor.loops (m : Motor) : Bool :=
  match m.state with
  | .holding => true
  | .running => (match m.active with
    | some c => decide (c.kind ≠ .duty)
    | none => true)
  | _ => false

/-- Whether a channel runs an encoder command. -/
def Motor.encoderRunning (m : Motor) : Bool := decide (m.state = .running) && m.loops

/-- Stage 1: position, history and measured speed (R63, R64). -/
def Motor.takePosition (m : Motor) : Motor :=
  let raw := m.position + m.edges
  let pos := clamp (-maxCounts) maxCounts raw
  { m with
    position := pos
    saturated := m.saturated || decide (raw ≠ pos)
    edges := 0
    history := ⟨pos, m.history.h0, m.history.h1, m.history.h2, m.history.h3⟩
    speed := (pos - m.history.h3) * 50 }

/-- The error of R72: p_ref / 1,000 rounded toward zero, minus the position. -/
def Motor.error (m : Motor) : Int := towardZero m.profile.pRef 1000 - m.position

/-- The settle counters of R71; in a pair a motor that has settled stays settled (R78). -/
def Motor.settleTest (m : Motor) (stays : Bool) : Motor :=
  let q := m.profile
  let within := decide (((m.position - q.target).natAbs : Int) ≤ q.tol)
  let count := if stays && decide (3 ≤ q.inTol) then q.inTol else if within then q.inTol + 1 else 0
  { m with profile := { q with settleTimer := q.settleTimer + 1, inTol := count } }

/-- The in-tolerance count of every motor of the active command has reached 3: it ends DONE (R71, R78). -/
def State.settleDone (s : State) (p : Port) : State :=
  let qp := s.queuePort p
  match (s.motor qp).active with
  | none => s
  | some c =>
    if c.kind.bounded && (s.portsOf qp c).all (fun x =>
        (s.motor x).profile.settling && decide (3 ≤ (s.motor x).profile.inTol)) then s.finish qp .done .afterDone
    else s

/-- The settle timer has reached 80 periods: the command ends DONE (R71, R78). -/
def State.settleTimeout (s : State) (p : Port) : State :=
  let qp := s.queuePort p
  match (s.motor qp).active with
  | none => s
  | some c =>
    if c.kind.bounded && (s.motor qp).profile.settling && decide (80 ≤ (s.motor qp).profile.settleTimer) then
      s.finish qp .done .afterDone
    else s

/-- The channel that runs the profile of a command: `p`, or the pair's lead (R76). -/
def State.profilePort (s : State) (p : Port) (c : Command) : Port :=
  match c.pair.bind s.pair with
  | some q => leadPort c q
  | none => p

/-- A TIME command whose elapsed periods have passed its amount enters its ramp-down (R70). -/
def State.timeRunEnd (s : State) (p : Port) : State :=
  let qp := s.queuePort p
  match (s.motor qp).active with
  | none => s
  | some c =>
    let x := s.profilePort qp c
    let m := s.motor x
    if decide (c.kind = .time) && decide (runPeriods c.amount < m.profile.elapsed) && !m.profile.rampDown then
      s.setMotor x { m with profile := { m.profile with rampDown := true, phase := .decel } }
    else s

/-- One profile step of the command `c` on the channel `p` that runs it (R67, R69, R70). -/
def Motor.profileStep (m : Motor) (c : Command) : Motor :=
  match c.kind with
  | .speed => { m with profile := m.profile.speedAdvance }
  | .time => { m with profile := if m.profile.rampDown then m.profile.rampDownAdvance else m.profile.speedAdvance }
  | .degrees => { m with profile := m.profile.boundedAdvance }
  | .position => { m with profile := m.profile.boundedAdvance }
  | .duty => m

/-- The elapsed time of a TIME command increases by one period (R70). -/
def Motor.elapse (m : Motor) (c : Command) : Motor :=
  if c.kind = .time then { m with profile := { m.profile with elapsed := m.profile.elapsed + 1 } } else m

/-- A TIME command in its ramp-down whose v is 0 ends DONE (R70). -/
def State.timeDone (s : State) (qp : Port) (c : Command) : State :=
  let q := (s.motor (s.profilePort qp c)).profile
  if decide (c.kind = .time) && q.rampDown && decide (q.v = 0) then s.finish qp .done .afterDone else s

/-- Stage 2 of an idle channel, or of one that runs a DUTY command: the reference stands at the hold target or tracks
the position (R65, R74). -/
def Motor.idleReference (m : Motor) : Motor :=
  match m.state with
  | .holding => { m with profile := { m.profile with pRef := (m.holdTarget.getD m.position) * 1000, v := 0 } }
  | _ => { m with profile := { m.profile with pRef := m.position * 1000, v := 0 } }

/-- Stage 2 of a channel that runs a command of its own (R65). -/
def State.singleReference (s : State) (p : Port) : State :=
  let m := s.motor p
  match m.state, m.active with
  | .running, some c =>
    if c.kind = .duty then s.setMotor p m.idleReference
    else if m.profile.settling then ((s.setMotor p (m.settleTest false)).settleDone p).settleTimeout p
    else
      let s1 := (s.setMotor p (m.elapse c)).timeRunEnd p
      (s1.setMotor p ((s1.motor p).profileStep c)).timeDone p c
  | .running, none => s
  | _, _ => s.setMotor p m.idleReference

/-- The lag hold test of R77; it has no effect on a SPEED or TIME command whose reference is at rest. -/
def lagHeld (c : Command) (q : Pair) (lead follower : Motor) : Bool :=
  (decide (q.lagLimit < lead.error.natAbs) || decide (q.lagLimit < follower.error.natAbs)) &&
    (c.kind.bounded || decide (lead.profile.v ≠ 0))

/-- The follower's reference and speed after the lead's profile step (R76, R78). -/
def Motor.follow (m : Motor) (c : Command) (lead : Motor) : Motor :=
  let sl := leadSpeed c
  let sf := followSpeed c
  let p := if sl = 0 then m.profile.start
    else m.profile.start + towardZero ((lead.profile.pRef - lead.profile.start) * sf) sl
  let v := if sl = 0 then 0 else towardZero (lead.profile.v * sf) sl
  let pSat := clamp (-maxMilli) maxMilli p
  if lead.profile.settling then
    { m with profile := { m.profile with
        pRef := towardZero pSat 1000 * 1000, target := towardZero pSat 1000, v := 0, phase := .settle, settling := true,
        inTol := 0, settleTimer := 0 } }
  else { m with profile := { m.profile with pRef := pSat, v := v, phase := lead.profile.phase } }

/-- Stage 2 of a bound pair that runs the command `c` of its first port (R65, R77, R78). A held period keeps the phase
(R68, R77). -/
def State.pairReference (s : State) (q : Pair) (c : Command) : State :=
  let lp := leadPort c q
  let fp := followPort c q
  if (s.motor lp).profile.settling then
    let s1 := s.setMotor lp ((s.motor lp).settleTest true)
    ((s1.setMotor fp ((s1.motor fp).settleTest true)).settleDone q.first).settleTimeout q.first
  else
    let s1 := (s.setMotor lp ((s.motor lp).elapse c)).timeRunEnd q.first
    if lagHeld c q (s1.motor lp) (s1.motor fp) then
      s1.setMotor lp { s1.motor lp with profile := { (s1.motor lp).profile with phase := (s.motor lp).profile.phase } }
    else
      let s2 := s1.setMotor lp ((s1.motor lp).profileStep c)
      (s2.setMotor fp ((s2.motor fp).follow c (s2.motor lp))).timeDone q.first c

/-- Stage 3: the control law (R72). -/
def Motor.control (m : Motor) : Motor :=
  if m.loops then
    match m.gains with
    | none => m
    | some g =>
      let e := m.error
      let u0 := m.profile.prevU
      let heldBack := (decide (10000 ≤ u0) && decide (0 < e)) || (decide (u0 ≤ -10000) && decide (e < 0))
      let i := if heldBack then m.integral else m.integral + e
      let ff := if g.feedforward then towardZero (m.profile.v * 10000) m.profile.vmax else 0
      let u := ff + g.kp * e + clamp (-10000) 10000 (towardZero (g.ki * i) 100)
      { m with integral := i, profile := { m.profile with prevU := u } }
  else m

/-- Stage 4: the stall timer (R75). The u of this period is the profile's `prevU` after stage 3. -/
def Motor.stallTest (m : Motor) : Motor :=
  if m.encoderRunning && decide (8000 ≤ m.profile.prevU.natAbs) &&
      decide ((m.speed.natAbs : Int) ≤ towardZero m.profile.vmax 20) then
    { m with stallTimer := m.stallTimer + 1 }
  else { m with stallTimer := 0 }

/-- A stall timer of the command of `p` has reached 100 periods: the stall policy takes effect (R51, R57, R75). -/
def State.recogniseStall (s : State) (p : Port) : State :=
  let qp := s.queuePort p
  match (s.motor qp).active with
  | none => s
  | some c =>
    if decide (c.kind ≠ .duty) && (s.portsOf qp c).any (fun x => decide (100 ≤ (s.motor x).stallTimer)) then
      match c.stall with
      | .fail => (s.endAll qp .stalled).enterAll (s.portsOf qp c) .coast
      | .finish => s.finish qp .stallEnd .afterStall
    else s

/-- Whether a stall of the command of `p` is due. -/
def State.stallDue (s : State) (p : Port) : Bool :=
  match (s.motor (s.queuePort p)).active with
  | none => false
  | some c => decide (c.kind ≠ .duty) &&
      (s.portsOf (s.queuePort p) c).any (fun x => decide (100 ≤ (s.motor x).stallTimer))

/-- Stages 3 and 4 of one channel or one pair: the loops, the stall test, a recognised stall, and the loop of the state
a stall leaves (R65). -/
def State.controlAndStall (s : State) (ps : List Port) (qp : Port) : State :=
  let s1 := ps.foldl (fun t x => t.setMotor x (t.motor x).control.stallTest) s
  if s1.stallDue qp then
    ps.foldl (fun t x => t.setMotor x (t.motor x).control) (s1.recogniseStall qp)
  else s1

/-- Compensation and cap: u × 7,200 / max(V, 5,400) rounded toward zero, clamped to ±10,000, or ±7,500 while the supply
is LOW (R73). -/
def State.outputDuty (s : State) (u : Int) : Int :=
  let v : Int := max (s.supply.mean.getD 0) 5400
  let cap : Int := if s.low then 7500 else 10000
  clamp (-cap) cap (towardZero (u * 7200) v)

/-- Stage 5: the applied duty (R65, R73, R74). -/
def State.output (s : State) (p : Port) : State :=
  let m := s.motor p
  let duty := if m.loops then s.outputDuty m.profile.prevU
    else match m.state, m.active with
      | .running, some c => s.outputDuty c.amount
      | _, _ => 0
  s.setMotor p { m with duty := duty }

/-- The four values of a motor port's sample (R65 stage 6, R81). -/
def State.motorValues (s : State) (p : Port) : List Int :=
  [s.degrees p, s.degSpeed p, (s.motor p).duty, phaseCode (s.motor p).profile.phase]

/-- The pair that runs a command, if port `p` is bound in one (R65). -/
def State.runningPair (s : State) (p : Port) : Option (Pair × Command) :=
  match (s.motor p).pair.bind s.pair with
  | none => none
  | some q => (match (s.motor q.first).active with
    | some c => some (q, c)
    | none => none)

/-- The groups of ports whose stages run together, in letter order: a pair that runs a command goes with its port of
lower letter (R65). The two channels of a bound pair that runs no command go as two channels of their own. DESIGN
CHOICE, notes/assumptions/55. -/
def State.periodGroups (s : State) : List (List Port) :=
  allPorts.filterMap (fun p =>
    match s.runningPair p with
    | none => some [p]
    | some (q, _) =>
      let low := if portCode q.first < portCode q.second then q.first else q.second
      if p = low then some [q.first, q.second] else none)

/-- Whether a port takes part in the control period (R65). -/
def State.driven (s : State) (p : Port) : Bool :=
  s.active p && (match s.classOf p with
    | some .motor => true
    | some .plainMotor => true
    | some .lamp => true
    | _ => false)

/-- Stages 1 to 5 of one group (R65). -/
def State.periodStages (s : State) (ps : List Port) : State :=
  let s1 := ps.foldl (fun t x => t.setMotor x (t.motor x).takePosition) s
  let s2 := match ps with
    | [p] => s1.singleReference p
    | p :: _ => (match s1.runningPair p with
      | some (q, c) => s1.pairReference q c
      | none => ps.foldl (fun t x => t.singleReference x) s1)
    | [] => s1
  let s3 := s2.controlAndStall ps (ps.headD .a)
  ps.foldl (fun t x => t.output x) s3

/-- The phase and motion number of a port's channel as a stamp (R89). -/
def State.stampOf (s : State) (p : Port) : Stamp :=
  if s.driven p then
    match (s.motor p).state with
    | .running => ⟨((s.motor (s.queuePort p)).active.map (·.number)).getD 0, (s.motor p).profile.phase⟩
    | .holding => ⟨0, .hold⟩
    | _ => ⟨0, .idle⟩
  else ⟨0, .idle⟩

/-- What the driver bridge of a port does (R30, R42, R61, R169). -/
inductive Bridge where
  | off
  | brake
  | drive (duty : Int)
  deriving DecidableEq, Repr

/-- The bridge output: off unless the port is ACTIVE and the hub is not held; else as the channel state says (R42). -/
def State.bridge (s : State) (p : Port) : Bridge :=
  if s.hub.held || !s.driven p then .off
  else match (s.motor p).state with
    | .free => .off
    | .braked => .brake
    | _ => .drive (s.motor p).duty

end Sys2Proof.Machine
end

