-- ==== Sys2Proof/Machine/DetectorOps.lean ====
section
/-! DEFINITION. The operations of the Detector Unit (chapter 6): the four brick detectors on a port I sample, BRICK EVENT,
and the watches on a view output. -/

namespace Sys2Proof.Machine

/-! ### The brick detectors (R96 to R100) -/

/-- The value of largest magnitude and its axis; x comes before y and y before z on a tie. -/
def largestAxis (x y z : Int) : Axis × Int :=
  if y.natAbs ≤ x.natAbs ∧ z.natAbs ≤ x.natAbs then (.x, x)
  else if z.natAbs ≤ y.natAbs then (.y, y)
  else (.z, z)

/-- The face that an axis and sign name (R95). -/
def faceOf (a : Axis) (negative : Bool) : Face :=
  match a, negative with
  | .x, false => .front
  | .x, true => .back
  | .y, false => .left
  | .y, true => .right
  | .z, false => .up
  | .z, true => .down

/-- An event that a detector raises: its kind, the face before it, the tap it names and its time. -/
structure BrickRaise where
  kind : BrickKind
  previous : Face
  tap : Option (Axis × Bool)
  time : Word32
  deriving DecidableEq, Repr

/-- What one detector leaves: the record, the working state and the event it raises. -/
abbrev DetectorResult := BrickState × DetectorWork × Option BrickRaise

/-- The sample's candidate face (R97 step 1). -/
def candidateOf (b : BrickSettings) (ax ay az : Int) : Option Face :=
  let m := largestAxis ax ay az
  if b.orientThreshold ≤ m.2.natAbs then some (faceOf m.1 (decide (m.2 < 0))) else none

/-- The orientation detector (R97). -/
def orientationStep (b : BrickSettings) (r : BrickState) (w : DetectorWork) (ax ay az : Int) (t : Word32) :
    DetectorResult :=
  match candidateOf b ax ay az with
  | none => (r, { w with candidate := none }, none)
  | some f =>
    let since := match w.candidate with
      | some (g, t0) => if g = f then t0 else t
      | none => t
    let w' := { w with candidate := some (f, since) }
    if b.orientDwell ≤ elapsed t since ∧ f ≠ r.orientation then
      ({ r with orientation := f }, w', some ⟨.orientation, r.orientation, none, t⟩)
    else (r, w', none)

/-- A spike in stage IDLE records a first tap (R98). -/
def tapIdle (w : DetectorWork) (spike : Bool) (axis : Axis) (negative : Bool) (t : Word32) : DetectorWork :=
  if spike then
    { w with tapStage := .quiet, tapAxis := axis, tapNegative := negative, tapTime := t, tapSecond := false,
             quietFrom := t }
  else w

/-- A tap event sets the last tap with the first tap's axis, sign and time (R98). -/
def tapEvent (r : BrickState) (w w' : DetectorWork) (kind : TapKind) (event : BrickKind) : DetectorResult :=
  ({ r with lastTap := ⟨kind, w.tapAxis, w.tapNegative, w.tapTime⟩ }, w',
    some ⟨event, r.orientation, some (w.tapAxis, w.tapNegative), w.tapTime⟩)

/-- The tap detector on a sample with slopes (R98). -/
def tapStage (b : BrickSettings) (r : BrickState) (w : DetectorWork) (dx dy dz : Int) (t : Word32) : DetectorResult :=
  let m := largestAxis dx dy dz
  let spike := decide (b.tapThreshold < m.2.natAbs)
  let quiet := decide (m.2.natAbs < b.tapThreshold)
  let negative := decide (m.2 < 0)
  match w.tapStage with
  | .idle => (r, tapIdle w spike m.1 negative t, none)
  | .quiet =>
    if !quiet then (r, { w with quietFrom := t }, none)
    else if b.tapQuiet ≤ elapsed t w.quietFrom then
      if w.tapSecond then tapEvent r w { w with tapStage := .idle, tapSecond := false } .double .doubleTap
      else (r, { w with tapStage := .waiting }, none)
    else (r, w, none)
  | .waiting =>
    if b.doubleWindow < elapsed t w.tapTime then
      tapEvent r w (tapIdle { w with tapStage := .idle } spike m.1 negative t) .single .singleTap
    else if spike then (r, { w with tapStage := .quiet, tapSecond := true, quietFrom := t }, none)
    else (r, w, none)

/-- The tap detector: the first sample gives no slopes, and every sample becomes the previous one (R98). -/
def tapStep (b : BrickSettings) (r : BrickState) (w : DetectorWork) (ax ay az : Int) (t : Word32) : DetectorResult :=
  let w0 := { w with tapPrev := some (ax, ay, az) }
  match w.tapPrev with
  | none => (r, w0, none)
  | some (px, py, pz) => tapStage b r w0 (ax - px) (ay - py) (az - pz) t

/-- The free-fall detector (R99). -/
def fallStep (b : BrickSettings) (r : BrickState) (w : DetectorWork) (ax ay az : Int) (t : Word32) : DetectorResult :=
  if r.falling then
    if b.fallThreshold < ax.natAbs ∨ b.fallThreshold < ay.natAbs ∨ b.fallThreshold < az.natAbs then
      ({ r with falling := false }, { w with fallRun := none }, some ⟨.fallEnd, r.orientation, none, t⟩)
    else (r, w, none)
  else if ax.natAbs < b.fallThreshold ∧ ay.natAbs < b.fallThreshold ∧ az.natAbs < b.fallThreshold then
    let since := w.fallRun.getD t
    let w' := { w with fallRun := some since }
    if b.fallDwell ≤ elapsed t since then
      ({ r with falling := true }, w', some ⟨.fallStart, r.orientation, none, t⟩)
    else (r, w', none)
  else (r, { w with fallRun := none }, none)

/-- The motion detector (R100). -/
def motionStep (b : BrickSettings) (r : BrickState) (w : DetectorWork) (gx gy gz : Int) (t : Word32) : DetectorResult :=
  if b.motionThreshold < gx.natAbs ∨ b.motionThreshold < gy.natAbs ∨ b.motionThreshold < gz.natAbs then
    ({ r with moving := true }, { w with stillRun := none },
      if r.moving then none else some ⟨.moving, r.orientation, none, t⟩)
  else if !r.moving then (r, w, none)
  else if gx.natAbs < b.motionThreshold ∧ gy.natAbs < b.motionThreshold ∧ gz.natAbs < b.motionThreshold then
    let since := w.stillRun.getD t
    let w' := { w with stillRun := some since }
    if b.stillTime ≤ elapsed t since then
      ({ r with moving := false }, w', some ⟨.still, r.orientation, none, t⟩)
    else (r, w', none)
  else (r, { w with stillRun := none }, none)

/-- A disabled detector takes no samples (R96). -/
def ifEnabled (on : Bool) (step : BrickState → DetectorWork → DetectorResult) (r : BrickState) (w : DetectorWork) :
    DetectorResult :=
  if on then step r w else (r, w, none)

/-- The subscription bit of a kind (R103). -/
def State.subscribed (s : State) (l : Link) (k : BrickKind) : Bool := bit (s.subs.get l).toNat (brickKindCode k)

/-- The notice of an event, to each UP link subscribed to its kind (R101). -/
def State.brickNotice (s : State) (l : Link) (e : BrickRaise) (count : Nat) : State :=
  if s.subscribed l e.kind then
    s.notify l (.brickEvent e.kind s.brick.orientation e.previous e.tap e.time count)
  else s

/-- An event is counted and its notice goes out (R101). -/
def State.raiseBrick (s : State) (e : Option BrickRaise) : State :=
  match e with
  | none => s
  | some e =>
    let k := brickKindCode e.kind
    let n := satAdd max16 (s.brick.counts.get 0 k) 1
    let s1 := { s with brick := { s.brick with counts := s.brick.counts.set 0 k n } }
    (s1.brickNotice .pl e n).brickNotice .tl e n

/-- One detector takes the sample, and its event goes out. -/
def State.runDetector (s : State) (on : Bool) (step : BrickState → DetectorWork → DetectorResult) : State :=
  let x := ifEnabled on step s.brick s.brickWork
  { s with brick := x.1, brickWork := x.2.1 }.raiseBrick x.2.2

/-- The four detectors take a port I sample with arrival time `t`, in the order of the kind numbers (R96, R101). -/
def State.detect (s : State) (t : Word32) : List Int → State
  | [ax, ay, az, gx, gy, gz] =>
    let b := s.brickSet
    let s1 := s.runDetector b.orientation (fun r w => orientationStep b r w ax ay az t)
    let s2 := s1.runDetector b.tap (fun r w => tapStep b r w ax ay az t)
    let s3 := s2.runDetector b.freeFall (fun r w => fallStep b r w ax ay az t)
    s3.runDetector b.motion (fun r w => motionStep b r w gx gy gz t)
  | _ => s

/-- Whether any detector is enabled (R84). -/
def BrickSettings.anyEnabled (b : BrickSettings) : Bool := b.orientation || b.tap || b.freeFall || b.motion

/-! ### Watches (R107, R108, R109) -/

/-- The condition of R107. -/
def Watch.holds (w : Watch) (v : Int) : Bool :=
  match w.condition with
  | .above => decide (w.level1 < v)
  | .below => decide (v < w.level1)
  | .inside => decide (w.level1 ≤ v) && decide (v ≤ w.level2)
  | .outside => decide (v < w.level1) || decide (w.level2 < v)

/-- The re-arm test of R107. -/
def Watch.rearms (w : Watch) (v : Int) : Bool :=
  match w.condition with
  | .above => decide (v ≤ w.level1 - w.hysteresis)
  | .below => decide (w.level1 + w.hysteresis ≤ v)
  | .inside => decide (v ≤ w.level1 - 1 - w.hysteresis) || decide (w.level2 + 1 + w.hysteresis ≤ v)
  | .outside => decide (w.level1 + w.hysteresis ≤ v) && decide (v ≤ w.level2 - w.hysteresis)

/-- The result of a watch's action, by its code in WATCH FIRED (R108). -/
inductive ActionResult where
  | noAction | carriedOut | notHolder | notMotor | pairFree
  deriving DecidableEq, Repr

def actionResultCode : ActionResult → Nat
  | .noAction => 0
  | .carriedOut => 1
  | .notHolder => 2
  | .notMotor => 3
  | .pairFree => 4

def ActionResult.skipped : ActionResult → Bool
  | .notHolder => true
  | .notMotor => true
  | .pairFree => true
  | _ => false

def WatchAction.code : WatchAction → Nat
  | .none => 0
  | .haltPort .. => 1
  | .haltPair .. => 2

/-- The holder check of R108, at the moment of firing. -/
def State.actionResult (s : State) (l : Link) : WatchAction → ActionResult
  | .none => .noAction
  | .haltPort p _ =>
    if (s.port p).holder ≠ some l then .notHolder
    else if s.driven p then .carriedOut
    else .notMotor
  | .haltPair k _ =>
    match s.pair k with
    | none => .pairFree
    | some q => if q.holder = l then .carriedOut else .notHolder

/-- The number of commands the action ends, when it is carried out. -/
def State.actionEnds (s : State) : WatchAction → Nat
  | .none => 0
  | .haltPort p _ => s.haltCount p
  | .haltPair k _ =>
    match s.pair k with
    | none => 0
    | some q => s.haltCount q.first

/-- The end action a watch's halt takes (R60): HOLD is BRAKE without an encoder and COAST while the supply is CUTOFF. -/
def State.watchEnd (s : State) (p : Port) (e : EndAction) : EndAction :=
  if e = .hold then (if s.classOf p ≠ some .motor then .brake else if s.cutoff then .coast else .hold) else e

/-- The halt of a watch's action (R60). -/
def State.carryOut (s : State) : WatchAction → State
  | .none => s
  | .haltPort p e => s.haltMotor p (s.watchEnd p e)
  | .haltPair k e =>
    match s.pair k with
    | none => s
    | some q => s.haltMotor q.first (s.watchEnd q.first e)

/-- The entry has reached its dwell: it fires (R108). An entry whose dwell progress is short of its dwell does not. -/
def State.fireWatch (s : State) (l : Link) (slot : Nat) : State :=
  match s.watch l slot with
  | none => s
  | some w =>
    if (w.state = .armed ∨ w.state = .pending) ∧ w.dwell ≤ w.progress then
      let r := s.actionResult l w.action
      let ended := if r = .carriedOut then s.actionEnds w.action else 0
      let w' := { w with
        fires := satAdd max16 w.fires 1, state := .fired, progress := 0
        skips := if r.skipped then satAdd max16 w.skips 1 else w.skips }
      let out := (s.view l w.chan).output
      let s1 := (s.setWatch l slot (some w')).notify l
        (.watchFired slot w.chan w.index (out.values.getD w.index 0) out.sequence (out.clipped.getD w.index false) w'.fires
          w.action.code (actionResultCode r) ended)
      if r = .carriedOut then s1.carryOut w.action else s1
    else s

/-- One slot meets one output of its link's view of channel `c` (R107). -/
def State.evalWatch (s : State) (l : Link) (c : Chan) (slot : Nat) : State :=
  match s.watch l slot with
  | none => s
  | some w =>
    if w.chan = c then
      let v := (s.view l c).output.values.getD w.index 0
      match w.state with
      | .armed =>
        if w.holds v then (s.setWatch l slot (some { w with state := .pending, progress := 1 })).fireWatch l slot else s
      | .pending =>
        if w.holds v then (s.setWatch l slot (some { w with progress := w.progress + 1 })).fireWatch l slot
        else s.setWatch l slot (some { w with state := .armed, progress := 0 })
      | .fired =>
        if w.repeats && w.rearms v then s.setWatch l slot (some { w with state := .armed, progress := 0 }) else s
      | .disarmed => s
    else s

/-- The slot numbers. -/
def slots : List Nat := [0, 1, 2, 3, 4, 5, 6, 7]

/-- The entries of a link on a channel meet an output, in slot order (R107). -/
def State.evalWatches (s : State) (l : Link) (c : Chan) : State := slots.foldl (fun t n => t.evalWatch l c n) s

/-- A link's entries on a channel become DISARMED with a reason (R109). -/
def State.disarm (s : State) (l : Link) (c : Chan) (r : DisarmReason) : State :=
  slots.foldl (fun t n =>
    match t.watch l n with
    | none => t
    | some w =>
      if w.chan = c then t.setWatch l n (some { w with state := .disarmed, progress := 0, reason := some r }) else t) s

/-- Both links' entries on a channel become DISARMED (R109). -/
def State.disarmBoth (s : State) (c : Chan) (r : DisarmReason) : State := (s.disarm .pl c r).disarm .tl c r

end Sys2Proof.Machine
end

