-- ==== Sys2Proof/Machine/SensingOps.lean ====
section
/-! DEFINITION. The operations of the Sensing Unit (chapter 5): samples, the shared source, the view chain, restarts and
the delivery of a view. -/

namespace Sys2Proof.Machine

/-! ### The channel -/

/-- The mode record of a port's current mode. -/
def State.modeRecord (s : State) (p : Port) : Option ModeRecord :=
  match (s.port p).device, (s.port p).mode with
  | some d, some m => d.modes[m]?
  | _, _ => none

/-- The present value count of a channel (R79, R85): 1 with no device, 4 for a motor port, the mode's for a sensor. A port
that holds a device record and is not ACTIVE counts 1 too: DESIGN CHOICE, notes/assumptions/63. -/
def State.valueCount (s : State) : Chan → Nat
  | .internal => 6
  | .port p =>
    if s.active p then
      match s.classOf p with
      | some .sensor => ((s.modeRecord p).map (·.count)).getD 1
      | _ => 4
    else 1

/-! ### The shared source (R83, R84) -/

/-- The shortest of a list of intervals, or `dflt` for none. -/
def shortest (dflt : Nat) : List Nat → Nat
  | [] => dflt
  | x :: rest => rest.foldl min x

/-- The widest of a list of ranges, or `dflt` for none. -/
def widest (dflt : Nat) : List Nat → Nat
  | [] => dflt
  | x :: rest => rest.foldl max x

/-- The enabled views of a channel that belong to UP links. -/
def State.wanting (s : State) (c : Chan) : List View :=
  (allLinks.filter (fun l => (s.link l).up && decide ((s.view l c).interval ≠ 0))).map (fun l => s.view l c)

/-- The source interval of a sensor port in µs, from the minimum interval of a mode in ms (R83). -/
def State.sensorInterval (s : State) (p : Port) (minimum : Nat) : Nat :=
  max (shortest 100 ((s.wanting (.port p)).map (·.interval))) minimum * 1000

/-- The intervals the motion sensor offers, in µs, longest first (R84). -/
def offered : List Nat := [40000, 20000, 10000, 5000, 2500, 1250]

/-- Port I's settings by R84. -/
def State.internalSettings (s : State) : SharedI :=
  let vs := s.wanting .internal
  let demand := shortest 40000 (vs.map (fun v => v.interval * 1000) ++ (if s.brickSet.anyEnabled then [5000] else []))
  { interval := (offered.find? (fun i => decide (i ≤ demand))).getD 1250
    accelRange := widest 8000 (vs.map (·.accelRange) ++ (if s.brickSet.tap then [8000] else []))
    gyroRange := widest 2000 (vs.map (·.gyroRange)) }

/-- Recomputes port I's settings. -/
def State.recomputeI (s : State) : State := { s with sharedI := s.internalSettings }

/-- The port record takes a new source interval; SET INTERVAL goes out when it differs from the one last sent (R28,
R83). -/
def PortRec.takeInterval (r : PortRec) (us : Nat) : PortRec :=
  if r.sentInterval = some us then { r with interval := some us }
  else { r with interval := some us, sentInterval := some us, sent := [.setInterval (us / 1000)] }

/-- Recomputes the source interval of a port: only an ACTIVE SENSOR port has one (R83). -/
def State.recomputePort (s : State) (p : Port) : State :=
  if s.active p ∧ s.classOf p = some .sensor then
    s.setPort p ((s.port p).takeInterval (s.sensorInterval p (((s.modeRecord p).map (·.minInterval)).getD 1)))
  else s

/-- Recomputes the shared settings of a channel. -/
def State.recompute (s : State) : Chan → State
  | .port p => s.recomputePort p
  | .internal => s.recomputeI

/-! ### The view chain (R86 to R88) -/

/-- The limit of a view value. -/
def viewMax : Int := 2147483647

/-- One filter step: the new state and f before saturation (R87). A view of kind NONE has nothing to seed and leaves its
states unseeded, which shows nowhere: DESIGN CHOICE, notes/assumptions/62. -/
def FilterState.step (f : FilterState) (kind : FilterKind) (n : Nat) (a : Int) : FilterState × Int :=
  match kind with
  | .none => (f, a)
  | .low =>
    let y := if f.seeded then f.y + towardZero (256 * a - f.y) (2 ^ n) else 256 * a
    (⟨y, f.prev, true⟩, nearest y 256)
  | .high =>
    let y := if f.seeded then f.y + towardZero (256 * a - f.y) (2 ^ n) else 256 * a
    (⟨y, f.prev, true⟩, a - nearest y 256)
  | .slope => (⟨f.y, a, true⟩, if f.seeded then a - f.prev else 0)

/-- The view range of an index, port I only (R86 stage 3). -/
def View.rangeOf (v : View) (k : Nat) : Int := if k ≤ 2 then v.accelRange else 10 * (v.gyroRange : Int)

/-- Stages 1 to 3 of R86 on one value: the result, its clipped flag and the filter state. -/
def View.stages (v : View) (internal : Bool) (k : Nat) (x : Int) (clipped : Bool) : Int × Bool × FilterState :=
  let wide := x + v.offsets.getD k 0
  let a := clamp (-viewMax) viewMax wide
  let f := (v.filters.getD k .unseeded).step v.filter v.strength a
  let f1 := clamp (-viewMax) viewMax f.2
  let f2 := if internal then clamp (-(v.rangeOf k)) (v.rangeOf k) f1 else f1
  (f2, clipped || decide (wide ≠ a) || decide (f.2 ≠ f1) || decide (f1 ≠ f2), f.1)

/-- The chain over the values of a sample, from index `k` (R86). -/
def View.chain (v : View) (internal : Bool) : Nat → List Int → List Bool → List (Int × Bool × FilterState)
  | _, [], _ => []
  | k, x :: xs, cs => v.stages internal k x (cs.headD false) :: v.chain internal (k + 1) xs cs.tail

/-- The decimation divisor of R88, from the interval requested in ms and the source interval in µs. -/
def divisor (requested source : Nat) : Nat := max 1 (requested * 1000 / source)

/-- The decimation counter as the test of R88 reads it. -/
def View.counterAt (v : View) (m : Nat) : Nat := if m ≤ v.counter then 0 else v.counter

/-- One view takes the channel's sample (R86). -/
def State.viewTake (s : State) (l : Link) (c : Chan) : State :=
  let v := s.view l c
  let x := s.sample c
  if v.interval = 0 then s
  else
    let r := v.chain (decide (c = .internal)) 0 x.values x.clipped
    let m := divisor v.interval x.interval
    let n := v.counterAt m
    let v1 := { v with
      filters := r.map (·.2.2) ++ v.filters.drop r.length
      counter := if m ≤ n + 1 then 0 else n + 1 }
    if n = 0 then
      let out : ViewOutput :=
        { values := r.map (·.1), sequence := nextNumber v.output.sequence, time := x.time, clipped := r.map (·.2.1),
          mode := x.mode, stamp := v.stampPort.map s.stampOf }
      (s.setView l c { v1 with output := out, fresh := true }).evalWatches l c
    else s.setView l c v1

/-! ### Samples (R79 to R82) -/

/-- A channel takes a sample (R79), which then passes through the views. -/
def State.takeSample (s : State) (c : Chan) (mode : Option Nat) (values : List Int) (clipped : List Bool)
    (interval : Nat) : State :=
  let x : Sample := ⟨mode, nextNumber (s.sample c).sequence, s.now, values, clipped, interval⟩
  ((s.setSample c x).viewTake .pl c).viewTake .tl c

/-- One raw value clamped and scaled; the rounding is made on the whole scaled value (R80). -/
def scaleRaw (m : ModeRecord) (raw : Int) : Int × Bool :=
  let x := inFormat m.format raw
  let y := clamp m.rawMin m.rawMax x
  (nearest (m.scaledMin * (m.rawMax - m.rawMin) + (y - m.rawMin) * (m.scaledMax - m.scaledMin)) (m.rawMax - m.rawMin),
    decide (x ≠ y))

/-- A DATA message becomes a sample of its port (R80). -/
def State.sensorSample (s : State) (p : Port) (mode : Nat) (values : List Int) : State :=
  match s.modeRecord p with
  | none => s
  | some m =>
    let r := values.map (scaleRaw m)
    s.takeSample (.port p) (some mode) (r.map (·.1)) (r.map (·.2)) ((s.port p).interval.getD 0)

/-- The sample of a motor port at stage 6 of a control period (R81). -/
def State.motorSample (s : State) (p : Port) : State :=
  s.takeSample (.port p) none (s.motorValues p) [false, false, false, false] 5000

/-- A reading at or beyond a limit takes it and is flagged (R82). -/
def limitReading (limit x : Int) : Int × Bool :=
  (clamp (-limit) limit x, decide (limit ≤ x) || decide (x ≤ -limit))

/-- A port I sample: to the Detector Unit, then through the views (R82). -/
def State.internalSample (s : State) (ax ay az gx gy gz : Int) : State :=
  let a : Int := s.sharedI.accelRange
  let g : Int := 10 * (s.sharedI.gyroRange : Int)
  let r := [limitReading a ax, limitReading a ay, limitReading a az, limitReading g gx, limitReading g gy,
    limitReading g gz]
  (s.detect s.now (r.map (·.1))).takeSample .internal none (r.map (·.1)) (r.map (·.2)) s.sharedI.interval

/-! ### Restarts and clearing (R79, R85, R93, R94) -/

/-- A view restart: every filter unseeded, the decimation counter 0 (R93). -/
def View.restart (v : View) : View := { v with filters := List.replicate 8 .unseeded, counter := 0 }

/-- A view's output cleared and its fresh flag clear, for `n` values (R85). -/
def View.clearOutput (v : View) (n : Nat) : View := { v with output := .cleared n, fresh := false }

/-- Applies a change to both links' views of a channel. -/
def State.bothViews (s : State) (c : Chan) (f : View → View) : State :=
  let s1 := s.setView .pl c (f (s.view .pl c))
  s1.setView .tl c (f (s1.view .tl c))

/-- The departure of a port, as the Sensing Unit takes it: its record has no device any more (R93). -/
def State.sensingDeparture (s : State) (p : Port) : State :=
  s.bothViews (.port p) (fun v => v.restart.clearOutput 1)

/-- The source interval of a port's cleared sample record (R79, R81, R83). -/
def State.sourceInterval (s : State) (p : Port) : Nat :=
  if s.classOf p = some .sensor then (s.port p).interval.getD 0 else 5000

/-- The attach announcement, as the Sensing Unit takes it: the source is recomputed and the sample record and the
outputs are cleared (R79, R93). -/
def State.sensingAttach (s : State) (p : Port) : State :=
  let s1 := s.recomputePort p
  let n := s1.valueCount (.port p)
  (s1.setSample (.port p) (.cleared n (s1.sourceInterval p))).bothViews (.port p) (fun v => v.clearOutput n)

/-- The channels in letter order, port I last. -/
def allChans : List Chan := allPorts.map Chan.port ++ [.internal]

/-- A link's views at its DOWN (R94), and the shared settings without them. -/
def State.viewsDown (s : State) (l : Link) : State :=
  let s1 := allChans.foldl (fun t c => t.setView l c (.reset (t.valueCount c))) s
  allChans.foldl (fun t c => t.recompute c) s1

/-! ### Delivery (R91) -/

/-- The member block that delivers a link's view of a channel (R91). -/
def State.delivery (s : State) (l : Link) (c : Chan) : List Byte :=
  let v := s.view l c
  if v.interval = 0 then
    let x := s.sample c
    memberBlock c x.mode (memberFlags false false true) x.clipped x.sequence x.time none x.values
  else
    let o := v.output
    memberBlock c o.mode (memberFlags v.fresh o.stamp.isSome false) o.clipped o.sequence o.time o.stamp o.values

/-- Assembling a frame with a view's delivery clears its fresh flag (R91). -/
def State.delivered (s : State) (l : Link) (c : Chan) : State := s.setView l c { s.view l c with fresh := false }

end Sys2Proof.Machine
end

