-- ==== Sys2Proof/Machine/PortOps.lean ====
section
/-! DEFINITION. The operations of the Port Service (chapter 2): port state changes with their notices and announcements,
identification, supervision, mode changes and releases. -/

namespace Sys2Proof.Machine

/-! ### Messages on a device line (R22) -/

/-- The check byte of a device-line message: FFH exclusive-ORed with every earlier byte, its kind, its length byte and
its body (R22). -/
def lineCheck (kind : Byte) (body : List Byte) : Byte :=
  ([kind, BitVec.ofNat 8 body.length] ++ body).foldl (· ^^^ ·) 0xFF#8

/-- Whether a message's check byte is correct (R22, R23). -/
def LineMessage.good (m : LineMessage) : Bool := decide (m.check = lineCheck m.kind m.body)

/-- A whole message as it goes onto the line: kind, length, body, check (R22). -/
def LineMessage.bytes (m : LineMessage) : List Byte := [m.kind, BitVec.ofNat 8 m.body.length] ++ m.body ++ [m.check]

/-- The message with its check byte in place. -/
def lineMessageOf (kind : Byte) (body : List Byte) : LineMessage := ⟨kind, body, lineCheck kind body⟩

/-- A speed's place in R18's list of line speeds. -/
def LineSpeed.place : LineSpeed → Nat
  | .closed => 0
  | .b2400 => 0
  | .b9600 => 1
  | .b57600 => 2
  | .b115200 => 3
  | .b460800 => 4

/-- The message that the hub puts on a device line (R22). The kind codes and the byte of SPEED are free values; the two
bytes of SET INTERVAL go low byte first, as in a frame: PRESUMED, notes/assumptions/39. -/
def HubMsg.message : HubMsg → LineMessage
  | .enquire => lineMessageOf (Config.lineKind 0) []
  | .speed x => lineMessageOf (Config.lineKind 1) [Config.lineSpeedByte x.place]
  | .selectMode mode => lineMessageOf (Config.lineKind 2) (e8 mode)
  | .setInterval ms => lineMessageOf (Config.lineKind 3) (e16 ms)
  | .nudge => lineMessageOf (Config.lineKind 4) []

/-! ### The records that a state change leaves -/

/-- What leaves a record when its device goes: holder, pending mode, current mode, source interval, device record and
identification stage (R20, R21, R31). -/
def PortRec.vacated (r : PortRec) : PortRec :=
  { r with holder := none, pendingMode := none, mode := none, interval := none, device := none, stage := none,
           fault := none, reject := none, nudgedAt := none, sentInterval := none }

/-- The record at removal (R21). -/
def PortRec.toEmpty (r : PortRec) : PortRec :=
  { r.vacated with state := .empty, detect := .openCircuit, line := .closed, silentRetry := false }

/-- The record at an entry to SETTLING (R20). -/
def PortRec.toSettling (r : PortRec) (level : Level) (now : Word32) : PortRec :=
  { r.vacated with state := .settling, detect := level, line := .closed, silentRetry := false, counts := .zero,
                   waitFrom := now }

/-- The record at an entry to FAULT (R24, R26, R29, R30). The device record, the reject reason and every other field that
an identity left go, also where a driver fault takes a REJECTED port. DESIGN CHOICE, notes/assumptions/52. -/
def PortRec.toFault (r : PortRec) (reason : FaultReason) : PortRec :=
  { r.vacated with state := .fault, fault := some reason, line := .closed }

/-- The record at an entry to IDENTIFYING (R24). -/
def PortRec.toIdentifying (r : PortRec) (now : Word32) : PortRec :=
  { r.vacated with state := .identifying, stage := some .enquiring, line := .b2400, identFrom := now, enquiredAt := now,
                   sent := [.enquire] }

/-- The record at REJECTED (R25). -/
def PortRec.toRejected (r : PortRec) (d : DeviceRecord) (reason : RejectReason) : PortRec :=
  { r.vacated with state := .rejected, device := some d, reject := some reason, line := .closed }

/-- The next generation: never 0 (R27). -/
def nextGeneration (g : Nat) : Nat := if 255 ≤ g then 1 else g + 1

/-- The record at an entry to ACTIVE (R27). -/
def PortRec.toActive (r : PortRec) (now : Word32) : PortRec :=
  { r with state := .active, generation := nextGeneration r.generation, holder := none, stage := none, nudgedAt := none,
           healthyFrom := now, lastData := now }

/-! ### State changes (R19, R31) -/

/-- The reason field of PORT CHANGED (R19). -/
def PortRec.reason (r : PortRec) : Nat :=
  match r.state with
  | .fault => faultCode r.fault
  | .rejected => rejectCode r.reject
  | _ => 0

/-- PORT CHANGED for a record and the state before it (R19). -/
def portNotice (p : Port) (r : PortRec) (previous : PortState) : NoticeBody :=
  .portChanged p r.state previous r.generation r.detect (r.device.map (fun d => (d.kind, d.typeNumber))) r.reason

/-- Whether a change of state raises PORT CHANGED (R19). -/
def noticed (previous new : PortState) : Bool :=
  decide (previous ≠ new) && !(decide (previous = .empty) && decide (new = .settling)) &&
    !(decide (previous = .settling) && decide (new = .empty))

/-- The departure of a port from ACTIVE, its record becoming `r` (R31). -/
def State.depart (s : State) (p : Port) (r : PortRec) : State :=
  let s1 := match (s.port p).pendingMode with
    | none => s
    | some m => s.refuse m.ticket .portError
  let s2 := (s1.departMotor p).setPort p r
  (s2.sensingDeparture p).disarmBoth (.port p) .departed

/-- The port record becomes `r`: PORT CHANGED where R19 asks for it, and the departure where the port leaves ACTIVE. -/
def State.changePort (s : State) (p : Port) (r : PortRec) : State :=
  let old := (s.port p).state
  let s1 := if noticed old r.state then s.notifyBoth (portNotice p r old) else s
  if decide (old = .active) && decide (r.state ≠ .active) then s1.depart p r else s1.setPort p r

/-- A port enters FAULT. -/
def State.faultPort (s : State) (p : Port) (reason : FaultReason) : State :=
  s.changePort p ((s.port p).toFault reason)

/-- A port leaves its state for SETTLING; a fault input still asserted puts it in FAULT at that entry (R20, R30). -/
def State.settlePort (s : State) (p : Port) (level : Level) : State :=
  let s1 := s.changePort p ((s.port p).toSettling level s.now)
  if s.pins.fault.get p then s1.faultPort p .overload else s1

/-- A port enters EMPTY. -/
def State.emptyPort (s : State) (p : Port) : State := s.changePort p (s.port p).toEmpty

/-- A port enters IDENTIFYING (R24). -/
def State.identifyPort (s : State) (p : Port) : State := s.changePort p ((s.port p).toIdentifying s.now)

/-- A port enters ACTIVE with its device record in place; the attach is announced (R27). -/
def State.activate (s : State) (p : Port) : State :=
  let s1 := s.changePort p ((s.port p).toActive s.now)
  let s2 := if s1.driven p then s1.attachMotor p else s1
  s2.sensingAttach p

/-- The device record of a plain motor or a lamp (R20). -/
def plainDevice (k : DeviceClass) : DeviceRecord :=
  { kind := k, typeNumber := 0, serial := 0, speeds := ⟨false, false, false, false, false⟩, supplyDemand := 0, modes := [],
    motor := none }

/-- A port's detect input has changed to `level` (R20, R21). -/
def State.detectInput (s : State) (p : Port) (level : Level) : State :=
  let r := s.port p
  match r.state, level with
  | .empty, .openCircuit => s
  | .settling, .openCircuit => s.changePort p r.toEmpty
  | .settling, _ => s.setPort p { r with detect := level, waitFrom := s.now }
  | _, .openCircuit => s.emptyPort p
  | _, _ => s.settlePort p level

/-- The debounce has run out: the port leaves SETTLING by its detect class (R20). -/
def State.settled (s : State) (p : Port) : State :=
  match (s.port p).detect with
  | .openCircuit => s
  | .level1 => (s.setPort p { s.port p with device := some (plainDevice .plainMotor), mode := none }).activate p
  | .level2 => (s.setPort p { s.port p with device := some (plainDevice .lamp), mode := none }).activate p
  | .level3 => s.identifyPort p

/-- Port detection begins, at the entry to READY (R18). -/
def State.beginDetection (s : State) (p : Port) : State :=
  let level := s.pins.detect.get p
  if p ∈ s.hub.driverFaults then
    (s.setPort p { s.port p with detect := level }).faultPort p .overload
  else if level = .openCircuit then s
  else s.settlePort p level

/-! ### Device-line messages (R23) -/

def PortRec.countReceived (r : PortRec) : PortRec :=
  { r with counts := { r.counts with received := satAdd max16 r.counts.received 1 } }

def PortRec.countCheckError (r : PortRec) : PortRec :=
  { r with counts := { r.counts with checkErrors := satAdd max16 r.counts.checkErrors 1 } }

def PortRec.countUnexpected (r : PortRec) : PortRec :=
  { r with counts := { r.counts with unexpected := satAdd max16 r.counts.unexpected 1 } }

def PortRec.countNudge (r : PortRec) : PortRec :=
  { r with counts := { r.counts with nudges := satAdd max16 r.counts.nudges 1 } }

/-- A complete message on a device line (R23): `rule` deals with a message the present state and stage expect. -/
def State.lineMessage (s : State) (p : Port) (m : LineMessage) (rule : State → Option State) : State :=
  if (s.port p).line = .closed then s
  else if LineMessage.good m then
    let s1 := s.setPort p (s.port p).countReceived
    (rule s1).getD (s1.setPort p (s1.port p).countUnexpected)
  else s.setPort p (s.port p).countCheckError

/-! ### Identification (R24 to R26) -/

/-- The highest data speed that the hub and a device share (R25). -/
def commonSpeed (s : SpeedSet) : Option LineSpeed :=
  if s.b460800 then some .b460800
  else if s.b115200 then some .b115200
  else if s.b57600 then some .b57600
  else if s.b9600 then some .b9600
  else none

/-- A valid mode record (R25). -/
def ModeRecord.valid (m : ModeRecord) : Bool :=
  decide (1 ≤ m.count) && decide (m.count ≤ 8) && decide (m.format ≤ 2) && decide (m.rawMin < m.rawMax) &&
    decide ((formatRange m.format).1 ≤ m.rawMin) && decide (m.rawMax ≤ (formatRange m.format).2) &&
    decide (m.scaledMin ≠ m.scaledMax) && decide (1 ≤ m.minInterval)

/-- A valid motor part (R25). -/
def MotorPart.valid (m : MotorPart) : Bool :=
  decide (360 ≤ m.cpr) && decide (m.cpr ≤ 4096) && decide (100 ≤ m.maxSpeed) && decide (m.maxSpeed ≤ 2000) &&
    decide (m.size ≤ 2)

/-- A valid device record (R25). -/
def DeviceRecord.valid (d : DeviceRecord) : Bool :=
  match d.kind, d.motor with
  | .sensor, none => decide (1 ≤ d.modes.length) && decide (d.modes.length ≤ 8) && d.modes.all ModeRecord.valid
  | .motor, some m => decide (d.modes = []) && MotorPart.valid m
  | _, _ => false

/-- The first condition of R25 that an identity fails. -/
def DeviceRecord.rejection (d : DeviceRecord) : Option RejectReason :=
  if 150 < d.supplyDemand then some .supplyDemand
  else if (commonSpeed d.speeds).isNone then some .speed
  else if DeviceRecord.valid d then none
  else some .record

/-- The speed SPEED names. -/
def PortRec.dataSpeed (r : PortRec) : LineSpeed := ((r.device.bind (fun d => commonSpeed d.speeds)).getD .b2400)

/-- An identity that passes or fails R25. -/
def State.identity (s : State) (p : Port) (d : DeviceRecord) : State :=
  let r := s.port p
  match DeviceRecord.rejection d with
  | some reason => s.changePort p (r.toRejected d reason)
  | none =>
    let r1 := { r with device := some d, stage := some .speed, waitFrom := s.now, secondWait := false }
    s.setPort p { r1 with sent := [.speed r1.dataSpeed] }

/-- The interval of a sensor port in mode 0, as the Sensing Unit answers it during identification (R26, R83). -/
def State.firstInterval (s : State) (p : Port) : Nat :=
  s.sensorInterval p ((((s.port p).device.bind (fun d => d.modes[0]?)).map (·.minInterval)).getD 1)

/-- SELECT MODE 0 and SET INTERVAL go out and the wait for DATA begins (R26). -/
def State.askFirstData (s : State) (p : Port) (second : Bool) : State :=
  let us := s.firstInterval p
  s.setPort p { s.port p with
    stage := some .firstData, sent := [.selectMode 0, .setInterval (us / 1000)], sentInterval := some us
    waitFrom := s.now, secondWait := second }

/-- ACK in stage SPEED (R26). -/
def State.speedAck (s : State) (p : Port) : State :=
  let s1 := s.setPort p { s.port p with line := (s.port p).dataSpeed }
  if s1.classOf p = some .motor then s1.activate p else s1.askFirstData p false

/-! ### Supervision and mode changes (R28, R29, R38) -/

/-- Silence supervision restarts from the DATA just taken, with the T now in effect (R28, R29). -/
def State.restartSupervision (s : State) (p : Port) : State :=
  let r := s.port p
  s.setPort p { r with lastData := s.now, superviseMs := r.interval.getD 0 / 1000, nudgedAt := none }

/-- The first DATA of an attach (R26). -/
def State.firstData (s : State) (p : Port) (values : List Int) : State :=
  let s1 := (s.setPort p { s.port p with mode := some 0 }).activate p
  (s1.restartSupervision p).sensorSample p 0 values

/-- DATA in the current mode (R28). -/
def State.dataTaken (s : State) (p : Port) (mode : Nat) (values : List Int) : State :=
  (s.restartSupervision p).sensorSample p mode values

/-- DATA in the pending mode completes the change (R38). The views keep their outputs (R93), so a cleared output of a view
that is off keeps the value count of the old mode. DESIGN CHOICE, notes/assumptions/56. -/
def State.modeChanged (s : State) (p : Port) (w : PendingMode) (values : List Int) : State :=
  let r := s.port p
  let s1 := s.setPort p { r with mode := some w.mode, pendingMode := none }
  let s2 := s1.notifyBoth (.modeChanged p r.generation w.mode r.mode)
  let s3 := ((s2.bothViews (.port p) View.restart).recomputePort p).disarmBoth (.port p) .mode
  ((s3.restartSupervision p).sensorSample p w.mode values).complete w.ticket []

/-- The silent path of R29. -/
def State.silent (s : State) (p : Port) : State :=
  if (s.port p).silentRetry then s.faultPort p .silent
  else s.changePort p { (s.port p).toIdentifying s.now with silentRetry := true }

/-- The number of values of one of the device's modes. -/
def PortRec.countOf (r : PortRec) (mode : Nat) : Option Nat := (r.device.bind (fun d => d.modes[mode]?)).map (·.count)

/-- DATA, by the state and stage of the port (R26, R28, R38); `none` where it is unexpected. -/
def State.data (s : State) (p : Port) (mode : Nat) (values : List Int) : Option State :=
  let r := s.port p
  if r.countOf mode ≠ some values.length then none
  else match r.state, r.stage with
    | .identifying, some .firstData => if mode = 0 then some (s.firstData p values) else none
    | .active, _ =>
      match r.pendingMode with
      | some w => if mode = w.mode then some (s.modeChanged p w values) else if r.mode = some mode then some s else none
      | none => if r.mode = some mode then some (s.dataTaken p mode values) else none
    | _, _ => none

/-- Whether silence supervision runs on a port (R29). -/
def State.supervised (s : State) (p : Port) : Bool :=
  s.active p && decide (s.classOf p = some .sensor) && (s.port p).pendingMode.isNone

/-! ### Claims and releases (R34, R36) -/

/-- The holder of a channel's port. -/
def State.holder (s : State) : Chan → Option Link
  | .internal => s.holderI
  | .port p => (s.port p).holder

def State.setHolder (s : State) (c : Chan) (h : Option Link) : State :=
  match c with
  | .internal => { s with holderI := h }
  | .port p => s.setPort p { s.port p with holder := h }

/-- A release: the motion of the port ends and the holder becomes NONE (R36, R59). -/
def State.releaseChan (s : State) (c : Chan) : State :=
  match c with
  | .internal => s.setHolder .internal none
  | .port p => (s.dropMotor p .released).setHolder (.port p) none

/-- The releases at a link's DOWN (R36). -/
def State.releaseAll (s : State) (l : Link) : State :=
  allChans.foldl (fun t c => if t.holder c = some l then t.releaseChan c else t) s

/-! ### PORT INFO (R39, R40) -/

/-- The source interval field of PORT INFO (R39). -/
def State.infoInterval (s : State) (p : Port) : Nat :=
  if s.active p then s.sourceInterval p else 0

/-- The PORT INFO body of ports A to F (section 1.9). -/
def State.portInfoBody (s : State) (p : Port) : List Byte :=
  let r := s.port p
  e8 (portCode p) ++ e8 (portStateCode r.state) ++ e8 (levelCode r.detect) ++ e8 r.generation ++ e8 (holderCode r.holder) ++
    eOpt8 r.mode ++ eOpt8 (r.pendingMode.map (·.mode)) ++ e8 (faultCode r.fault) ++ e8 (rejectCode r.reject) ++
    eBool r.silentRetry ++ e32 (s.infoInterval p) ++ e16 r.counts.received ++ e16 r.counts.checkErrors ++
    e16 r.counts.unexpected ++ e16 r.counts.nudges ++
    (match r.device with
      | none => eBool false
      | some d => eBool true ++ deviceBytes d)

/-- The PORT INFO body of port I (R40). Its interval is the shared one as last chosen, in effect from the next sample on
(R84): R39 does not say which of the two stands in between. DESIGN CHOICE, notes/assumptions/40. -/
def State.internalInfoBody (s : State) : List Byte :=
  e8 6 ++ e8 (portStateCode .active) ++ e8 (levelCode .openCircuit) ++ e8 1 ++ e8 (holderCode s.holderI) ++ e8 255 ++ e8 255 ++
    e8 0 ++ e8 0 ++ eBool false ++ e32 s.sharedI.interval ++ e16 0 ++ e16 0 ++ e16 0 ++ e16 0 ++ eBool true ++
    deviceBytes (plainDevice .internal)

end Sys2Proof.Machine
end

