-- ==== Sys2Proof/Machine/StoreOps.lean ====
section
/-! DEFINITION. The shared operations of the asset store (chapters 9 and 10): the block table, lookup and the extent walk,
the map cache, versions and pins, supersession, and the page reads of ASSET READ and PROBE PAGE. -/

namespace Sys2Proof.Machine

/-! ### Extents (R138, R139) -/

/-- The physical block of logical block `n` (R139 step 6). -/
def walkExtents : List (Nat × Nat) → Nat → Option Nat
  | [], _ => none
  | (start, count) :: rest, n => if n < count then some (start + n) else walkExtents rest (n - count)

/-- The blocks of a version in logical order. -/
def versionBlocks (v : VersionImage) : List Nat := (v.extents.map (fun e => (List.range e.2).map (e.1 + ·))).flatten

/-- The maximal runs of consecutive block numbers of a list, in its order (R154, R158). -/
def runs : List Nat → List (Nat × Nat)
  | [] => []
  | b :: rest =>
    match runs rest with
    | (start, count) :: more => if b + 1 = start then (b, count + 1) :: more else (b, 1) :: (start, count) :: more
    | [] => [(b, 1)]

/-- A version's extents with one block in place of another (R154). -/
def remapped (v : VersionImage) (old new : Nat) : VersionImage :=
  { v with extents := runs ((versionBlocks v).map (fun b => if b = old then new else b)) }

/-! ### The block table (R151) -/

/-- The block numbers of the flash. -/
def blockNumbers : List Nat := List.range 1024

def State.setBlock (s : State) (b : Nat) (x : Block) : State :=
  { s with media := { s.media with blocks := s.media.blocks.set .unscanned b x } }

/-- Whether an operation is a step of a refresh copy. -/
def FlashOp.refreshes (o : FlashOp) : Bool :=
  match o.work with
  | .refreshRead _ => true
  | .refreshProgram .. => true
  | _ => false

/-- Whether an operation is a step of a compaction (R160). -/
def FlashOp.compacts (o : FlashOp) : Bool :=
  match o.work with
  | .ringErase => true
  | .snapshotPage .. => true
  | _ => false

/-- The waiting compaction steps stand in class 2 while a record or a format waits on them, and in class 4 otherwise
(R152). A step that changes class joins its new class last: DESIGN CHOICE, notes/assumptions/49. -/
def Media.classify (m : Media) : Media :=
  if m.format.isSome ∨ m.records ≠ [] then
    { m with class2 := m.class2 ++ m.class4.filter FlashOp.compacts
             class4 := m.class4.filter (fun o => !o.compacts) }
  else
    { m with class2 := m.class2.filter (fun o => !o.compacts)
             class4 := m.class4 ++ m.class2.filter FlashOp.compacts }

/-- Withdraws an operation in progress that `p` names: it runs to its end, and its result is for no one (R152). -/
def Media.orphan (m : Media) (p : FlashOp → Bool) : Media :=
  { m with op := m.op.map (fun o => if p o then { o with work := .orphan } else o) }

/-- A refresh is abandoned (R154): its steps are withdrawn, the destination becomes `left`, and the block leaves the
list, as a listed destination would (R153). A REMAP record whose program has not begun is withdrawn with it, and a compaction that no other record waits on
goes back to class 4 (R152). -/
def State.abandonRefresh (s : State) (left : BlockState) : State :=
  match s.media.refresh with
  | none => s
  | some r =>
    let m := (s.media.orphan FlashOp.refreshes)
    let m1 : Media := { m with
      refresh := none
      class4 := m.class4.filter (fun o => !o.refreshes)
      records := m.records.filter (fun x => !(decide (x.asker = .remap) && !x.begun))
      refreshList := m.refreshList.filter (fun i => decide (i.block ≠ r.old) && decide (i.block ≠ r.dest)) }
    { s with media := m1.classify }.setBlock r.dest { s.block r.dest with state := left }

/-- Whether a block that takes this state leaves the refresh list: a listed block is LIVE, and R153 has it leave for
RETIRED, FREE-DIRTY and FREE-CLEAN, which are the states a LIVE block takes by R143, R154 and R163 but for a SPARE that a
format chooses, which empties the list itself. -/
def BlockState.endsRefresh (st : BlockState) : Bool := decide (st ≠ .live)

/-- A block takes a state: it leaves the refresh list where R153 says so, and a refresh of it ends where it stops being
LIVE (R154). -/
def State.setBlockState (s : State) (b : Nat) (st : BlockState) : State :=
  let s1 := s.setBlock b { s.block b with state := st }
  let s2 := if st.endsRefresh then
    { s1 with media := { s1.media with refreshList := s1.media.refreshList.filter (fun i => decide (i.block ≠ b)) } } else s1
  match s2.media.refresh with
  | some r => if r.old = b ∧ st ≠ .live then s2.abandonRefresh .freeDirty else s2
  | none => s2

def State.setBlockStates (s : State) (bs : List Nat) (st : BlockState) : State :=
  bs.foldl (fun t b => t.setBlockState b st) s

/-- The lower of two blocks by erase count, the first on a tie. -/
def State.lowerErases (s : State) (best : Option Nat) (b : Nat) : Option Nat :=
  match best with
  | none => some b
  | some a => if (s.block b).erases < (s.block a).erases then some b else some a

/-- The block of lowest erase count that passes `p`, ties by block number (R151, R154, R157). -/
def State.lowestBlock (s : State) (p : Nat → Bool) : Option Nat :=
  blockNumbers.foldl (fun best b => if p b then s.lowerErases best b else best) none

/-- Whether a refresh copy holds a block as its destination (R154). -/
def State.refreshDest (s : State) (b : Nat) : Bool :=
  match s.media.refresh with
  | some r => decide (r.dest = b)
  | none => false

/-- Whether a block is in a state and not the destination of a refresh copy. -/
def State.freeIn (s : State) (st : BlockState) (b : Nat) : Bool :=
  decide ((s.block b).state = st) && !s.refreshDest b

/-- Up to `n` blocks in ascending erase count, ties by number, that pass `p` (R155, R163). -/
def State.lowestBlocks (s : State) : Nat → (Nat → Bool) → List Nat
  | 0, _ => []
  | n + 1, p =>
    match s.lowestBlock p with
    | none => []
    | some b => b :: s.lowestBlocks n (fun x => p x && decide (x ≠ b))

/-- The number of blocks in a state. -/
def State.countBlocks (s : State) (st : BlockState) : Nat :=
  (blockNumbers.filter (fun b => decide ((s.block b).state = st))).length

/-! ### Lookup (R139, R140) -/

/-- The PRESENT entry that an asset number reaches, its alias followed once, with the version walked. -/
def State.resolve (s : State) (n : Nat) : Option (Nat × Version) :=
  match (s.entry n).content with
  | .absent => none
  | .present v => some (n, v)
  | .aliasOf t =>
    match (s.entry t).content with
    | .present v => some (t, v)
    | _ => none

/-- How a lookup fails, if it does (R139). -/
def State.lookupFails (s : State) (n offset : Nat) : Option Judgement :=
  match s.resolve n with
  | none => some .noSuchAsset
  | some (_, v) => if v.image.length ≤ offset then some .parameterError else none

/-- The stronger of two protections (R140). -/
def stronger (p q : Protection) : Protection := if protectionCode p < protectionCode q then q else p

/-- The combined protection of an entry (R140). -/
def State.combined (s : State) (n : Nat) : Protection :=
  match (s.entry n).content with
  | .aliasOf t =>
    match (s.entry t).content with
    | .present _ => stronger (s.entry n).protection (s.entry t).protection
    | _ => (s.entry n).protection
  | _ => (s.entry n).protection

def State.setEntry (s : State) (n : Nat) (e : DirEntry) : State :=
  { s with assets := { s.assets with directory := s.assets.directory.set .absent n e } }

/-- Sets the read mark of an asset number (R141). -/
def State.setReadMark (s : State) (n : Nat) : State := s.setEntry n { s.entry n with read := true }

/-! ### The map cache (R142) -/

/-- A lookup of a logical block through the cache: the physical block, and whether it was a hit. -/
def State.cachedBlock (s : State) (n logical : Nat) (v : VersionImage) : State × Nat × Bool :=
  match s.assets.cache.find? (fun e => decide (e.asset = n) && decide (e.logical = logical)) with
  | some e =>
    let rest := s.assets.cache.filter (fun x => !(decide (x.asset = n) && decide (x.logical = logical)))
    ({ s with assets := { s.assets with cache := e :: rest } }, e.block, true)
  | none =>
    let b := (walkExtents v.extents logical).getD 0
    let e : CacheEntry := ⟨n, logical, b, decide (n ≤ 127)⟩
    ({ s with assets := { s.assets with cache := e :: s.assets.cache.take 15 } }, b, false)

/-- A change of the user directory removes every entry whose factory flag is clear (R142). -/
def State.flushUser (s : State) : State :=
  { s with assets := { s.assets with cache := s.assets.cache.filter (·.factory) } }

/-- A remap removes every entry that yields the old block (R142). -/
def State.flushBlock (s : State) (b : Nat) : State :=
  { s with assets := { s.assets with cache := s.assets.cache.filter (fun e => decide (e.block ≠ b)) } }

/-- The cache is empty while the store is OFFLINE (R142). -/
def State.flushAll (s : State) : State := { s with assets := { s.assets with cache := [] } }

/-! ### Versions and pins (R143) -/

/-- Whether a retired version is the one that was committed to an asset under a serial. -/
def Retired.is (holder serial : Nat) (r : Retired) : Bool :=
  decide (r.holder = holder) && decide (r.version.serial = serial)

/-- A version by the asset it was committed to and its serial: the current one or a retired one. -/
def State.version (s : State) (holder serial : Nat) : Option Version :=
  let retired := (s.assets.retired.find? (Retired.is holder serial)).map (·.version)
  match (s.entry holder).content with
  | .present v => if v.serial = serial then some v else retired
  | _ => retired

/-- An accepted PLAY CLIP pins the current version of an entry (R127, R143). -/
def State.pin (s : State) (holder : Nat) : State :=
  match (s.entry holder).content with
  | .present v => s.setEntry holder { s.entry holder with content := .present { v with pins := v.pins + 1 } }
  | _ => s

/-- A retired version with one pin fewer, if it is the one named. -/
def Retired.unpinned (holder serial : Nat) (r : Retired) : Retired :=
  if r.is holder serial then { r with version := { r.version with pins := r.version.pins - 1 } } else r

/-- A pin of a retired version is dropped; at 0 the version leaves the list and its blocks become FREE-DIRTY (R143). -/
def State.unpinRetired (s : State) (holder serial : Nat) : State :=
  let list : List Retired := s.assets.retired.map (Retired.unpinned holder serial)
  let gone := list.filter (fun (r : Retired) => decide (r.version.pins = 0))
  { s with assets := { s.assets with retired := list.filter (fun (r : Retired) => decide (r.version.pins ≠ 0)) } }.setBlockStates
    (gone.map (fun (r : Retired) => versionBlocks r.version.image)).flatten .freeDirty

/-- The end of a CLIP entry drops its pin (R143). -/
def State.unpin (s : State) (holder serial : Nat) : State :=
  match (s.entry holder).content with
  | .present v =>
    if v.serial = serial then
      s.setEntry holder { s.entry holder with content := .present { v with pins := v.pins - 1 } }
    else s.unpinRetired holder serial
  | _ => s.unpinRetired holder serial

/-- Whether a block belongs to a pinned version (R143). -/
def State.blockPinned (s : State) (b : Nat) : Bool :=
  s.assets.directory.cells.any (fun c =>
    match c.2.content with
    | .present v => decide (0 < v.pins) && decide (b ∈ versionBlocks v.image)
    | _ => false) ||
  s.assets.retired.any (fun r => decide (0 < r.version.pins) && decide (b ∈ versionBlocks r.version.image))

/-- A version that is current no longer retires while it is pinned, and gives up its blocks otherwise (R143). -/
def State.supersede (s : State) (holder : Nat) (v : Version) : State :=
  if v.pins = 0 then s.setBlockStates (versionBlocks v.image) .freeDirty
  else
    let a := { s.assets with retired := s.assets.retired ++ [(⟨holder, v⟩ : Retired)] }
    { s with assets := a }.setBlockStates (versionBlocks v.image) .retired

/-! ### Page reads of ASSET READ and PROBE PAGE (R146, R150, R152) -/

/-- The number of the page that holds a byte offset, counted through the whole asset. -/
def pageIndex (offset : Nat) : Nat := offset / 2048

/-- The pages a read needs: for each, its logical block and its page in that block. -/
def pagesOf (offset count : Nat) : List (Nat × Nat) :=
  (List.range (pageIndex (offset + count - 1) - pageIndex offset + 1)).map
    (fun i => ((pageIndex offset + i) / 64, (pageIndex offset + i) % 64))

/-- The lookups of a read's pages, through the cache: the pages and whether the first was a hit. -/
def State.lookupPages (s : State) (n : Nat) (v : VersionImage) : List (Nat × Nat) → State × List ReadPage × Bool
  | [] => (s, [], false)
  | (logical, page) :: rest =>
    let x := s.cachedBlock n logical v
    let y := x.1.lookupPages n v rest
    (y.1, ⟨x.2.1, page, none⟩ :: y.2.1, x.2.2)

/-- The PROBE PAGE record (section 1.9). -/
def State.probeRecord (s : State) (n : Nat) (outcome : Judgement) (version block page : Nat) (hit factory : Bool) :
    List Byte :=
  let e := if n ≤ 1023 then s.entry n else .absent
  let target := match e.content with
    | .aliasOf t => t
    | _ => 0xFFFF
  e8 (judgementCode outcome) ++ e16 n ++ e16 target ++ e16 version ++ e16 block ++ e8 page ++
    e8 (protectionCode (if n ≤ 1023 then s.combined n else .opened)) ++ e8 (if e.content = .absent then 0 else marksFlags e) ++ e8 (probeFlags hit factory)

/-- The asset number, offset and count of a purpose. -/
def ReadPurpose.span : ReadPurpose → Nat × Nat × Nat
  | .asset n o c => (n, o, c)
  | .probe n o => (n, o, 1)

/-- A read or probe that fails is answered: a probe with its record, whose factory flag tells of the version walked,
where one was reached (R146, R150). -/
def State.readFails (s : State) (t : Ticket) (p : ReadPurpose) (j : Judgement) (hit factory : Bool) : State :=
  match p with
  | .asset .. => s.refuse t j
  | .probe n _ => s.respond t j (s.probeRecord n j 0 0 0 hit factory)

/-- The page reads of a job, in slot order. -/
def readOps (t : Ticket) : Nat → List ReadPage → List FlashOp
  | _, [] => []
  | k, p :: rest => ⟨.read, p.block, p.page, .readJob t k⟩ :: readOps t (k + 1) rest

/-- A read or probe makes its lookup and asks for its pages (R146, R150). -/
def State.beginRead (s : State) (t : Ticket) (p : ReadPurpose) : State :=
  let n := p.span.1
  let o := p.span.2.1
  match s.lookupFails n o, s.resolve n with
  | none, some (h, v) =>
    let count := min p.span.2.2 (v.image.length - o)
    let x := s.lookupPages n v.image (pagesOf o count)
    let job : ReadJob :=
      { ticket := t, purpose := p, holder := h, version := v.image.number, count := count, hit := x.2.2, pages := x.2.1 }
    { x.1 with
      assets := { x.1.assets with reads := x.1.assets.reads ++ [job] }
      media := { x.1.media with class3 := x.1.media.class3 ++ readOps t 0 x.2.1 } }
  | some j, some (h, _) => s.readFails t p j false (decide (h ≤ 127))
  | some j, none => s.readFails t p j false false
  | none, none => s.readFails t p .noSuchAsset false false

/-- Whether an operation reads for a job. -/
def FlashOp.readsFor (t : Ticket) (o : FlashOp) : Bool :=
  match o.work with
  | .readJob t' _ => decide (t' = t)
  | _ => false

/-- Drops a job with its waiting reads; one in progress is discarded (R146). -/
def State.dropRead (s : State) (t : Ticket) : State :=
  let m := s.media.orphan (FlashOp.readsFor t)
  { s with
    assets := { s.assets with reads := s.assets.reads.filter (fun j => decide (j.ticket ≠ t)) }
    media := { m with class3 := m.class3.filter (fun o => !o.readsFor t) } }

/-- Reads of a version that has been superseded start again from their lookup, in the same act (R146, R150), in the order
of their acceptance or last restart: DESIGN CHOICE, notes/assumptions/65. -/
def State.restartReads (s : State) (holder number : Nat) : State :=
  (s.assets.reads.filter (fun j => decide (j.holder = holder) && decide (j.version = number))).foldl
    (fun t j => (t.dropRead j.ticket).beginRead j.ticket j.purpose) s

/-- A job whose pages are all in: the bytes of ASSET READ, or the record of PROBE PAGE (R146, R150). The record's target,
protection and marks are those of this moment, not of the lookup. DESIGN CHOICE, notes/assumptions/46. -/
def State.finishRead (s : State) (j : ReadJob) : State :=
  let s1 := s.dropRead j.ticket
  match j.purpose with
  | .asset _ o _ =>
    let bytes := ((j.pages.map (fun p => p.data.getD [])).flatten.drop (o % 2048)).take j.count
    s1.complete j.ticket (e16 j.version ++ e16 j.count ++ bytes)
  | .probe n _ =>
    let p := j.pages.headD ⟨0, 0, none⟩
    s1.complete j.ticket
      (s.probeRecord n .normalCompletion j.version p.block p.page j.hit (decide (j.holder ≤ 127)))

/-- The pages of a job with one of them in. -/
def fillPage (ps : List ReadPage) (slot : Nat) (data : List Byte) : List ReadPage :=
  ps.modify slot (fun p => { p with data := some data })

/-- A page read for a job has ended: `none` is an uncorrectable sector (R146, R150, R153). MEDIA ERROR is answered at
once and the read of the other page is withdrawn, or discarded where it is in progress. DESIGN CHOICE,
notes/assumptions/47. -/
def State.readArrived (s : State) (t : Ticket) (slot : Nat) (data : Option (List Byte)) : State :=
  match s.assets.reads.find? (fun j => decide (j.ticket = t)), data with
  | none, _ => s
  | some j, none => (s.dropRead t).readFails t j.purpose .mediaError j.hit (decide (j.holder ≤ 127))
  | some j, some d =>
    let j1 := { j with pages := fillPage j.pages slot d }
    if j1.pages.all (fun p => p.data.isSome) then s.finishRead j1
    else { s with assets := { s.assets with
      reads := s.assets.reads.map (fun x => if x.ticket = t then j1 else x) } }

/-! ### Catalogue records in the directory (R144, R158, R161) -/

/-- The directory after a record is applied to it (R144, R147 to R149, R154, R158, R161); a COMMIT's version takes
`serial`, which is 0 in a replay. -/
def applyRecord (serial : Nat) (d : Table DirEntry) : CatRecord → Table DirEntry
  | .commit n v =>
    d.set .absent n { d.get .absent n with content := .present ⟨v, 0, serial⟩, lastVersion := v.number, changed := true }
  | .delete n => d.set .absent n { d.get .absent n with content := .absent, protection := .opened, changed := true }
  | .redirect n t =>
    d.set .absent n { d.get .absent n with content := .aliasOf t, protection := .opened, changed := true }
  | .protect n p => d.set .absent n { d.get .absent n with protection := p, changed := true }
  | .marksClear ns =>
    ns.foldl (fun t n => t.set .absent n { t.get .absent n with changed := false, read := false }) d
  | .remap old new =>
    d.cells.foldl (fun t c =>
      match c.2.content with
      | .present v =>
        if old ∈ versionBlocks v.image then
          t.set .absent c.1 { c.2 with content := .present { v with image := remapped v.image old new } }
        else t
      | _ => t) d
  | .bad _ => d
  | .spareTaken _ => d

/-- The directory change that a record makes while the hub runs, with its supersession and cache flush (R143, R144,
R158). The reads of a superseded version start again. -/
def State.applyChange (s : State) (n : Nat) (r : CatRecord) (replaces : Bool) : State :=
  let before := (s.entry n).content
  let s1 := { s with assets := { s.assets with
    directory := applyRecord (s.assets.commits + 1) s.assets.directory r
    commits := s.assets.commits + (match r with
      | .commit .. => 1
      | _ => 0) } }.flushUser
  match before, replaces with
  | .present v, true => (s1.supersede n v).restartReads n v.image.number
  | _, _ => s1

end Sys2Proof.Machine
end

