-- ==== Sys2Proof/Machine/SoundOps.lean ====
section
/-! DEFINITION. The operations of the Sound Unit (chapter 8): numbering and placing sounds, ending them, clip pages and
refills, samples and the mixer. -/

namespace Sys2Proof.Machine

/-! ### Entries -/

def SoundPart.isClip : SoundPart → Bool
  | .tone .. => false
  | .clip .. => true

/-- Every present sound: the voices in number order, then the queue (R123). -/
def State.sounds (s : State) : List Sound :=
  allVoices.filterMap (fun v => (s.voice v).map (·.sound)) ++ s.sound.queue

/-- The next sound number after `n` that no present entry holds; `fuel` exceeds the number of entries (R123). -/
def freeNumber (held : List Nat) : Nat → Nat → Nat
  | 0, n => nextNumber n
  | fuel + 1, n => if nextNumber n ∈ held then freeNumber held fuel (nextNumber n) else nextNumber n

/-- The sound number of the next acceptance. -/
def State.soundNumber (s : State) : Nat := freeNumber (s.sounds.map (·.number)) 13 s.sound.counter

/-! ### Clip pages (R129, R131) -/

/-- The bytes of one sample. -/
def sampleWidth : SoundFormat → Nat
  | .s16at8k => 2
  | .s16at16k => 2
  | _ => 1

/-- Whether each sample is given at two output samples (R131). -/
def halfRate : SoundFormat → Bool
  | .u8at8k => true
  | .s16at8k => true
  | _ => false

/-- One past the last byte that makes a whole sample (R131). -/
def endPos (f : SoundFormat) (length : Nat) : Nat := length - length % sampleWidth f

/-- The last page that a pass needs. -/
def lastPage (f : SoundFormat) (length : Nat) : Nat := pageIndex (endPos f length - 1)

/-- Whether another pass follows the pass with `done` passes completed before it (R131). -/
def anotherPass (loops done : Nat) : Bool := decide (loops = 0) || decide (done + 1 < loops)

/-- The page after page `k` in play, with the passes completed before it; `none` where the clip needs no more. -/
def nextPage (f : SoundFormat) (length offset loops k done : Nat) : Option Nat :=
  if k < lastPage f length then some (k + 1)
  else if anotherPass loops done then some (pageIndex offset)
  else none

/-- A buffer of a voice. -/
def Voice.buffer (v : Voice) (second : Bool) : Option PageBuffer := if second then v.buffer1 else v.buffer0

def Voice.setBuffer (v : Voice) (second : Bool) (b : Option PageBuffer) : Voice :=
  if second then { v with buffer1 := b } else { v with buffer0 := b }

/-- The refill that a clip voice needs now, if any: the page it plays next where its buffer is empty, else the page after
the one in play for its other buffer; a clip of one page does not refill ahead of itself (R129, R131). A clip whose
passes begin in its last page is taken as one: DESIGN CHOICE, notes/assumptions/22. -/
def Voice.wants (v : Voice) : Option (Bool × Nat) :=
  match v.sound.part with
  | .tone .. => none
  | .clip _ _ _ _ length f offset loops done pos =>
    let passed := decide (endPos f length ≤ pos)
    match v.buffer v.cur with
    | none =>
      if !passed || decide (v.stage = .priming) then some (!v.cur, pageIndex pos)
      else if anotherPass loops done then some (!v.cur, pageIndex offset)
      else none
    | some b =>
      if (v.buffer (!v.cur)).isSome ∨ pageIndex offset = lastPage f length then none
      else (nextPage f length offset loops b.page (if passed then done + 1 else done)).map (fun k => (!v.cur, k))

/-- The physical place of a page of a pinned version (R129). -/
def State.clipPlace (s : State) (holder serial page : Nat) : Nat × Nat :=
  match s.version holder serial with
  | none => (0, page % 64)
  | some v => ((walkExtents v.image.extents (page / 64)).getD 0, page % 64)

/-- A voice asks for the refill it needs; at most one is outstanding (R129). -/
def State.askRefill (s : State) (x : VoiceId) : State :=
  match s.voice x with
  | none => s
  | some v =>
    match v.sound.part, v.refill, v.wants with
    | .clip _ holder serial .., none, some (second, page) =>
      let at_ := s.clipPlace holder serial page
      s.setVoice x (some { v with refill := some ⟨second, page, at_.1, at_.2⟩ })
    | _, _, _ => s

/-! ### Taking a voice (R124, R125) -/

/-- The output samples of a priming or starvation timer (R129, R130). -/
def starveSamples : Nat := 1600

/-- The voice record of a sound that takes a voice. -/
def newVoice (x : Sound) (order : Nat) : Voice :=
  { sound := x, order := order, stage := if x.part.isClip then .priming else .playing
    timer := if x.part.isClip then starveSamples else 0, buffer0 := none, buffer1 := none, cur := true, refill := none
    again := none }

/-- A sound takes a voice with the next start order: a TONE plays, a CLIP primes and asks for its first page. -/
def State.takeVoice (s : State) (v : VoiceId) (x : Sound) : State :=
  let s1 := s.setVoice v (some (newVoice x s.sound.nextOrder))
  { s1 with sound := { s1.sound with nextOrder := s1.sound.nextOrder + 1 } }.askRefill v

/-- The queue with a sound in its place: by priority, highest first, and among equals by acceptance (R124). -/
def enqueue : List Sound → Sound → List Sound
  | [], x => [x]
  | y :: rest, x => if y.priority < x.priority then x :: y :: rest else y :: enqueue rest x

/-- The lowest-numbered FREE voice. -/
def State.freeVoice (s : State) : Option VoiceId := allVoices.find? (fun v => (s.voice v).isNone)

/-- The queue head takes a FREE voice (R125). -/
def State.fillVoice (s : State) (v : VoiceId) : State :=
  match s.voice v, s.sound.queue with
  | none, x :: rest => { s with sound := { s.sound with queue := rest } }.takeVoice v x
  | _, _ => s

/-- The queue heads take the FREE voices, lowest number first (R125). -/
def State.fillVoices (s : State) : State := allVoices.foldl State.fillVoice s

/-! ### Ending sounds (R133) -/

/-- SOUND DONE (R133). -/
def soundNotice (x : Sound) (o : EndOutcome) (v : Option VoiceId) : NoticeBody :=
  match x.part with
  | .tone .. => .soundDone x.number false o v 0xFFFF 0 0
  | .clip asset _ _ version _ _ _ _ done _ => .soundDone x.number true o v asset version done

/-- A CLIP entry's pin is dropped (R133). -/
def State.dropPin (s : State) (x : Sound) : State :=
  match x.part with
  | .tone .. => s
  | .clip _ holder serial .. => s.unpin holder serial

/-- Whether an operation is a refill of a voice. -/
def FlashOp.refills (v : VoiceId) (o : FlashOp) : Bool := decide (o.work = .refill v)

/-- The entry of a voice ends (R133 steps 1, 3 and 4); a refill in progress is discarded (R129). -/
def State.endVoice (s : State) (v : VoiceId) (o : EndOutcome) : State :=
  match s.voice v with
  | none => s
  | some x =>
    let s1 := s.setVoice v none
    let s2 := { s1 with media := s1.media.orphan (FlashOp.refills v) }
    (s2.dropPin x.sound).notify x.sound.link (soundNotice x.sound o (some v))

/-- A waiting entry ends (R133 steps 2 to 4). -/
def State.endWaiting (s : State) (x : Sound) (o : EndOutcome) : State :=
  let q := s.sound.queue.filter (fun y => decide (y ≠ x))
  ({ s with sound := { s.sound with queue := q } }.dropPin x).notify x.link (soundNotice x o none)

/-- One act ends every sound that `p` names: voices in number order, then the queue; then the queue heads take the freed
voices (R133). -/
def State.endSounds (s : State) (p : Sound → Bool) (o : EndOutcome) : State :=
  let s1 := allVoices.foldl (fun t v =>
    match t.voice v with
    | some x => if p x.sound then t.endVoice v o else t
    | none => t) s
  let s2 := (s1.sound.queue.filter p).foldl (fun t x => t.endWaiting x o) s1
  s2.fillVoices

/-- The entry of one voice ends and the queue head takes the voice (R133). -/
def State.finishVoice (s : State) (v : VoiceId) (o : EndOutcome) : State := (s.endVoice v o).fillVoice v

/-! ### Placing an accepted sound (R124) -/

/-- The lowest priority among the voices. -/
def State.lowestPriority (s : State) : Nat :=
  (allVoices.filterMap (fun v => (s.voice v).map (·.sound.priority))).foldl min 7

/-- Whether one voice's entry is a better victim than another: lower priority, then earlier start order. -/
def Voice.before (a b : Voice) : Bool :=
  decide (a.sound.priority < b.sound.priority) ||
    (decide (a.sound.priority = b.sound.priority) && decide (a.order < b.order))

/-- The victim of a steal: of lowest priority, with the earliest start order. -/
def State.victim (s : State) : VoiceId :=
  allVoices.foldl (fun best v =>
    match s.voice v, s.voice best with
    | some x, some y => if x.before y then v else best
    | _, _ => best) .v0

/-- Whether a sound of this priority finds no place (R126, R127). -/
def State.noPlace (s : State) (priority : Nat) : Bool :=
  s.freeVoice.isNone && decide (priority ≤ s.lowestPriority) && decide (8 ≤ s.sound.queue.length)

/-- Places an accepted sound: the state and the voice it took (R124). -/
def State.placeSound (s : State) (x : Sound) : State × Option VoiceId :=
  match s.freeVoice with
  | some v => (s.takeVoice v x, some v)
  | none =>
    if s.lowestPriority < x.priority then
      ((s.endVoice s.victim .preempted).takeVoice s.victim x, some s.victim)
    else ({ s with sound := { s.sound with queue := enqueue s.sound.queue x } }, none)

/-! ### Refills (R129, R130) -/

/-- A refill of a voice has come without an uncorrectable sector (R129). A refill that became due while this one was
outstanding is asked now. DESIGN CHOICE, notes/assumptions/57. -/
def State.refillArrived (s : State) (v : VoiceId) (data : List Byte) : State :=
  match s.voice v with
  | none => s
  | some x =>
    match x.refill with
    | none => s
    | some r =>
      let x1 := x.setBuffer r.second (some ⟨r.page, data⟩)
      let x2 := { x1 with
        refill := none, stage := .playing, timer := 0
        cur := if (x.buffer x.cur).isNone then r.second else x.cur }
      (s.setVoice v (some x2)).askRefill v

/-! ### Samples (R128, R130, R131) -/

/-- The sample of a tone at phase `φ` (R128). -/
def toneSample (w : Waveform) (phase : Nat) : Int :=
  match w with
  | .square => if phase ≤ 7999 then 16000 else -16000
  | .triangle =>
    if phase ≤ 3999 then 4 * (phase : Int)
    else if phase ≤ 11999 then 32000 - 4 * (phase : Int)
    else 4 * (phase : Int) - 64000

/-- The sample that a clip's bytes at a read position give (R131). -/
def clipSample (f : SoundFormat) (bytes : List Byte) (pos : Nat) : Int :=
  if sampleWidth f = 2 then signed 65536 (u16 bytes (pos % 2048)) else ((u8 bytes (pos % 2048) : Int) - 128) * 256

/-- A clip voice after it has taken one sample: a page whose last byte has been taken leaves its buffer empty, and output
passes to the other buffer (R129). -/
def Voice.advance (v : Voice) (pos last : Nat) (part : SoundPart) (again : Option Int) : Voice :=
  let v1 := { v with sound := { v.sound with part := part }, again := again }
  if last ≤ pos ∨ pos % 2048 = 0 then { v1.setBuffer v.cur none with cur := !v.cur } else v1

/-- One output sample of a voice in PLAYING: what it gives and the voice it leaves (R128, R130, R131). -/
def Voice.give (v : Voice) : Int × Voice :=
  match v.sound.part with
  | .tone f w n φ =>
    (toneSample w φ, { v with sound := { v.sound with part := .tone f w (n - 1) ((φ + f) % 16000) } })
  | .clip asset holder serial version length f offset loops done pos =>
    match v.again with
    | some x => (x, { v with again := none })
    | none =>
      if endPos f length ≤ pos then (0, v)
      else match v.buffer v.cur with
        | none => (0, { v with stage := .starving, timer := starveSamples })
        | some b =>
          let x := clipSample f b.bytes pos
          let next := pos + sampleWidth f
          (x, v.advance next (endPos f length) (.clip asset holder serial version length f offset loops done next)
            (if halfRate f then some x else none))

/-- A tone whose remaining samples are 0 ends DONE (R128). -/
def State.toneEnd (s : State) (v : VoiceId) : State :=
  match s.voice v with
  | some { stage := .playing, sound := { part := .tone _ _ 0 _, .. }, .. } => s.finishVoice v .done
  | _ => s

/-- The end of a pass: the next pass begins, or the clip ends DONE (R131). -/
def State.passEnd (s : State) (v : VoiceId) : State :=
  match s.voice v with
  | none => s
  | some x =>
    match x.stage, x.again, x.sound.part with
    | .playing, none, .clip asset holder serial version length f offset loops done pos =>
      if endPos f length ≤ pos then
        let n := satAdd 255 done 1
        let again := decide (loops = 0) || decide (n < loops)
        let part := SoundPart.clip asset holder serial version length f offset loops n (if again then offset else pos)
        let s1 := s.setVoice v (some { x with sound := { x.sound with part := part } })
        if again then s1.askRefill v else s1.finishVoice v .done
      else s
    | _, _, _ => s

/-- The priming or starvation timer of a voice has run out: its entry ends STARVED (R130). -/
def State.starved (s : State) (v : VoiceId) : State :=
  match s.voice v with
  | some { stage := .playing, .. } => s
  | some _ => s.finishVoice v .starved
  | none => s

/-- The contribution of a sample to the mix (R132). -/
def State.contribution (s : State) (x : Sound) (sample : Int) : Int :=
  towardZero (sample * x.volume * (s.sound.volumes.get x.link : Int)) 10000

/-- One voice at an output sample: its contribution, and what it leaves (R128 to R132). -/
def State.voiceSample (s : State) (v : VoiceId) : State × Int :=
  match s.voice v with
  | none => (s, 0)
  | some x =>
    match x.stage with
    | .playing =>
      let g := x.give
      let s1 := (s.setVoice v (some g.2)).askRefill v
      (if x.sound.part.isClip then s1.passEnd v else s1.toneEnd v, s.contribution x.sound g.1)
    | _ =>
      if x.timer ≤ 1 then (s.starved v, 0) else (s.setVoice v (some { x with timer := x.timer - 1 }), 0)

/-- The voices in number order at an output sample, and the sum of what they give. -/
def State.voiceSamples (s : State) : List VoiceId → State × Int
  | [] => (s, 0)
  | v :: rest =>
    let x := s.voiceSample v
    let y := x.1.voiceSamples rest
    (y.1, x.2 + y.2)

/-- The mixer's cap (R132). -/
def State.mixCap (s : State) : Int := if s.low then 50 else 100

/-- One output sample: the voices, the sum, the cap and the saturation (R132). -/
def State.outputSample (s : State) : State :=
  let x := s.voiceSamples allVoices
  { x.1 with sound := { x.1.sound with speaker := clamp (-32767) 32767 (towardZero (x.2 * s.mixCap) 100) } }

end Sys2Proof.Machine
end

