-- ==== Sys2Proof/Machine/MediaOps.lean ====
section
/-! DEFINITION. The operations of the Media Controller (chapter 10): the flash arbiter, the write session, replacement,
catalogue records, compaction, format, refresh and the completions of flash operations. -/

namespace Sys2Proof.Machine

/-! ### Waiting operations (R152) -/

def State.setWork (s : State) (m : Media) : State := { s with media := m }

/-- Asks for an operation of class 2. -/
def State.ask2 (s : State) (o : FlashOp) : State := { s with media := { s.media with class2 := s.media.class2 ++ [o] } }

/-- Asks for an operation of class 4. -/
def State.ask4 (s : State) (o : FlashOp) : State := { s with media := { s.media with class4 := s.media.class4 ++ [o] } }

/-- Whether an operation is work of the session (R155 to R158). -/
def FlashOp.ofSession (o : FlashOp) : Bool :=
  match o.work with
  | .sessionPage .. => true
  | .sessionErase _ => true
  | .copyRead .. => true
  | .copyProgram .. => true
  | _ => false

/-- Whether an operation is a program of the session, or a step of a copy in it. -/
def FlashOp.sessionProgram (o : FlashOp) : Bool :=
  match o.work with
  | .sessionPage .. => true
  | .copyRead .. => true
  | .copyProgram .. => true
  | _ => false

/-- Whether an operation is a step of the copy at a place of the reserved list. -/
def FlashOp.copiesAt (place : Nat) (o : FlashOp) : Bool :=
  match o.work with
  | .copyRead k _ => decide (k = place)
  | .copyProgram k _ _ => decide (k = place)
  | _ => false

/-- Whether an operation is a background erase. -/
def FlashOp.erasesDirty (o : FlashOp) : Bool :=
  match o.work with
  | .dirtyErase _ => true
  | _ => false

/-- Whether an operation is a catalogue append. -/
def FlashOp.appends (o : FlashOp) : Bool :=
  match o.work with
  | .record _ => true
  | _ => false

/-- Withdraws every waiting operation that `p` names, and discards the one in progress. -/
def Media.withdraw (m : Media) (p : FlashOp → Bool) : Media :=
  let m1 := m.orphan p
  { m1 with class2 := m.class2.filter (fun o => !p o), class4 := m.class4.filter (fun o => !p o) }

/-- The operations of class 2 and the one in progress. -/
def Media.present2 (m : Media) : List FlashOp := m.op.toList ++ m.class2

/-- A compaction step is asked in class 2 while an append or a format waits on it, else in class 4 (R152). -/
def State.askCompaction (s : State) (o : FlashOp) : State :=
  if s.media.format.isSome ∨ s.media.records ≠ [] then s.ask2 o else s.ask4 o

/-- Waiting background erases of blocks that are FREE-DIRTY no longer are withdrawn: R151 erases FREE-DIRTY blocks alone. -/
def State.tidyErases (s : State) : State :=
  s.setWork { s.media with class4 := s.media.class4.filter (fun o =>
    match o.work with
    | .dirtyErase b => decide ((s.block b).state = .freeDirty)
    | _ => true) }

/-! ### The arbiter (R152) -/

/-- The voices in the order the round-robin takes them. -/
def voicesAfter : Option VoiceId → List VoiceId
  | none => [.v0, .v1, .v2, .v3]
  | some .v0 => [.v1, .v2, .v3, .v0]
  | some .v1 => [.v2, .v3, .v0, .v1]
  | some .v2 => [.v3, .v0, .v1, .v2]
  | some .v3 => [.v0, .v1, .v2, .v3]

/-- The next voice refill, if one waits. -/
def State.nextRefill (s : State) : Option (VoiceId × Refill) :=
  (voicesAfter s.sound.lastServed).findSome? (fun v => ((s.voice v).bind (·.refill)).map (fun r => (v, r)))

/-- The block at a place of the reserved list. -/
def State.reservedAt (s : State) (place : Nat) : Nat := ((s.media.session.map (·.reserved)).getD []).getD place 0

/-- The place of an operation, settled when it is taken: a program of the session goes to the block that now holds its
place, an append puts the record at the head into the next page of the ring block in use. -/
def State.located (s : State) (o : FlashOp) : FlashOp :=
  match o.kind, o.work with
  | .program, .sessionPage place w => { o with block := s.reservedAt place, page := w.page }
  | .program, .copyProgram place page _ => { o with block := s.reservedAt place, page := page }
  | .program, .record r =>
    { o with block := s.media.ring.getD 0, page := s.media.pagesUsed
             work := .record ((s.media.records.head?.map (·.record)).getD r) }
  | _, _ => o

/-- The record at the head has begun to be programmed (R158). -/
def markBegun : List PendingRecord → List PendingRecord
  | [] => []
  | r :: rest => { r with begun := true } :: rest

/-- An operation passes to the flash. -/
def State.startOp (s : State) (o : FlashOp) : State :=
  let x := s.located o
  { s with media := { s.media with
      op := some x
      records := if x.kind = .program ∧ x.appends then markBegun s.media.records else s.media.records } }

/-- An append asked for a record that has been withdrawn since is withdrawn too, where no other record waits. -/
def Media.pruneAppend (m : Media) : Media :=
  if m.records = [] then { m with class2 := m.class2.filter (fun o => !o.appends), appending := false } else m

/-- The flash arbiter takes the next waiting operation (R152). -/
def State.takeOp (s : State) : State :=
  if s.media.op.isSome then s
  else match s.nextRefill with
    | some (v, r) =>
      { s with sound := { s.sound with lastServed := some v } }.startOp ⟨.read, r.block, r.flashPage, .refill v⟩
    | none =>
      match s.media.class2, s.media.class3, s.media.class4 with
      | o :: rest, _, _ => (s.setWork { s.media with class2 := rest }).startOp o
      | [], o :: rest, _ => (s.setWork { s.media with class3 := rest }).startOp o
      | [], [], o :: rest => (s.setWork { s.media with class4 := rest }).startOp o
      | [], [], [] => s

/-- FLASH ARBITER CHOOSE: what waits is settled first (R152). -/
def State.chooseOp (s : State) : State :=
  if s.media.op.isSome then s else (s.setWork s.media.pruneAppend).takeOp

/-! ### Store events and catalogue records (R160, R162) -/

/-- STORE EVENT to both UP links (R162). -/
def State.storeEvent (s : State) (k : StoreEventKind) (previous : StoreState) (asset : Option Nat) (version : Nat) :
    State :=
  s.notifyBoth (.storeEvent k (s.media.store.getD .offline) previous asset version)

/-- The compaction begins with the next ring block (R160). -/
def State.startCompaction (s : State) (source : Option Nat) (target : Nat) : State :=
  if s.media.compaction.isSome then s
  else (s.setWork { s.media with compaction := some ⟨source, target, 1, none⟩ }).askCompaction
    ⟨.erase, target, 0, .ringErase⟩

/-- The ring block after one. -/
def nextRing (b : Nat) : Nat := (b + 1) % 8

/-- Appending goes on: the next record is asked as a program, or the compaction it waits on (R160). -/
def State.pumpRecords (s : State) : State :=
  match s.media.records, s.media.ring with
  | r :: _, some b =>
    if s.media.appending ∨ s.media.format.isSome then s
    else if s.media.compaction.isSome then s.setWork s.media.classify
    else if s.media.mustCompact then s.startCompaction (some b) (nextRing b)
    else (s.setWork { s.media with appending := true }).ask2 ⟨.program, b, s.media.pagesUsed, .record r.record⟩
  | _, _ => s

/-- A record is asked to be appended (R160). -/
def State.append (s : State) (r : CatRecord) (a : Asker) : State :=
  (s.setWork { s.media with records := s.media.records ++ [⟨r, a, false⟩] }).pumpRecords

/-- A BAD or SPARE TAKEN record; a store without a ring block, or one being formatted, keeps its lists for the snapshot. -/
def State.bookkeep (s : State) (r : CatRecord) : State :=
  if s.media.ring.isNone ∨ s.media.format.isSome then s else s.append r .bookkeeping

/-- The session's erase of a block is withdrawn where it waits: R155 erases the reserved FREE-DIRTY blocks alone. -/
def State.dropSessionErase (s : State) (b : Nat) : State :=
  s.setWork { s.media with class2 := s.media.class2.filter (fun o => decide (o.work ≠ .sessionErase b)) }

/-- A block becomes BAD, an erase that waits for it in the background or for the session is withdrawn, and its BAD record
is appended (R151, R155, R157). -/
def State.badBlock (s : State) (b : Nat) : State :=
  ((s.setBlockState b .bad).tidyErases.dropSessionErase b).bookkeep (.bad b)

/-- The replacement of R157: a SPARE block, else a FREE-CLEAN block; the flag says that it came from the pool. -/
def State.replacement (s : State) : Option (Nat × Bool) :=
  match s.lowestBlock (s.freeIn .spare) with
  | some b => some (b, true)
  | none => (s.lowestBlock (s.freeIn .freeClean)).map (fun b => (b, false))

/-- A replacement is taken into a state, with its SPARE TAKEN record where it came from the pool (R157). -/
def State.takeReplacement (s : State) (r : Nat × Bool) (st : BlockState) : State :=
  let s1 := s.setBlockState r.1 st
  if r.2 then s1.bookkeep (.spareTaken r.1) else s1

/-! ### The end of a session (R157, R159) -/

/-- The ticket a work item answers. -/
def Work.awaits : Work → List Ticket
  | .sessionPage _ w => w.ticket.toList
  | _ => []

/-- The responses still awaited from the session, in the order they are handed over when it ends: the operation in
progress, class 2, the pages that wait in repairs, WRITE CLOSE; the response of the WRITE CANCEL that ends it follows them.
DESIGN CHOICE, notes/assumptions/68. -/
def State.sessionTickets (s : State) : List Ticket :=
  match s.media.session with
  | none => []
  | some x =>
    (s.media.present2.map (fun o => o.work.awaits)).flatten ++
      (x.repairs.map (fun r => (r.todo.map (fun w => w.ticket.toList)).flatten)).flatten ++
      (x.closing.map (·.ticket)).toList

/-- The session ends without a commit (R157, R159): its waiting operations are withdrawn, the responses it owes are `j`,
and its blocks become FREE-DIRTY; a block already BAD stays BAD. A compaction that waited for the withdrawn COMMIT alone
goes back to class 4 (R152). -/
def State.endSession (s : State) (j : Judgement) : State :=
  match s.media.session with
  | none => s
  | some x =>
    let s1 := s.sessionTickets.foldl (fun t k => t.refuse k j) s
    let m := s1.media.withdraw FlashOp.ofSession
    let s2 := s1.setWork (Media.classify { m with
      session := none, records := m.records.filter (fun r => decide (r.asker ≠ .commit)) })
    s2.setBlockStates (x.reserved.filter (fun b => decide ((s.block b).state = .session))) .freeDirty

/-- Dirty erases and refresh copies stop (R159). -/
def State.stopBackground (s : State) : State :=
  (s.setWork { s.media with class4 := s.media.class4.filter (fun o => !o.erasesDirty) }).abandonRefresh .freeDirty

/-- A compaction that no append and no format waits on is background work and stops where the store leaves READY (R152,
R162): its waiting step is withdrawn and its operation in progress is for no one. It begins anew when a record waits. -/
def State.stopCompaction (s : State) : State :=
  if s.media.format.isSome ∨ s.media.records ≠ [] then s
  else
    let m := s.media.withdraw FlashOp.compacts
    s.setWork { m with compaction := none }

/-- All background work stops (R162). -/
def State.stopAllBackground (s : State) : State := s.stopBackground.stopCompaction

/-- The open session ends failed, the store state as it stands (R157, R162). R157 names the response that awaits the
failed program alone; every other response still awaited is MEDIA ERROR too. DESIGN CHOICE, notes/assumptions/71. -/
def State.failSession (s : State) (previous : StoreState) : State :=
  match s.media.session with
  | none => s
  | some x => (s.endSession .mediaError).storeEvent .failed previous (some x.asset) 0

/-- Whether the program of a session's COMMIT record has begun (R158). -/
def State.commitBegun (s : State) : Bool := s.media.records.any (fun r => decide (r.asker = .commit) && r.begun)

/-- READY becomes READ-ONLY (R162): a session ends failed, and FAILED alone tells of both. A commit whose program has
begun completes (R158). -/
def State.enterReadOnly (s : State) : State :=
  if s.media.store = some .ready then
    let s1 := s.setWork { s.media with store := some .readOnly }
    let s2 := if s1.media.session.isSome ∧ !s1.commitBegun then s1.failSession .ready
      else s1.storeEvent .stateChanged .ready none 0
    s2.stopAllBackground
  else s

/-! ### Replacement in a session (R157) -/

def State.setSession (s : State) (x : Session) : State := s.setWork { s.media with session := some x }

/-- The repairs with pages added to the one at a place. -/
def addRepair (place : Nat) (todo : List PageWork) : List Repair → List Repair
  | [] => [⟨place, todo⟩]
  | r :: rest => if r.place = place then ⟨place, r.todo ++ todo⟩ :: rest else r :: addRepair place todo rest

/-- The next step of the repair at a place (R157): the copy of a page that its new block does not hold yet, or, when none
is left, the programs that wait for the copy. The pages are copied in the order in which they first passed their verify:
DESIGN CHOICE, notes/assumptions/79. -/
def State.stepRepair (s : State) (place : Nat) : State :=
  match s.media.session with
  | none => s
  | some x =>
    match x.repairs.find? (fun r => decide (r.place = place)) with
    | none => s
    | some r =>
      if s.media.present2.any (FlashOp.copiesAt place) then s
      else
        match x.pages.find? (fun q => decide (q.place = place) && decide (q.block ≠ x.reserved.getD place 0)) with
        | some q => s.ask2 ⟨.read, q.block, q.page, .copyRead place q.page⟩
        | none =>
          let s1 := s.setSession { x with repairs := x.repairs.filter (fun k => decide (k.place ≠ place)) }
          r.todo.foldl (fun t w => t.ask2 ⟨.program, 0, w.page, .sessionPage place w⟩) s1

/-- The block `b` of the reserved list at a place has failed: it becomes BAD and a replacement takes its place, or the
session fails (R157). `todo` are the pages to program again. -/
def State.replaceReserved (s : State) (x : Session) (place b : Nat) (todo : List PageWork) : State :=
  let s1 := (s.setSession { x with
    repairs := addRepair place todo x.repairs, unerased := x.unerased.filter (fun n => decide (n ≠ b)) }).badBlock b
  match s1.replacement, s1.media.session with
  | some r, some y =>
    ((s1.setSession { y with reserved := y.reserved.set place r.1 }).takeReplacement r .session).stepRepair place
  | _, _ => s1.enterReadOnly

/-- The reserved block at a place has failed (R157). Once the COMMIT record has been handed over the session has no
program left to repair (R158), and its list stands. -/
def State.sessionBlockFailed (s : State) (place : Nat) (todo : List PageWork) : State :=
  match s.media.session with
  | none => s
  | some x =>
    match x.reserved[place]? with
    | none => s
    | some b => if x.closing.any (·.committing) then s.badBlock b else s.replaceReserved x place b todo

/-! ### Closing (R158) -/

/-- Whether a program of the session is still to end. -/
def State.programsLeft (s : State) (x : Session) : Bool :=
  decide (x.repairs ≠ []) || s.media.present2.any FlashOp.sessionProgram

/-- Whether an operation erases one of these blocks for the session. -/
def FlashOp.erasesFor (bs : List Nat) (o : FlashOp) : Bool :=
  match o.work with
  | .sessionErase b => decide (b ∈ bs)
  | _ => false

/-- The version that a closing session commits (R158 step 3). -/
def Session.image (x : Session) (number : Nat) (reserved : List Nat) : VersionImage :=
  { number := number, kind := x.kind, format := x.format, length := x.written, extents := runs reserved }

/-- CLOSING goes on once the session's programs have ended: unused blocks leave the list, and the COMMIT record is handed
over (R158). -/
def State.pumpClose (s : State) : State :=
  match s.media.session with
  | none => s
  | some x =>
    match x.closing with
    | none => s
    | some c =>
      if c.committing ∨ s.programsLeft x then s
      else
        let used := x.reserved.take (ceilDiv x.written 131072)
        let unused := x.reserved.drop (ceilDiv x.written 131072)
        let m := s.media.withdraw (FlashOp.erasesFor unused)
        let s1 := s.setWork { m with session := some { x with
          reserved := used, unerased := x.unerased.filter (fun b => decide (b ∈ used)), closing := some ⟨c.ticket, true⟩ } }
        let s2 := unused.foldl (fun t b => t.setBlockState b (if b ∈ x.unerased then .freeDirty else .freeClean)) s1
        s2.append (.commit x.asset (x.image (nextNumber (s.entry x.asset).lastVersion) used)) .commit

/-- The commit (R158 step 4). A read or probe that fails at its restart is answered before the WRITE CLOSE: DESIGN CHOICE,
notes/assumptions/70. -/
def State.committed (s : State) (n : Nat) (v : VersionImage) : State :=
  match s.media.session with
  | none => s
  | some x =>
    let s1 := (s.setWork { s.media with session := none }).applyChange n (.commit n v) true
    let s2 := (s1.setBlockStates (versionBlocks v) .live).storeEvent .committed (s.media.store.getD .offline) (some n)
      v.number
    match x.closing with
    | some c => s2.complete c.ticket (e16 v.number)
    | none => s2

/-! ### Directory changes (R144) -/

/-- The directory change whose record is in flash is applied (R144, R147 to R149, R141). A read or probe that fails at its
restart is answered before the change's own request: DESIGN CHOICE, notes/assumptions/70. -/
def State.changeApplied (s : State) : State :=
  match s.assets.change with
  | none => s
  | some c =>
    let s1 := { s with assets := { s.assets with change := none } }
    let s2 := match c.record with
      | .delete n => s1.applyChange n c.record true
      | .redirect n _ => s1.applyChange n c.record true
      | .protect n _ => s1.applyChange n c.record false
      | _ => { s1 with assets := { s1.assets with
          directory := applyRecord 0 s1.assets.directory (.marksClear c.numbers) } }
    s2.complete c.ticket []

/-! ### Refresh (R154) -/

/-- The refresh's REMAP record is in flash (R154 step 4). The page reads of an ASSET READ or a PROBE PAGE and the voice
refills that name the old block stand: DESIGN CHOICE, notes/assumptions/76. -/
def State.remapApplied (s : State) (old new : Nat) : State :=
  match s.media.refresh with
  | some r =>
    if r.old = old ∧ r.dest = new ∧ r.page = 64 then
      let m := { s.media with
        refresh := none, refreshList := s.media.refreshList.filter (fun i => decide (i.block ≠ old)) }
      let s1 := { s with
        media := m, assets := { s.assets with directory := applyRecord 0 s.assets.directory (.remap old new) } }
      (((s1.setBlockState new .live).setBlockState old .freeDirty).flushUser).flushBlock old
    else s
  | none => s

/-- The version that holds a LIVE block. -/
def State.versionOf (s : State) (b : Nat) : Option VersionImage :=
  s.assets.directory.cells.findSome? (fun c =>
    match c.2.content with
    | .present v => if b ∈ versionBlocks v.image then some v.image else none
    | _ => none)

/-- The pages of a refresh are copied: the pin test, the test of the extents, then the REMAP record (R154). -/
def State.refreshCopied (s : State) (r : RefreshCopy) : State :=
  if s.blockPinned r.old then
    let list := s.media.refreshList.map (fun i => if i.block = r.old then { i with postponed := true } else i)
    (s.setWork { s.media with refresh := none, refreshList := list }).setBlockState r.dest .freeDirty
  else match s.versionOf r.old with
    | none => s.abandonRefresh .freeDirty
    | some v =>
      if 64 < (remapped v r.old r.dest).extents.length then s.abandonRefresh .freeDirty
      else (s.setWork { s.media with refresh := some { r with page := 64 } }).append (.remap r.old r.dest) .remap

/-- A page of the refresh is in its destination (R154 step 2). -/
def State.refreshPageDone (s : State) (page : Nat) : State :=
  match s.media.refresh with
  | none => s
  | some r =>
    if page + 1 = 64 then s.refreshCopied r
    else (s.setWork { s.media with refresh := some { r with page := page + 1 } }).ask4
      ⟨.read, r.old, page + 1, .refreshRead (page + 1)⟩

/-- The destination of a refresh has failed: a replacement becomes the destination and the copy restarts, or the refresh
is abandoned and the store becomes READ-ONLY (R157). -/
def State.refreshFailed (s : State) : State :=
  match s.media.refresh with
  | none => s
  | some r =>
    let s1 := s.badBlock r.dest
    match s1.replacement with
    | some x =>
      ((s1.setWork { s1.media with refresh := some ⟨r.old, x.1, 0⟩ }).takeReplacement x .freeClean).ask4
        ⟨.read, r.old, 0, .refreshRead 0⟩
    | none => (s1.abandonRefresh .bad).enterReadOnly

/-! ### Compaction and format (R160, R163) -/

/-- The pages of a snapshot: its header, its entry and list pages, its end page; never more than 16 (R160). -/
def snapshotPages (x : SnapshotImage) : Nat := 2 + min 14 (Config.entryPages x)

/-- The sequence of the next snapshot: one higher (R160). What follows the highest 32-bit number is a free value: DESIGN
CHOICE, notes/assumptions/48. -/
def nextSequence (n : Nat) : Nat := if max32 ≤ n then (Config.sequencePastMax n).toNat else n + 1

/-- What a snapshot carries of an entry's content (R160). -/
def Content.packed : Content → ContentImage
  | .absent => .absent
  | .present v => .present v.image
  | .aliasOf t => .aliasOf t

/-- The packed entry of a snapshot: content, own protection, changed mark and last version number (R160). -/
def DirEntry.packed (n : Nat) (e : DirEntry) : EntryImage := ⟨n, e.content.packed, e.protection, e.changed, e.lastVersion⟩

/-- The packed user directory (R160): its entries in rising number. -/
def State.packedDirectory (s : State) : List EntryImage :=
  (s.assets.directory.cells.filter (fun c => decide (128 ≤ c.1))).map (fun c => c.2.packed c.1)

/-- The blocks in a state, in rising number. -/
def State.blocksIn (s : State) (st : BlockState) : List Nat :=
  blockNumbers.filter (fun b => decide ((s.block b).state = st))

/-- The snapshot taken from the directory and the lists as they stand (R160). The spare pool list is the SPARE blocks and
the bad list the BAD blocks, each in rising number: DEDUCED, notes/assumptions/20. -/
def State.snapshotImage (s : State) : SnapshotImage :=
  { sequence := nextSequence s.media.sequence, entries := s.packedDirectory
    spares := s.blocksIn .spare, bads := s.blocksIn .bad }

/-- The CRC-16 of a snapshot-end page, over every earlier page (R160). -/
def snapshotCheck (x : SnapshotImage) : Word16 :=
  crc16 ((List.range (snapshotPages x - 1)).map (Config.snapshotPageBytes x)).flatten

/-- What page `i` of a snapshot holds: its end page the check, an earlier one its bytes (R160). -/
def snapshotPage (x : SnapshotImage) (i : Nat) : SnapshotPage :=
  if i + 1 < snapshotPages x then .body (Config.snapshotPageBytes x i) else .finish (snapshotCheck x)

/-- The page of a catalogue record: its bytes and its own CRC-16 over them (R160). -/
def recordPage (r : CatRecord) : List Byte :=
  Config.recordBytes r ++ e16 (crc16 (Config.recordBytes r)).toNat

/-- The erase count of a block after one more erase (R151). -/
def nextErases (b n : Nat) : Nat := if max32 ≤ n then (Config.eraseCountPastMax b).toNat else n + 1

/-- What a page program puts into flash as it starts (R154, R156, R157, R160). -/
def FlashOp.content (o : FlashOp) : Option PageContent :=
  if o.kind ≠ .program then none
  else match o.work with
    | .sessionPage _ w => some (.data w.data)
    | .copyProgram _ _ d => some (.data d)
    | .refreshProgram _ d => some (.data d)
    | .record r => some (.record (recordPage r))
    | .snapshotPage _ x => some (.snapshot x)
    | _ => none

/-- What the flash operation in progress puts into flash: a page program its page, and an erase, as it ends, the block's
new erase count, in a header area of the block that data pages do not use (R151). -/
def State.flashContent (s : State) : Option PageContent :=
  match s.media.op with
  | none => none
  | some o => if o.kind = .erase then some (.header (nextErases o.block (s.block o.block).erases)) else o.content

/-- A waiting record fails: its asker receives MEDIA ERROR (R144, R160). A session's commit so failed ends with the
store's entry to READ-ONLY. -/
def State.recordFails (s : State) (a : Asker) : State :=
  match a with
  | .change =>
    match s.assets.change with
    | some c => { s with assets := { s.assets with change := none } }.refuse c.ticket .mediaError
    | none => s
  | .remap => s.abandonRefresh .freeDirty
  | _ => s

/-- Every other ring block has failed (R160). -/
def State.compactionFails (s : State) : State :=
  let rs := s.media.records
  let s1 := s.setWork { s.media with records := [], compaction := none }
  (rs.foldl (fun t r => t.recordFails r.asker) s1).enterReadOnly

/-- A format whose ring blocks have all failed leaves the store OFFLINE (R163); the change of state is told (R162). -/
def State.formatFails (s : State) (f : Format) : State :=
  let previous := s.media.store.getD .offline
  let s1 := (s.setWork { s.media with
    store := some .offline, ring := none, compaction := none, format := none, mustCompact := false }).flushAll
  let s2 := s1.stopAllBackground
  let s3 := if previous = .offline then s2 else s2.storeEvent .stateChanged previous none 0
  s3.refuse f.ticket .mediaError

/-- A format whose snapshot is written makes the store READY (R163). -/
def State.formatDone (s : State) (f : Format) : State :=
  let previous := s.media.store.getD .offline
  let s1 := s.setWork { s.media with store := some .ready, format := none }
  (s1.storeEvent .formatted previous none 0).complete f.ticket []

/-- The snapshot is complete: appending continues in its block (R160). -/
def State.snapshotDone (s : State) (c : Compaction) (x : SnapshotImage) : State :=
  let s1 := s.setWork { s.media with
    ring := some c.target, sequence := x.sequence, pagesUsed := snapshotPages x, mustCompact := false
    compaction := none }
  match s1.media.format with
  | some f => (s1.formatDone f).pumpRecords
  | none => s1.pumpRecords

/-- A ring block's erase or snapshot page has failed: the next ring block is tried (R160). A format may try all eight. -/
def State.ringFailed (s : State) : State :=
  match s.media.compaction with
  | none => s
  | some c =>
    if (if c.source.isSome then 7 else 8) ≤ c.tried then
      match s.media.format with
      | some f => s.formatFails f
      | none => s.compactionFails
    else
      (s.setWork { s.media with compaction := some ⟨c.source, nextRing c.target, c.tried + 1, none⟩ }).askCompaction
        ⟨.erase, nextRing c.target, 0, .ringErase⟩

/-- Page `i` of a snapshot is asked, with what it holds. -/
def State.askSnapshotPage (s : State) (c : Compaction) (x : SnapshotImage) (i : Nat) : State :=
  (s.setWork { s.media with compaction := some { c with page := some (i, x) } }).askCompaction
    ⟨.program, c.target, i, .snapshotPage i (snapshotPage x i)⟩

/-- A snapshot page has passed its verify. -/
def State.snapshotPageDone (s : State) (i : Nat) : State :=
  match s.media.compaction with
  | none => s
  | some c =>
    match c.page with
    | none => s
    | some (_, x) => if i + 1 < snapshotPages x then s.askSnapshotPage c x (i + 1) else s.snapshotDone c x

/-- The ring block of a compaction is erased: the snapshot is taken as the directory and the lists now stand. -/
def State.ringErased (s : State) : State :=
  match s.media.compaction with
  | none => s
  | some c => s.askSnapshotPage c s.snapshotImage 0

/-- The snapshot of a format begins, with the next ring block; a store without one in use begins at block 0. -/
def State.formatSnapshot (s : State) : State :=
  s.startCompaction none ((s.media.ring.map nextRing).getD 0)

/-- The spares of a format still to be erased; with none left, its snapshot begins (R163). -/
def State.setFormatSpares (s : State) (f : Format) (bs : List Nat) : State :=
  let s1 := s.setWork { s.media with format := some { f with toErase := bs } }
  if bs = [] then s1.formatSnapshot else s1

/-- Whether a block may be chosen as a spare (R163). -/
def State.sparable (s : State) (b : Nat) : Bool :=
  match (s.block b).state with
  | .catalogue => false
  | .factory => false
  | .bad => false
  | _ => true

/-- The erase of a chosen spare has failed: it becomes BAD and the next block is chosen, whose waiting background erase,
if any, is withdrawn (R151, R163). -/
def State.spareFailed (s : State) (f : Format) (b : Nat) : State :=
  let s1 := (s.setBlockState b .bad)
  let s2 := s1.setWork { s1.media with class2 := s1.media.class2.filter (fun o => decide (o.work ≠ .spareErase b)) }
  let left := f.toErase.filter (fun x => decide (x ≠ b))
  match s2.lowestBlock (fun x => s2.sparable x && decide ((s2.block x).state ≠ .spare)) with
  | some n =>
    ((s2.setBlockState n .spare).tidyErases.setFormatSpares f (left ++ [n])).ask2 ⟨.erase, n, 0, .spareErase n⟩
  | none => s2.setFormatSpares f left

/-- FORMAT USER at its acceptance (R163). With fewer than 24 blocks to choose from it goes on with as many as there are:
DESIGN CHOICE, notes/assumptions/50. The answer of a read or probe that fails at its restart stands behind those of the
ended session: DESIGN CHOICE, notes/assumptions/70. Where start-up built no block table, the spares are chosen on that of
the reset: DESIGN CHOICE, notes/assumptions/72. -/
def State.beginFormat (s : State) (t : Ticket) : State :=
  let s1 := s.endSounds (fun x =>
    match x.part with
    | .clip _ holder .. => decide (128 ≤ holder)
    | .tone .. => false) .stopped
  let s2 := (s1.endSession .sequenceError).abandonRefresh .freeDirty
  let m := s2.media.withdraw (fun o => o.appends || o.compacts)
  let s3 := (s2.setWork { m with refreshList := [], records := [], appending := false, compaction := none }).flushUser
  let s4 := { s3 with assets := { s3.assets with directory := s3.assets.directory.keep (fun n => decide (n < 128)) } }
  let chosen := s4.lowestBlocks 24 s4.sparable
  let others := blockNumbers.filter (fun b => decide (b ∉ chosen) &&
    (match (s4.block b).state with
      | .live => true
      | .retired => true
      | .session => true
      | .spare => true
      | _ => false))
  let s5 := ((s4.setBlockStates others .freeDirty).setBlockStates chosen .spare).tidyErases
  let s6 := chosen.foldl (fun x b => x.ask2 ⟨.erase, b, 0, .spareErase b⟩) s5
  let s7 := (s4.assets.reads.filter (fun j => decide (128 ≤ j.holder))).foldl
    (fun x j => (x.dropRead j.ticket).beginRead j.ticket j.purpose) s6
  s7.setFormatSpares ⟨t, chosen⟩ chosen

/-! ### Completions (R152 to R160) -/

/-- A block outside any work has failed a program or an erase (R157): in the session it is replaced, among a format's
spares the next is chosen, and any other becomes BAD. -/
def State.blockLost (s : State) (b : Nat) : State :=
  let place := (s.media.session.map (fun x => x.reserved.findIdx? (· == b))).join
  match place, s.media.format with
  | some k, _ => s.sessionBlockFailed k []
  | none, some f => if b ∈ f.toErase then s.spareFailed f b else if s.sparable b then s.badBlock b else s
  | none, none => if s.sparable b then s.badBlock b else s

/-- The reserved block has been erased for the session (R155). -/
def State.sessionErased (s : State) (b : Nat) : State :=
  match s.media.session with
  | none => s
  | some x => s.setSession { x with unerased := x.unerased.filter (fun n => decide (n ≠ b)) }

/-- After an append has ended (R160): a block to be left behind brings compaction, in READ-ONLY only where a record waits
on it (R162); else appending goes on. -/
def State.afterAppend (s : State) : State :=
  match s.media.ring with
  | some b =>
    if s.media.mustCompact ∧ s.media.store = some .ready then s.startCompaction (some b) (nextRing b) else s.pumpRecords
  | none => s

/-- The record at the head is in flash (R160): its asker is told, and a full block brings compaction. -/
def State.recordDone (s : State) : State :=
  match s.media.records with
  | [] => s.setWork { s.media with appending := false }
  | r :: rest =>
    let used := s.media.pagesUsed + 1
    let s1 := s.setWork { s.media with
      records := rest, appending := false, pagesUsed := used, mustCompact := decide (64 ≤ used) }
    let s2 := match r.asker, r.record with
      | .change, _ => s1.changeApplied
      | .commit, .commit n v => s1.committed n v
      | .remap, .remap old new => s1.remapApplied old new
      | _, _ => s1
    s2.afterAppend

/-- A record page has failed: compaction runs, and the record is appended in the new block (R160). The pages used do not
count the page that failed: DESIGN CHOICE, notes/assumptions/77. -/
def State.recordPageFailed (s : State) : State :=
  (s.setWork { s.media with appending := false, mustCompact := true }).afterAppend

/-- A page of the session has passed its verify (R156, R157). One that passes in a block replaced meanwhile is answered
there and copied to the replacement afterwards. DESIGN CHOICE, notes/assumptions/69. -/
def State.sessionPageDone (s : State) (place : Nat) (w : PageWork) (b : Nat) : State :=
  match s.media.session with
  | none => s
  | some x =>
    let moved := decide (b ≠ x.reserved.getD place 0)
    let s1 := s.setSession { x with
      pages := x.pages ++ [⟨place, w.page, b⟩]
      repairs := if moved then addRepair place [] x.repairs else x.repairs }
    let s2 := if moved then s1.stepRepair place else s1
    let s3 := match w.ticket with
      | some t => s2.complete t []
      | none => s2
    s3.pumpClose

/-- A copied page has passed its verify in the replacement (R157). -/
def State.copyDone (s : State) (place page b : Nat) : State :=
  match s.media.session with
  | none => s
  | some x =>
    ((s.setSession { x with
      pages := x.pages.map (fun q => if q.place = place ∧ q.page = page then { q with block := b } else q) }).stepRepair
        place).pumpClose

/-- A program and its verify have succeeded. -/
def State.workDone (s : State) (o : FlashOp) : State :=
  match o.work with
  | .sessionPage place w => s.sessionPageDone place w o.block
  | .copyProgram place page _ => s.copyDone place page o.block
  | .record _ => s.recordDone
  | .snapshotPage i _ => s.snapshotPageDone i
  | .refreshProgram page _ => s.refreshPageDone page
  | _ => s

/-- A program or its verify has failed (R157, R160). A page whose block has been replaced meanwhile is programmed again
in the replacement. -/
def State.workFailed (s : State) (o : FlashOp) : State :=
  match o.work with
  | .sessionPage place w =>
    if o.block = s.reservedAt place then s.sessionBlockFailed place [w]
    else s.ask2 ⟨.program, 0, w.page, .sessionPage place w⟩
  | .copyProgram place _ _ =>
    if o.block = s.reservedAt place then s.sessionBlockFailed place [] else s.stepRepair place
  | .record _ => s.recordPageFailed
  | .snapshotPage .. => s.ringFailed
  | .refreshProgram .. => s.refreshFailed
  | _ => s.blockLost o.block

/-- The verify of a program is asked in the program's class (R152). -/
def State.askVerify (s : State) (o : FlashOp) : State :=
  match o.work with
  | .orphan => s
  | .refreshProgram .. => s.ask4 { o with kind := .verify }
  | .snapshotPage .. => s.askCompaction { o with kind := .verify }
  | _ => s.ask2 { o with kind := .verify }

/-- A page program has ended. -/
def State.programEnded (s : State) (ok : Bool) : State :=
  match s.media.op with
  | some o =>
    if o.kind = .program then
      let s1 := s.setWork { s.media with op := none }
      if ok then s1.askVerify o else s1.workFailed o
    else s
  | none => s

/-- Whether a read-back passes: no sector uncorrectable, none with 3 or more corrections (R153). -/
def verifies (sectors : List (Option Nat)) : Bool :=
  sectors.all (fun x => match x with | some n => decide (n < 3) | none => false)

/-- A verifying read-back has ended. -/
def State.verifyEnded (s : State) (sectors : List (Option Nat)) : State :=
  match s.media.op with
  | some o =>
    if o.kind = .verify then
      let s1 := s.setWork { s.media with op := none }
      if verifies sectors then s1.workDone o else s1.workFailed o
    else s
  | none => s

/-- An erase of this work has ended well. -/
def State.erased (s : State) (o : FlashOp) : State :=
  match o.work with
  | .sessionErase b => s.sessionErased b
  | .dirtyErase b =>
    if (s.block b).state = .freeDirty then s.setBlockState b .freeClean
    else if (s.block b).state = .session then s.sessionErased b
    else s
  | .spareErase b =>
    match s.media.format with
    | some f => s.setFormatSpares f (f.toErase.filter (fun x => decide (x ≠ b)))
    | none => s
  | .ringErase => s.ringErased
  | _ => s

/-- An erase of this work has failed. -/
def State.eraseFailed (s : State) (o : FlashOp) : State :=
  match o.work with
  | .ringErase => s.ringFailed
  | _ => s.blockLost o.block

/-- A block erase has ended; either way it counts, and the count is the one written into the block's header
(`State.flashContent`, R151). -/
def State.eraseEnded (s : State) (ok : Bool) : State :=
  match s.media.op with
  | some o =>
    if o.kind = .erase then
      let s1 := s.setWork { s.media with op := none }
      let s2 := s1.setBlock o.block { s1.block o.block with erases := nextErases o.block (s1.block o.block).erases }
      if ok then s2.erased o else s2.eraseFailed o
    else s
  | none => s

/-- A read in which a sector needed 3 or 4 corrections puts a LIVE block on the refresh list (R153). -/
def State.noteCorrections (s : State) (b : Nat) (sectors : List (Option Nat)) : State :=
  let worn := sectors.any (fun x => match x with | some n => decide (3 ≤ n) | none => false)
  if worn ∧ (s.block b).state = .live ∧ !(s.media.refreshList.any (fun i => decide (i.block = b))) ∧
      s.media.refreshList.length < 8 then
    s.setWork { s.media with refreshList := s.media.refreshList ++ [⟨b, false⟩] }
  else s

/-- What a page read brings: its bytes, or `none` with an uncorrectable sector (R153). -/
def PageRead.bytes (r : PageRead) : Option (List Byte) := if r.sectors.all Option.isSome then some r.data else none

/-- A refill of a voice has ended: an uncorrectable sector ends its entry MEDIA ERROR (R129, R130). -/
def State.refillEnded (s : State) (v : VoiceId) (data : Option (List Byte)) : State :=
  match data with
  | some d => s.refillArrived v d
  | none => if ((s.voice v).bind (·.refill)).isSome then s.finishVoice v .mediaError else s

/-- A page read for a copy in the session has ended; a page that cannot be read fails the session, the store state as it
stands (R157). -/
def State.copyReadEnded (s : State) (place page : Nat) (data : Option (List Byte)) : State :=
  match data with
  | some d => s.ask2 ⟨.program, 0, page, .copyProgram place page d⟩
  | none => s.failSession (s.media.store.getD .offline)

/-- A page read for a refresh copy has ended (R154). The copy's own uncorrectable read abandons the refresh, and no other
reader's does. DESIGN CHOICE, notes/assumptions/58. -/
def State.refreshReadEnded (s : State) (page : Nat) (data : Option (List Byte)) : State :=
  match s.media.refresh, data with
  | some r, some d => s.ask4 ⟨.program, r.dest, page, .refreshProgram page d⟩
  | some _, none => s.abandonRefresh .freeDirty
  | none, _ => s

/-- What a page read was for takes its result. -/
def State.readEnded (s : State) (o : FlashOp) (data : Option (List Byte)) : State :=
  match o.work with
  | .refill v => s.refillEnded v data
  | .readJob t slot => s.readArrived t slot data
  | .copyRead place page => s.copyReadEnded place page data
  | .refreshRead page => s.refreshReadEnded page data
  | _ => s

/-- Whether an operation is a voice refill, or one withdrawn. -/
def FlashOp.isRefill (o : FlashOp) : Bool :=
  match o.work with
  | .refill _ => true
  | _ => false

/-- A page read has ended; `refill` says that it is a voice refill. -/
def State.pageRead (s : State) (refill : Bool) (r : PageRead) : State :=
  match s.media.op with
  | some o =>
    if o.kind = .read ∧ (o.isRefill = refill ∨ o.work = .orphan) then
      ((s.setWork { s.media with op := none }).noteCorrections o.block r.sectors).readEnded o (PageRead.bytes r)
    else s
  | none => s

/-! ### Acts of other blocks -/

/-- The entry to CUTOFF (R159). A compaction on which no append waits goes on. DESIGN CHOICE, notes/assumptions/59. -/
def State.mediaCutoff (s : State) : State :=
  (if s.commitBegun then s else s.endSession .supplyLow).stopBackground

/-- A link's DOWN ends its session in OPEN (R159). -/
def State.mediaDown (s : State) (l : Link) : State :=
  match s.media.session with
  | some x => if x.link = l ∧ x.closing = none then s.endSession .sequenceError else s
  | none => s

end Sys2Proof.Machine
end

