-- ==== Sys2Proof/Machine/Asset.lean ====
section
/-! DEFINITION. The meanings of the Asset Map's commands (chapter 9). -/

namespace Sys2Proof.Machine

/-! ### Shared checks -/

def State.offline (s : State) : Bool := decide (s.media.store = some .offline)

def State.storeReady (s : State) : Bool := decide (s.media.store = some .ready)

/-- Whether the other link holds the store lock (R140). -/
def State.lockedOut (s : State) (l : Link) : Bool := decide (s.assets.lock = some (otherLink l))

/-- Whether a directory change or a commit awaits its record (R144). -/
def State.recordAwaited (s : State) : Bool :=
  s.assets.change.isSome || ((s.media.session.bind (·.closing)).map (·.committing)).getD false

/-- Whether the write session names an asset (R144). -/
def State.sessionNames (s : State) (n : Nat) : Bool := decide (s.media.session.map (·.asset) = some n)

/-- Whether a format is under way (R163). -/
def State.formatting (s : State) : Bool := s.media.format.isSome

/-- Whether an entry's own protection forbids a change (R147, R148). -/
def State.ownProtected (s : State) (n : Nat) : Bool := decide ((s.entry n).protection ≠ .opened)

/-- A directory change is accepted: its record is handed over (R144). -/
def State.awaitChange (s : State) (t : Ticket) (r : CatRecord) (numbers : List Nat) : State :=
  { s with assets := { s.assets with change := some ⟨t, r, numbers⟩ } }.append r .change

/-! ### ASSET INFO, ASSET READ, PROBE PAGE (R145, R146, R150) -/

def contentCode : Content → Nat
  | .absent => 0
  | .present _ => 1
  | .aliasOf _ => 2

/-- The version fields of ASSET INFO (R145). -/
def versionFields : Option Version → List Byte
  | none => eBool false ++ e16 0 ++ e8 255 ++ e8 0 ++ e32 0 ++ e8 0 ++ e8 0
  | some v =>
    eBool true ++ e16 v.image.number ++ e8 (assetKindCode v.image.kind) ++ e8 (formatCode v.image.format) ++
      e32 v.image.length ++ e8 v.image.extents.length ++ e8 v.pins

/-- The ASSET INFO body (R145). -/
def State.assetInfoBody (s : State) (n : Nat) : List Byte :=
  let e := s.entry n
  e8 (contentCode e.content) ++
    e16 (match e.content with
      | .aliasOf t => t
      | _ => 0xFFFF) ++
    e8 (protectionCode e.protection) ++ e8 (protectionCode (s.combined n)) ++ e8 (marksFlags e) ++ e16 e.lastVersion ++
    versionFields ((s.resolve n).map (·.2))

/-- ASSET INFO (R145). -/
def State.assetInfo (t : Ticket) (b : List Byte) (s : State) : State :=
  s.check t [(decide (b.length ≠ 2) || decide (1023 < u16 b 0), .parameterError), (s.offline, .mediaError)]
    (fun s => s.complete t (s.assetInfoBody (u16 b 0)))

def execAssetInfo (l : Link) (tag : Byte) (s : State) : Host.Outcome State Fault Refusal :=
  .next (s.serve l tag .assetInfo State.assetInfo)

/-- ASSET READ, when its body and the store have passed: the read mark is set where the lookup succeeds, on the entry
that holds the bytes (R141, R146). -/
def State.acceptRead (s : State) (t : Ticket) (n offset count : Nat) : State :=
  match s.lookupFails n offset, s.resolve n with
  | none, some (h, _) => (s.setReadMark h).beginRead t (.asset n offset count)
  | _, _ => s.beginRead t (.asset n offset count)

/-- ASSET READ (R146). -/
def State.assetRead (t : Ticket) (b : List Byte) (s : State) : State :=
  s.check t
    [(decide (b.length ≠ 8) || decide (1023 < u16 b 0) || decide (u16 b 6 < 1) || decide (512 < u16 b 6), .parameterError),
      (s.offline, .mediaError)]
    (fun s => s.acceptRead t (u16 b 0) (u32 b 2) (u16 b 6))

def execAssetRead (l : Link) (tag : Byte) (s : State) : Host.Outcome State Fault Refusal :=
  .next (s.serve l tag .assetRead State.assetRead)

/-- PROBE PAGE (R150). -/
def State.probePage (t : Ticket) (b : List Byte) (s : State) : State :=
  let p := ReadPurpose.probe (u16 b 0) (u32 b 2)
  if b.length ≠ 6 then s.refuse t .parameterError
  else if s.offline then s.readFails t p .mediaError false false
  else if 1023 < u16 b 0 then s.readFails t p .parameterError false false
  else s.beginRead t p

def execProbePage (l : Link) (tag : Byte) (s : State) : Host.Outcome State Fault Refusal :=
  .next (s.serve l tag .probePage State.probePage)

/-! ### ASSET DELETE, ASSET ALIAS, ASSET PROTECT (R147 to R149) -/

/-- ASSET DELETE (R147). -/
def State.assetDelete (t : Ticket) (b : List Byte) (s : State) : State :=
  let n := u16 b 0
  s.check t
    [(decide (b.length ≠ 2) || decide (1023 < n), .parameterError), (s.lockedOut t.link, .heldByOtherLink),
      (!s.storeReady, .mediaError), (decide (n ≤ 127), .writeProtected),
      (decide ((s.entry n).content = .absent), .noSuchAsset), (s.ownProtected n, .writeProtected),
      (s.recordAwaited || s.sessionNames n, .busy), (s.formatting, .busy)]
    (fun s => s.awaitChange t (.delete n) [])

def execAssetDelete (l : Link) (tag : Byte) (s : State) : Host.Outcome State Fault Refusal :=
  .next (s.serve l tag .assetDelete State.assetDelete)

def Content.isAlias : Content → Bool
  | .aliasOf _ => true
  | _ => false

/-- Whether an entry is PRESENT with its current version pinned (R148). -/
def Content.pinned : Content → Bool
  | .present v => decide (0 < v.pins)
  | _ => false

/-- ASSET ALIAS (R148). -/
def State.assetAlias (t : Ticket) (b : List Byte) (s : State) : State :=
  let n := u16 b 0
  let target := u16 b 2
  s.check t
    [(decide (b.length ≠ 4) || decide (1023 < n) || decide (1023 < target) || decide (n = target), .parameterError),
      (s.lockedOut t.link, .heldByOtherLink), (!s.storeReady, .mediaError), (decide (n ≤ 127), .writeProtected),
      ((s.entry target).content.isAlias, .parameterError),
      (decide ((s.entry target).content = .absent), .noSuchAsset), (s.ownProtected n, .writeProtected),
      ((s.entry n).content.pinned, .assetInUse), (s.recordAwaited || s.sessionNames n, .busy), (s.formatting, .busy)]
    (fun s => s.awaitChange t (.redirect n target) [])

def execAssetAlias (l : Link) (tag : Byte) (s : State) : Host.Outcome State Fault Refusal :=
  .next (s.serve l tag .assetAlias State.assetAlias)

/-- ASSET PROTECT (R149). -/
def State.assetProtect (t : Ticket) (b : List Byte) (s : State) : State :=
  let n := u16 b 0
  let p := protectionOf (u8 b 2)
  s.check t
    [(decide (b.length ≠ 3) || decide (1023 < n) || decide (2 < u8 b 2), .parameterError),
      (s.lockedOut t.link, .heldByOtherLink), (!s.storeReady, .mediaError), (decide (n ≤ 127), .writeProtected),
      (decide ((s.entry n).content = .absent), .noSuchAsset),
      (decide ((s.entry n).protection = .fixed) && decide (p ≠ .fixed), .writeProtected),
      (s.recordAwaited || s.sessionNames n, .busy), (s.formatting, .busy)]
    (fun s => if (s.entry n).protection = p then s.complete t [] else s.awaitChange t (.protect n p) [])

def execAssetProtect (l : Link) (tag : Byte) (s : State) : Host.Outcome State Fault Refusal :=
  .next (s.serve l tag .assetProtect State.assetProtect)

/-! ### Marks and the store lock (R140, R141) -/

/-- The numbers at or above a start whose mark is set; `read` names the mark (R141). -/
def State.marked (s : State) (read : Bool) (start : Nat) : List Nat :=
  (List.range 1024).filter (fun n =>
    decide (start ≤ n) && (if read then (s.entry n).read else (s.entry n).changed))

/-- The MARKS READ body (R141). -/
def marksBody (numbers : List Nat) : List Byte :=
  e16 (numbers.take 256).length ++ e16 (numbers.getD 256 0xFFFF) ++ ((numbers.take 256).map e16).flatten

/-- MARKS READ (R141). -/
def State.marksRead (t : Ticket) (b : List Byte) (s : State) : State :=
  s.check t
    [(decide (b.length ≠ 3) || decide (1 < u8 b 0) || decide (1023 < u16 b 1), .parameterError),
      (s.offline, .mediaError)]
    (fun s => s.complete t (marksBody (s.marked (decide (u8 b 0 = 1)) (u16 b 1))))

def execMarksRead (l : Link) (tag : Byte) (s : State) : Host.Outcome State Fault Refusal :=
  .next (s.serve l tag .marksRead State.marksRead)

/-- The numbers that MARKS CLEAR lists. -/
def listedNumbers (b : List Byte) : List Nat := (List.range (u8 b 0)).map (fun i => u16 b (1 + 2 * i))

/-- MARKS CLEAR, when every check has passed: a list with no user number appends no record (R141). -/
def State.clearMarks (s : State) (t : Ticket) (numbers : List Nat) : State :=
  let user := (numbers.filter (fun n => decide (128 ≤ n))).dedup
  if user = [] then
    { s with assets := { s.assets with directory := applyRecord 0 s.assets.directory (.marksClear numbers) } }.complete t []
  else s.awaitChange t (.marksClear user) numbers

/-- MARKS CLEAR (R141). -/
def State.marksClear (t : Ticket) (b : List Byte) (s : State) : State :=
  s.check t
    [(decide (b.length ≠ 1 + 2 * u8 b 0) || decide (u8 b 0 = 0) ||
        (listedNumbers b).any (fun n => decide (1023 < n)), .parameterError),
      (s.lockedOut t.link, .heldByOtherLink), (!s.storeReady, .mediaError), (s.recordAwaited, .busy),
      (s.formatting, .busy)]
    (fun s => s.clearMarks t (listedNumbers b))

def execMarksClear (l : Link) (tag : Byte) (s : State) : Host.Outcome State Fault Refusal :=
  .next (s.serve l tag .marksClear State.marksClear)

/-- STORE LOCK (R140). -/
def State.storeLock (t : Ticket) (b : List Byte) (s : State) : State :=
  let take := decide (u8 b 0 = 1)
  s.check t
    [(decide (b.length ≠ 1) || decide (1 < u8 b 0), .parameterError), (s.lockedOut t.link, .heldByOtherLink),
      (!s.storeReady, .mediaError), (!take && decide (s.assets.lock = none), .sequenceError), (s.formatting, .busy)]
    (fun s => { s with assets := { s.assets with lock := if take then some t.link else none } }.complete t [])

def execStoreLock (l : Link) (tag : Byte) (s : State) : Host.Outcome State Fault Refusal :=
  .next (s.serve l tag .storeLock State.storeLock)

/-- A link's DOWN gives up its lock (R140). -/
def State.lockDown (s : State) (l : Link) : State :=
  if s.assets.lock = some l then { s with assets := { s.assets with lock := none } } else s

end Sys2Proof.Machine
end

