-- ==== Sys2Proof/Machine/Detector.lean ====
section
/-! DEFINITION. The meanings of the Detector Unit's commands (chapter 6). -/

namespace Sys2Proof.Machine

/-! ### The brick (R102 to R104) -/

/-- A parameter field: FFFFH means the default, other values are clamped (R102). -/
def parameter (dflt lo hi n : Nat) : Nat := if n = 0xFFFF then dflt else clampNat lo hi n

/-- The settings that BRICK DETECT SET asks for (R95, R102). -/
def brickSettingsOf (b : List Byte) : BrickSettings :=
  { orientation := bit (u8 b 1) 0, tap := bit (u8 b 1) 1, freeFall := bit (u8 b 1) 2, motion := bit (u8 b 1) 3
    orientThreshold := parameter 800 100 16000 (u16 b 2), orientDwell := parameter 100 0 10000 (u16 b 4)
    tapThreshold := parameter 1500 100 16000 (u16 b 6), tapQuiet := parameter 30 5 1000 (u16 b 8)
    doubleWindow := parameter 300 0 2000 (u16 b 10), fallThreshold := parameter 300 50 2000 (u16 b 12)
    fallDwell := parameter 60 0 1000 (u16 b 14), motionThreshold := parameter 500 10 20000 (u16 b 16)
    stillTime := parameter 2000 0 60000 (u16 b 18) }

/-- BRICK DETECT SET, when every check has passed (R102). -/
def State.setBrick (s : State) (l : Link) (b : BrickSettings) : State :=
  let old := s.brickSet
  let s1 := { s with
    holderI := some l, brickSet := b, brickWork := .reset
    brick := { s.brick with
      moving := s.brick.moving && !(old.motion && !b.motion)
      falling := s.brick.falling && !(old.freeFall && !b.freeFall) } }
  if enableFlags old = enableFlags b then s1 else s1.recomputeI

/-- BRICK DETECT SET (R102). -/
def State.brickDetectSet (t : Ticket) (b : List Byte) (s : State) : State :=
  s.check t
    [(decide (b.length ≠ 20) || decide (16 ≤ u8 b 1), .parameterError), (decide (1 < u8 b 0), .deviceMismatch),
      (decide (s.holderI = some (otherLink t.link)), .heldByOtherLink)]
    (fun s =>
      let s1 := s.setBrick t.link (brickSettingsOf b)
      s1.complete t (e32 s1.sharedI.interval ++ e16 s1.sharedI.accelRange))

def execBrickDetectSet (l : Link) (tag : Byte) (s : State) : Host.Outcome State Fault Refusal :=
  .next (s.serve l tag .brickDetectSet State.brickDetectSet)

/-- SUBSCRIBE (R103). -/
def State.subscribe (t : Ticket) (b : List Byte) (s : State) : State :=
  s.check t [(decide (b.length ≠ 1) || decide (128 ≤ u8 b 0), .parameterError)]
    (fun s => { s with subs := s.subs.set t.link (b.getD 0 0) }.complete t [])

def execSubscribe (l : Link) (tag : Byte) (s : State) : Host.Outcome State Fault Refusal :=
  .next (s.serve l tag .subscribe State.subscribe)

/-- The BRICK STATE body (R104). -/
def State.brickStateBody (s : State) : List Byte :=
  let r := s.brick
  let tap := r.lastTap
  e8 (enableFlags s.brickSet) ++ e8 (faceCode r.orientation) ++ eBool r.moving ++ eBool r.falling ++
    e8 (tapKindCode tap.kind) ++
    (if tap.kind = .none then e8 255 ++ e8 255 ++ e32 0
     else e8 (axisCode tap.axis) ++ eBool tap.negative ++ eTime tap.time) ++
    ([0, 1, 2, 3, 4, 5, 6].map (fun k => e16 (r.counts.get 0 k))).flatten ++ e8 (holderCode s.holderI)

/-- BRICK STATE (R104). -/
def State.brickState (t : Ticket) (b : List Byte) (s : State) : State :=
  s.check t [(decide (b.length ≠ 0), .parameterError)] (fun s => s.complete t s.brickStateBody)

def execBrickState (l : Link) (tag : Byte) (s : State) : Host.Outcome State Fault Refusal :=
  .next (s.serve l tag .brickState State.brickState)

/-! ### Watches (R106, R108, R110) -/

/-- The action fields of WATCH SET (R106). -/
def watchAction (action target e : Nat) : WatchAction :=
  match action with
  | 0 => .none
  | 1 => .haltPort (portOf target) (endActionOf e)
  | _ => .haltPair target (endActionOf e)

/-- The action checks of WATCH SET: the target and end action in range for the action (R106). -/
def watchActionBad (action target e : Nat) : Bool :=
  match action with
  | 0 => false
  | 1 => decide (5 < target) || decide (2 < e)
  | 2 => decide (2 < target) || decide (2 < e)
  | _ => true

/-- The field checks of WATCH SET (R106). -/
def watchFields (b : List Byte) : Bool :=
  let l1 := s32 b 5
  let l2 := s32 b 9
  let h := s32 b 13
  decide (b.length ≠ 22) || decide (7 < u8 b 0) || decide (7 < u8 b 3) || decide (3 < u8 b 4) ||
    (decide (2 ≤ u8 b 4) && decide (l2 < l1)) || decide (h < 0) || decide (1000000000 < h) || decide (u8 b 17 = 0) ||
    decide (1 < u8 b 18) || watchActionBad (u8 b 19) (u8 b 20) (u8 b 21) ||
    (decide (u8 b 4 = 3) && decide (u8 b 18 = 1) && decide (l2 - l1 < 2 * h))

/-- The mode of a channel as a watch records it: none for motor ports and port I (R105). -/
def State.chanMode (s : State) : Chan → Option Nat
  | .internal => none
  | .port p => (s.port p).mode

/-- The entry that WATCH SET writes (R105, R106). -/
def State.watchEntry (s : State) (b : List Byte) : Watch :=
  let c := chanOf (u8 b 1)
  { chan := c, index := u8 b 3, condition := conditionOf (u8 b 4), level1 := s32 b 5, level2 := s32 b 9
    hysteresis := s32 b 13, dwell := u8 b 17, repeats := decide (u8 b 18 = 1)
    action := watchAction (u8 b 19) (u8 b 20) (u8 b 21), armMode := s.chanMode c, state := .armed, progress := 0
    reason := none, fires := 0, skips := 0 }

/-- WATCH SET (R106). -/
def State.watchSet (t : Ticket) (b : List Byte) (s : State) : State :=
  let c := chanOf (u8 b 1)
  s.check t
    ([(watchFields b, .parameterError), (decide (6 < u8 b 1), .portError)] ++ s.chanChecks (u8 b 1) (u8 b 2) ++
      [(decide (s.valueCount c ≤ u8 b 3), .parameterError)])
    (fun s => (s.setWatch t.link (u8 b 0) (some (s.watchEntry b))).complete t
      (eBool (decide ((s.view t.link c).interval ≠ 0))))

def execWatchSet (l : Link) (tag : Byte) (s : State) : Host.Outcome State Fault Refusal :=
  .next (s.serve l tag .watchSet State.watchSet)

/-- The slots that a mask names. -/
def namedSlots (mask : Nat) : List Nat := slots.filter (fun k => bit mask k)

/-- WATCH CLEAR (R110). -/
def State.watchClear (t : Ticket) (b : List Byte) (s : State) : State :=
  let named := namedSlots (u8 b 0)
  s.check t [(decide (b.length ≠ 1), .parameterError)]
    (fun s => (named.foldl (fun x k => x.setWatch t.link k none) s).complete t
      (e8 (named.filter (fun k => (s.watch t.link k).isSome)).length))

def execWatchClear (l : Link) (tag : Byte) (s : State) : Host.Outcome State Fault Refusal :=
  .next (s.serve l tag .watchClear State.watchClear)

/-- One slot record of WATCH STATE (R110). The dwell progress of an EMPTY slot is 0: DESIGN CHOICE,
notes/assumptions/64. -/
def slotRecord : Option Watch → List Byte
  | none => [0, 0, 0xFF, 0, 0, 0, 0, 0, 0, 0, 0]
  | some w =>
    e8 (watchStateCode w.state) ++ e8 (disarmCode w.reason) ++ e8 (chanCode w.chan) ++ e8 w.index ++
      e8 (conditionCode w.condition) ++ e8 w.progress ++ e8 w.dwell ++ e16 w.fires ++ e16 w.skips

/-- WATCH STATE (R110). -/
def State.watchState (t : Ticket) (b : List Byte) (s : State) : State :=
  s.check t [(decide (b.length ≠ 0), .parameterError)]
    (fun s => s.complete t ((slots.map (fun k => slotRecord (s.watch t.link k))).flatten))

def execWatchState (l : Link) (tag : Byte) (s : State) : Host.Outcome State Fault Refusal :=
  .next (s.serve l tag .watchState State.watchState)

/-- WATCH FIRED (R108). -/
def execWatchFired (l : Link) (slot : Nat) (s : State) : Host.Outcome State Fault Refusal :=
  .next (s.unlessHeld (fun s => s.fireWatch l slot))

end Sys2Proof.Machine
end

