-- ==== Sys2Proof/Machine/Media.lean ====
section
/-! DEFINITION. The meanings of the Media Controller's commands (chapter 10). -/

namespace Sys2Proof.Machine

/-! ### The write session (R155, R156, R158, R159) -/

/-- The asset that a session on a number writes: an ALIAS writes through to its target (R155). -/
def State.assetWritten (s : State) (n : Nat) : Nat :=
  match (s.entry n).content with
  | .aliasOf t => t
  | _ => n

/-- Whether a number is an ALIAS whose target is an ALIAS (R155). -/
def State.aliasChain (s : State) (n : Nat) : Bool :=
  match (s.entry n).content with
  | .aliasOf t => (s.entry t).content.isAlias
  | _ => false

/-- The field checks of WRITE OPEN (R155). -/
def writeOpenFields (b : List Byte) : Bool :=
  decide (b.length ≠ 8) || decide (1023 < u16 b 0) || decide (3 < u8 b 2) ||
    (decide (u8 b 2 = 1) && decide (u8 b 3 = 0)) || (decide (u8 b 2 ≠ 1) && decide (u8 b 3 ≠ 0)) || decide (4 < u8 b 3) ||
    decide (u32 b 4 = 0) || decide (8388608 < u32 b 4)

/-- Whether the directory change awaiting its record is on an asset (R155). -/
def State.changeNames (s : State) (n : Nat) : Bool :=
  match s.assets.change with
  | none => false
  | some c =>
    match c.record with
    | .delete a => decide (a = n)
    | .redirect a _ => decide (a = n)
    | .protect a _ => decide (a = n)
    | _ => decide (n ∈ c.numbers)

/-- The blocks a session of `n` blocks reserves: FREE-CLEAN first, then FREE-DIRTY, each in ascending erase count (R155). -/
def State.reservation (s : State) (n : Nat) : List Nat :=
  let clean := s.lowestBlocks n (s.freeIn .freeClean)
  clean ++ s.lowestBlocks (n - clean.length) (s.freeIn .freeDirty)

/-- Whether a background erase of a block is in progress (R155). -/
def State.erasing (s : State) (b : Nat) : Bool := decide (s.media.op.map (·.work) = some (.dirtyErase b))

/-- The session opens (R155). -/
def State.openSession (s : State) (l : Link) (asset : Nat) (k : AssetKind) (f : SoundFormat) (length : Nat)
    (bs : List Nat) : State :=
  let dirty := bs.filter (fun b => decide ((s.block b).state = .freeDirty))
  let s1 := (s.setBlockStates bs .session).tidyErases
  let s2 := s1.setSession
    { link := l, asset := asset, kind := k, format := f, declared := length, reserved := bs, unerased := dirty
      written := 0, buffer := [], closing := none, pages := [], repairs := [] }
  (dirty.filter (fun b => !s.erasing b)).foldl (fun t b => t.ask2 ⟨.erase, b, 0, .sessionErase b⟩) s2

/-- WRITE OPEN (R155). -/
def State.writeOpen (t : Ticket) (b : List Byte) (s : State) : State :=
  let n := u16 b 0
  let asset := s.assetWritten n
  let count := ceilDiv (u32 b 4) 131072
  let bs := s.reservation count
  s.check t
    [(writeOpenFields b, .parameterError), (s.lockedOut t.link, .heldByOtherLink), (!s.storeReady, .mediaError),
      (decide (n ≤ 127) || decide (asset ≤ 127) || decide (s.combined n ≠ .opened), .writeProtected),
      (s.aliasChain n, .noSuchAsset), (s.low || s.cutoff, .supplyLow),
      (s.media.session.isSome || s.changeNames asset, .busy), (decide (bs.length < count), .storeFull),
      (s.formatting, .busy)]
    (fun s =>
      (s.openSession t.link asset (assetKindOf (u8 b 2)) (formatOf (u8 b 3)) (u32 b 4) bs).complete t
        (e16 asset ++ e8 count))

def execWriteOpen (l : Link) (tag : Byte) (s : State) : Host.Outcome State Fault Refusal :=
  .next (s.serve l tag .writeOpen State.writeOpen)

/-- Whether there is no session of a link (R156, R158, R159). -/
def State.noSession (s : State) (l : Link) : Bool := decide (s.media.session.map (·.link) ≠ some l)

/-- Whether the session is CLOSING (R158). -/
def State.closing (s : State) : Bool := (s.media.session.bind (·.closing)).isSome

/-- The program of the session page that starts at a byte offset. -/
def pageProgram (start : Nat) (data : List Byte) (t : Option Ticket) : FlashOp :=
  ⟨.program, 0, pageIndex start % 64, .sessionPage (start / 131072) ⟨pageIndex start % 64, data, t⟩⟩

/-- An accepted chunk joins the page buffer; a full buffer is programmed, and its chunk is answered when the program and
its verify have ended (R156). -/
def State.takeChunk (s : State) (t : Ticket) (data : List Byte) : State :=
  match s.media.session with
  | none => s
  | some x =>
    let all := x.buffer ++ data
    let s1 := s.setSession { x with
      written := x.written + data.length, buffer := if all.length < 2048 then all else all.drop 2048 }
    if all.length < 2048 then s1.complete t []
    else s1.ask2 (pageProgram (x.written - x.buffer.length) (all.take 2048) (some t))

/-- WRITE CHUNK (R156). -/
def State.writeChunk (t : Ticket) (b : List Byte) (s : State) : State :=
  let x := s.media.session
  let written := (x.map (·.written)).getD 0
  s.check t
    [(decide (b.length < 5) || decide (516 < b.length), .parameterError), (!s.storeReady, .mediaError),
      (s.noSession t.link, .sequenceError), (s.closing, .busy),
      (decide (u32 b 0 ≠ written) || decide ((x.map (·.declared)).getD 0 < written + (b.length - 4)), .sequenceError)]
    (fun s => s.takeChunk t (b.drop 4))

def execWriteChunk (l : Link) (tag : Byte) (s : State) : Host.Outcome State Fault Refusal :=
  .next (s.serve l tag .writeChunk State.writeChunk)

/-- The session becomes CLOSING: the last page is padded with FFH (R158). -/
def State.beginClose (s : State) (t : Ticket) : State :=
  match s.media.session with
  | none => s
  | some x =>
    let s1 := s.setSession { x with closing := some ⟨t, false⟩, buffer := [] }
    let s2 := if x.buffer = [] then s1
      else s1.ask2 (pageProgram (x.written - x.buffer.length)
        (x.buffer ++ List.replicate (2048 - x.buffer.length) 0xFF#8) none)
    s2.pumpClose

/-- WRITE CLOSE (R158). -/
def State.writeClose (t : Ticket) (b : List Byte) (s : State) : State :=
  s.check t
    [(decide (b.length ≠ 0), .parameterError), (!s.storeReady, .mediaError), (s.noSession t.link, .sequenceError),
      (s.closing, .busy), (decide ((s.media.session.map (·.written)).getD 0 = 0), .sequenceError)]
    (fun s => s.beginClose t)

def execWriteClose (l : Link) (tag : Byte) (s : State) : Host.Outcome State Fault Refusal :=
  .next (s.serve l tag .writeClose State.writeClose)

/-- WRITE CANCEL (R159). -/
def State.writeCancel (t : Ticket) (b : List Byte) (s : State) : State :=
  s.check t
    [(decide (b.length ≠ 0), .parameterError), (s.noSession t.link, .sequenceError), (s.closing, .busy)]
    (fun s => (s.endSession .sequenceError).complete t [])

def execWriteCancel (l : Link) (tag : Byte) (s : State) : Host.Outcome State Fault Refusal :=
  .next (s.serve l tag .writeCancel State.writeCancel)

/-! ### STORE STATE and FORMAT USER (R162, R163) -/

/-- The block states in the order of STORE STATE (R162). -/
def countedStates : List BlockState :=
  [.freeClean, .freeDirty, .live, .retired, .session, .catalogue, .factory, .spare, .bad]

/-- The STORE STATE body; the fields are 0 while the store is OFFLINE (R162). -/
def State.storeStateBody (s : State) : List Byte :=
  if s.offline then e8 (storeCode .offline) ++ List.replicate 18 0 ++ e8 0 ++ e8 0 ++ e8 255 ++ e32 0 ++ e8 0
  else
    e8 ((s.media.store.map storeCode).getD 255) ++ (countedStates.map (fun x => e16 (s.countBlocks x))).flatten ++
      e8 s.assets.retired.length ++ e8 (holderCode (s.media.session.map (·.link))) ++ eOpt8 s.media.ring ++
      e32 s.media.sequence ++ e8 s.media.pagesUsed

/-- STORE STATE (R162). -/
def State.storeState (t : Ticket) (b : List Byte) (s : State) : State :=
  s.check t [(decide (b.length ≠ 0), .parameterError)] (fun s => s.complete t s.storeStateBody)

def execStoreState (l : Link) (tag : Byte) (s : State) : Host.Outcome State Fault Refusal :=
  .next (s.serve l tag .storeState State.storeState)

/-- FORMAT USER (R163). -/
def State.formatUser (t : Ticket) (b : List Byte) (s : State) : State :=
  s.check t
    [(decide (b.length ≠ 0), .parameterError), (decide (t.link = .tl), .linkNotPermitted),
      (decide (s.assets.lock = some .tl), .heldByOtherLink), (s.cutoff, .supplyLow), (s.recordAwaited, .busy),
      (s.formatting, .busy)]
    (fun s => s.beginFormat t)

def execFormatUser (l : Link) (tag : Byte) (s : State) : Host.Outcome State Fault Refusal :=
  .next (s.serve l tag .formatUser State.formatUser)

/-! ### The flash -/

/-- FLASH ARBITER CHOOSE (R152); no operation is started while the hub is held (R169). -/
def execFlashArbiterChoose (s : State) : Host.Outcome State Fault Refusal := .next (s.unlessHeld State.chooseOp)

/-- Whether background work runs: the hub is READY, the store is READY and the supply is not CUTOFF (R151, R154, R166). -/
def State.backgroundRuns (s : State) : Bool := s.hubReady && s.storeReady && !s.cutoff

/-- Whether a background erase is asked for or in progress. -/
def State.erasingDirty (s : State) : Bool := (s.media.op.toList ++ s.media.class4).any FlashOp.erasesDirty

/-- The next background erase (R151): FREE-DIRTY blocks one at a time, lowest erase count first. -/
def State.startErase (s : State) : State :=
  match s.lowestBlock (s.freeIn .freeDirty) with
  | none => s
  | some b => s.ask4 ⟨.erase, b, 0, .dirtyErase b⟩

/-- BACKGROUND ERASE START (R151). -/
def execBackgroundEraseStart (s : State) : Host.Outcome State Fault Refusal :=
  .next (s.unlessHeld (fun s => if s.backgroundRuns ∧ !s.erasingDirty then s.startErase else s))

/-- The refresh list as the next choice sees it: once every block has been tried, the postponed ones are tried again
(R154). -/
def triable (list : List RefreshItem) : List RefreshItem :=
  if list.all (·.postponed) then list.map (fun i => { i with postponed := false }) else list

/-- The next refresh (R154): the oldest listed block not postponed; a pinned one is postponed, and with no FREE-CLEAN
block the refresh waits. -/
def State.startRefresh (s : State) : State :=
  let list := triable s.media.refreshList
  match list.find? (fun i => !i.postponed) with
  | none => s
  | some i =>
    if s.blockPinned i.block then
      s.setWork { s.media with
        refreshList := list.map (fun x => if x.block = i.block then { x with postponed := true } else x) }
    else match s.lowestBlock (s.freeIn .freeClean) with
      | none => s
      | some d =>
        (s.setWork { s.media with refresh := some ⟨i.block, d, 0⟩, refreshList := list }).ask4
          ⟨.read, i.block, 0, .refreshRead 0⟩

/-- REFRESH START (R154). -/
def execRefreshStart (s : State) : Host.Outcome State Fault Refusal :=
  .next (s.unlessHeld (fun s => if s.backgroundRuns ∧ s.media.refresh = none then s.startRefresh else s))

/-- PAGE READ COMPLETE (R153). -/
def execPageReadComplete (r : PageRead) (s : State) : Host.Outcome State Fault Refusal :=
  .next (s.unlessHeld (fun s => s.pageRead false r))

/-- REFILL COMPLETE (R129, R130). -/
def execRefillComplete (r : PageRead) (s : State) : Host.Outcome State Fault Refusal :=
  .next (s.unlessHeld (fun s => s.pageRead true r))

/-- PROGRAM COMPLETE (R152, R157). -/
def execProgramComplete (ok : Bool) (s : State) : Host.Outcome State Fault Refusal :=
  .next (s.unlessHeld (fun s => s.programEnded ok))

/-- VERIFY COMPLETE (R152, R153). -/
def execVerifyComplete (sectors : List (Option Nat)) (s : State) : Host.Outcome State Fault Refusal :=
  .next (s.unlessHeld (fun s => s.verifyEnded sectors))

/-- ERASE COMPLETE (R151). -/
def execEraseComplete (ok : Bool) (s : State) : Host.Outcome State Fault Refusal :=
  .next (s.unlessHeld (fun s => s.eraseEnded ok))

end Sys2Proof.Machine
end

