-- ==== Sys2Proof/Machine/ReportOps.lean ====
section
/-! DEFINITION. The operations of a Report Scheduler (chapter 7): expiries, the assembly of a service, its end. -/

namespace Sys2Proof.Machine

/-- The stream numbers. -/
def streamNumbers : List Nat := [0, 1, 2, 3, 4, 5, 6, 7, 8, 9, 10, 11]

/-- The enabled streams on a rate queue, in ascending number (R117). -/
def State.enabledOn (s : State) (l : Link) (q : QueueId) : List Nat :=
  streamNumbers.filter (fun n => (s.stream l n).enabled && decide ((s.stream l n).queue = q))

/-- Replaces the record of a rate queue. -/
def Scheduler.setQueue (x : Scheduler) (q : QueueId) (r : RateQueue) : Scheduler := { x with queues := x.queues.set q r }

def State.setStream (s : State) (l : Link) (n : Nat) (x : Stream) : State :=
  s.setSched l { s.sched l with streams := (s.sched l).streams.set .undefined n x }

/-- The link comes UP: each timer starts at that moment (R111). -/
def Scheduler.start (x : Scheduler) (now : Word32) : Scheduler :=
  { x with queues :=
      ⟨{ x.queues.q0 with origin := some now }, { x.queues.q1 with origin := some now },
        { x.queues.q2 with origin := some now }, { x.queues.q3 with origin := some now }⟩ }

/-- The overrun count of a queue counts a merge (R113). -/
def LinkUnit.countOverrun (u : LinkUnit) (q : QueueId) : LinkUnit :=
  { u with counts := { u.counts with overruns := u.counts.overruns.set q (satAdd max32 (u.counts.overruns.get q) 1) } }

/-- What an expiry does to its queue (R112, R113). -/
def State.queueExpired (s : State) (l : Link) (q : QueueId) : State :=
  let r := (s.sched l).queues.get q
  if s.enabledOn l q = [] then s
  else if r.waiting then s.setLink l ((s.link l).countOverrun q)
  else s.setSched l ((s.sched l).setQueue q { r with waiting := true })

/-- A waiting request of a queue left with no enabled stream is withdrawn (R115). -/
def State.withdraw (s : State) (l : Link) (q : QueueId) : State :=
  if s.enabledOn l q = [] then s.setSched l ((s.sched l).setQueue q { (s.sched l).queues.get q with waiting := false })
  else s

/-- Whether a channel is ACTIVE; port I always is (R118). -/
def State.chanActive (s : State) : Chan → Bool
  | .internal => true
  | .port p => s.active p

/-- One member block, and what making it does to the view (R117, R118). -/
def State.member (s : State) (l : Link) (c : Chan) : State × List Byte :=
  if s.chanActive c then (s.delivered l c, s.delivery l c) else (s, memberBlock c none 0 [] 0 0 none [0])

/-- The member blocks of a stream, in member order (R117). -/
def State.members (s : State) (l : Link) : List Chan → State × List Byte
  | [] => (s, [])
  | c :: rest =>
    let x := s.member l c
    let y := x.1.members l rest
    (y.1, x.2 ++ y.2)

/-- The frames of a service, in stream-number order (R117). -/
def State.assemble (s : State) (l : Link) (q : QueueId) : List Nat → State × List ReportFrame
  | [] => (s, [])
  | n :: rest =>
    let ms := (s.stream l n).members
    let x := s.members l ms
    let y := x.1.assemble l q rest
    (y.1, ⟨n, e8 (queueCode q) ++ e8 ms.length ++ eTime s.now ++ x.2⟩ :: y.2)

/-- A report service begins (R117): its frames are fixed and the request no longer waits. -/
def State.beginService (s : State) (l : Link) (q : QueueId) : State :=
  let x := s.assemble l q (s.enabledOn l q)
  let d := x.1.sched l
  x.1.setSched l { d.setQueue q { d.queues.get q with waiting := false } with service := some ⟨q, x.2⟩ }

/-- The other queue of a queue's bank. -/
def otherQueue : QueueId → QueueId
  | .q0 => .q1
  | .q1 => .q0
  | .q2 => .q3
  | .q3 => .q2

/-- The alternation mark of a queue's bank moves to the other queue (R119): the queue other than the one served, so that
it stays where a queue was served alone while the mark named its neighbour. DESIGN CHOICE, notes/assumptions/75. -/
def Scheduler.moveMark (x : Scheduler) (q : QueueId) : Scheduler :=
  match q with
  | .q0 => { x with fastMark := .q1 }
  | .q1 => { x with fastMark := .q0 }
  | .q2 => { x with slowMark := .q3 }
  | .q3 => { x with slowMark := .q2 }

/-- The last byte of a REPORT frame has been sent (R119): the service goes on with its next frame, or ends. -/
def Scheduler.frameDone (x : Scheduler) : Scheduler :=
  match x.service with
  | none => x
  | some v =>
    match v.frames.tail with
    | [] => { x.moveMark v.queue with service := none }
    | rest => { x with service := some ⟨v.queue, rest⟩ }

/-- The queue of a bank whose request the arbiter takes: the one the mark names when both wait (R119). -/
def Scheduler.nextIn (x : Scheduler) (mark : QueueId) : Option QueueId :=
  if (x.queues.get mark).waiting then some mark
  else if (x.queues.get (otherQueue mark)).waiting then some (otherQueue mark)
  else none

/-- The queue whose request the arbiter takes: the FAST bank before the SLOW bank (R12, R120). -/
def Scheduler.next (x : Scheduler) : Option QueueId :=
  match x.nextIn x.fastMark with
  | some q => some q
  | none => x.nextIn x.slowMark

end Sys2Proof.Machine
end

