-- ==== Sys2Proof/Machine/LinkOps.lean ====
section
/-! DEFINITION. The operations of a Link Unit (chapter 1): admission, the transmit arbiter, the end of a frame, going UP
and DOWN, and the lines a link drives. -/

namespace Sys2Proof.Machine

/-! ### Counts (R15) -/

def LinkUnit.count (u : LinkUnit) (f : LinkCounts → LinkCounts) : LinkUnit := { u with counts := f u.counts }

def LinkCounts.addCheckError (c : LinkCounts) : LinkCounts := { c with checkErrors := satAdd max32 c.checkErrors 1 }
def LinkCounts.addOverlength (c : LinkCounts) : LinkCounts := { c with overlength := satAdd max32 c.overlength 1 }
def LinkCounts.addFragment (c : LinkCounts) : LinkCounts := { c with fragments := satAdd max32 c.fragments 1 }
def LinkCounts.addKindError (c : LinkCounts) : LinkCounts := { c with kindErrors := satAdd max32 c.kindErrors 1 }
def LinkCounts.addReceived (c : LinkCounts) : LinkCounts := { c with received := satAdd max32 c.received 1 }
def LinkCounts.addAccepted (c : LinkCounts) : LinkCounts := { c with accepted := satAdd max32 c.accepted 1 }
def LinkCounts.addRefused (c : LinkCounts) : LinkCounts := { c with refused := satAdd max32 c.refused 1 }
def LinkCounts.addRefusalDrop (c : LinkCounts) : LinkCounts := { c with refusalDrops := satAdd max32 c.refusalDrops 1 }
def LinkCounts.addReport (c : LinkCounts) : LinkCounts := { c with reportsSent := satAdd max32 c.reportsSent 1 }

/-! ### Admission (R7 to R9) -/

def Ready.isRefusal : Ready → Bool
  | .refusal .. => true
  | .response .. => false

/-- The number of refusals that wait or are in transmission (R9). -/
def LinkUnit.refusals (u : LinkUnit) : Nat := (u.ready.filter Ready.isRefusal).length

/-- A refusal joins the refusal queue, or is dropped and counted when 4 wait (R9). -/
def LinkUnit.refuse (u : LinkUnit) (tag : Byte) (j : Judgement) : LinkUnit :=
  if u.refusals < 4 then { u with ready := u.ready ++ [.refusal tag j] } else u.count LinkCounts.addRefusalDrop

/-- A request is admitted: its entry joins the table with its body (R7, R8). -/
def LinkUnit.enrol (u : LinkUnit) (tag : Byte) (code : ReqCode) (body : List Byte) (now : Word32) : LinkUnit :=
  { u with
    table := u.table ++ [{ tag := tag, code := code, serial := u.nextSerial, arrival := now, stage := .routed body }]
    nextSerial := u.nextSerial + 1 }

/-- The tests of R7 after the hub state. -/
def LinkUnit.admission (u : LinkUnit) (tag code : Byte) (body : List Byte) (now : Word32) : LinkUnit :=
  if u.table.any (fun e => decide (e.tag = tag)) then u.refuse tag .tagInUse
  else match reqOf code with
    | none => u.refuse tag .unknownRequest
    | some c => if 8 ≤ u.table.length then u.refuse tag .queueFull else u.enrol tag c body now

/-- A request is admitted or refused (R7). -/
def LinkUnit.request (u : LinkUnit) (hub : HubState) (tag code : Byte) (body : List Byte) (now : Word32) : LinkUnit :=
  let u1 := u.count LinkCounts.addReceived
  match hub with
  | .ready => u1.admission tag code body now
  | .starting => if code = 1 then u1.admission tag code body now else u1.refuse tag .notReady
  | .failed => if code = 1 then u1.admission tag code body now else u1.count LinkCounts.addRefusalDrop

/-- A whole frame has been taken (R4 to R6). -/
def LinkUnit.frame (u : LinkUnit) (hub : HubState) (kind tag code : Byte) (body : List Byte) (check : Word16)
    (now : Word32) : LinkUnit :=
  let u1 := { u with receiver := .hunting }
  if 520 < body.length then u1.count LinkCounts.addOverlength
  else if check ≠ crc16 (frameCore kind tag code body) then u1.count LinkCounts.addCheckError
  else if kind ≠ 1 then u1.count LinkCounts.addKindError
  else u1.request hub tag code body now

/-! ### The transmit arbiter (R12, R13) -/

/-- The frame of something ready in class 1. -/
def Ready.tx : Ready → Tx
  | .response serial tag code j body => ⟨.response serial code j, responseFrame tag j body⟩
  | .refusal tag j => ⟨.refusal, responseFrame tag j []⟩

/-- The next frame of a service in progress goes into transmission; a service that has no frame is over. -/
def State.sendReport (s : State) (l : Link) : State :=
  match (s.sched l).service with
  | none => s
  | some v =>
    match v.frames with
    | [] => s.setSched l { s.sched l with service := none }
    | f :: _ => s.setLink l { s.link l with tx := some ⟨.report v.queue, reportFrame f⟩ }

/-- The arbiter's choice among report services: the one in progress, else the next waiting request (R12, R119, R120). -/
def State.chooseReport (s : State) (l : Link) : State :=
  if (s.sched l).service.isSome then s.sendReport l
  else match (s.sched l).next with
    | some q => (s.beginService l q).sendReport l
    | none => s

/-- Whether a link's arbiter may start a frame (R12, R13). -/
def State.maySend (s : State) (l : Link) : Bool :=
  (s.link l).up && (s.link l).tx.isNone && !(decide (l = .tl) && s.pins.hold)

/-- The transmit arbiter chooses (R12): responses and refusals, notices, FAST services, SLOW services. A notice takes the
drop count with it (R11). -/
def State.chooseFrame (s : State) (l : Link) : State :=
  if s.maySend l then
    let u := s.link l
    match u.ready, u.notices with
    | r :: _, _ => s.setLink l { u with tx := some r.tx }
    | [], n :: rest => s.setLink l { u with tx := some ⟨.notice, noticeFrame u.drops n⟩, notices := rest, drops := 0 }
    | [], [] => s.chooseReport l
  else s

/-! ### The end of a frame (R8, R9, R15, R119) -/

/-- A response's last byte has been sent: its entry leaves the table (R8). -/
def LinkUnit.responseSent (u : LinkUnit) (serial : Nat) (j : Judgement) : LinkUnit :=
  { u with tx := none, ready := u.ready.tail, table := u.table.filter (fun e => decide (e.serial ≠ serial)) }.count
    (if j = Judgement.normalCompletion then LinkCounts.addAccepted else LinkCounts.addRefused)

/-- Whether a response that has been sent brings the pending reset (R170). -/
def State.resetDue (s : State) (l : Link) (code : ReqCode) (j : Judgement) : Bool :=
  s.hub.resetPending && decide (l = .pl) && decide (code = .hubReset) && decide (j = .normalCompletion)

/-- The last byte of the frame in transmission has been sent. -/
def State.frameSent (s : State) (l : Link) : State :=
  let u := s.link l
  match u.tx with
  | none => s
  | some x =>
    match x.source with
    | .response serial code j =>
      if s.resetDue l code j then s.restart else s.setLink l (u.responseSent serial j)
    | .refusal => s.setLink l ({ u with tx := none, ready := u.ready.tail }.count LinkCounts.addRefused)
    | .notice => s.setLink l { u with tx := none }
    | .report _ =>
      (s.setLink l ({ u with tx := none }.count LinkCounts.addReport)).setSched l (s.sched l).frameDone

/-! ### UP and DOWN (R3, R14) -/

/-- A Link Unit with its records at their reset values, its counts kept (R3, R14). -/
def LinkUnit.cleared (u : LinkUnit) (up : Bool) : LinkUnit :=
  { LinkUnit.reset with up := up, counts := u.counts, nextSerial := u.nextSerial }

/-- A link goes UP: its Link Unit at reset values, its rate queue timers started (R3, R111). -/
def State.goUp (s : State) (l : Link) : State :=
  (s.setLink l ((s.link l).cleared true)).setSched l ((s.sched l).start s.now)

/-- A link goes DOWN: its Link Unit and every block tear down that link's records (R14). -/
def State.goDown (s : State) (l : Link) : State :=
  let s1 := s.setLink l ((s.link l).cleared false)
  let s2 := (s1.releaseAll l).viewsDown l
  let s3 := { s2 with watches := s2.watches.set l .empty, subs := s2.subs.set l 0, scheds := s2.scheds.set l .reset }
  let s4 := s3.endSounds (fun x => decide (x.link = l)) .stopped
  let s5 := { s4 with sound := { s4.sound with volumes := s4.sound.volumes.set l 80 } }
  (s5.lockDown l).mediaDown l

/-! ### Bytes received (R4) -/

/-- The receiver takes a whole byte at hub time `now`: in HUNTING C3H begins a frame and any other byte is discarded
uncounted; inside a frame every byte, C3H too, is the last one received, from which the gap of a fragment runs (R4). -/
def Receiver.take (r : Receiver) (now : Word32) (byte : Byte) : Receiver :=
  match r with
  | .hunting => if byte = 0xC3#8 then .inFrame now else .hunting
  | .inFrame _ => .inFrame now

/-- A link's receiver takes a byte; that of a DOWN link takes none (R3, R4). -/
def State.byteReceived (s : State) (l : Link) (byte : Byte) : State :=
  if (s.link l).up then s.setLink l { s.link l with receiver := (s.link l).receiver.take s.now byte } else s

/-! ### The Program Link's pins (R1)

No row of the table is a byte on the Program Link: FRAME RECEIVED and FRAME SENT stand for whole frames. What R1 says of
the bytes between them is said here: notes/assumptions/37. -/

/-- The byte that MISO carries at the next clocking: the next byte of the frame in transmission, else the fill byte 00H;
a link that is DOWN has no frame in transmission (R1, R14). -/
def State.miso (s : State) : Byte := ((s.link .pl).tx.map (fun x => x.bytes.headD 0)).getD 0

/-- What happens on the pins of the Program Link: SELECT changes between bytes, a byte is shifted whole, or SELECT is
released before the byte being shifted is whole. -/
inductive PlEvent where
  | select (asserted : Bool)
  | clocked (mosi : Byte)
  | cutOff
  deriving DecidableEq, Repr

/-- The byte on MISO has been sent whole: the transmitter goes on to the next, and the last byte of a frame is FRAME SENT
(R1, R8). -/
def State.byteSent (s : State) : State :=
  match (s.link .pl).tx with
  | none => s
  | some x =>
    if x.bytes.length ≤ 1 then s.frameSent .pl
    else s.setLink .pl { s.link .pl with tx := some { x with bytes := x.bytes.tail } }

/-- What a pin event does: the state it leaves, the whole byte MISO carried, and the whole byte the PL receiver took. A
byte cut off by SELECT is discarded by the receiver, and the transmitter keeps it to send it again; bytes move only while
SELECT is asserted, and a DOWN link takes none (R1, R3, R4). -/
def State.plEvent (s : State) : PlEvent → State × Option Byte × Option Byte
  | .select asserted => (s.setPins { s.pins with select := asserted }, none, none)
  | .cutOff => (s.setPins { s.pins with select := false }, none, none)
  | .clocked mosi =>
    if s.pins.select then
      ((s.byteReceived .pl mosi).byteSent, some s.miso, if (s.link .pl).up then some mosi else none)
    else (s, none, none)

/-! ### Lines the hub drives (R1) -/

/-- Whether a link has a frame waiting to go out (R1). -/
def State.frameWaiting (s : State) (l : Link) : Bool :=
  let u := s.link l
  u.tx.isSome || decide (u.ready ≠ []) || decide (u.notices ≠ []) || (s.sched l).service.isSome || (s.sched l).next.isSome

/-- The ATTENTION output (R1, R169). -/
def State.attention (s : State) : Bool := !s.hub.held && (s.link .pl).up && s.frameWaiting .pl

end Sys2Proof.Machine
end

