-- ==== Sys2Proof/Machine/Links.lean ====
section
/-! DEFINITION. The meanings of the Link Units' commands (chapter 1). -/

namespace Sys2Proof.Machine

/-- LINK UP: the enable line is seen high (R3). -/
def execLinkUp (l : Link) (s : State) : Host.Outcome State Fault Refusal :=
  let s1 := s.setPins { s.pins with enable := s.pins.enable.set l true }
  .next (s1.unlessHeld (fun x => if (x.link l).up then x else x.goUp l))

/-- LINK DOWN: the enable line falls (R14); a pending HUB RESET takes effect when PL goes DOWN (R170). -/
def execLinkDown (l : Link) (s : State) : Host.Outcome State Fault Refusal :=
  let s1 := s.setPins { s.pins with enable := s.pins.enable.set l false }
  .next (s1.unlessHeld (fun x =>
    if (x.link l).up then (if x.hub.resetPending ∧ l = .pl then x.restart else x.goDown l) else x))

/-- HOLD RISES (R13). -/
def execHoldRises (s : State) : Host.Outcome State Fault Refusal := .next (s.setPins { s.pins with hold := true })

/-- HOLD FALLS (R13). -/
def execHoldFalls (s : State) : Host.Outcome State Fault Refusal := .next (s.setPins { s.pins with hold := false })

/-- SYNC BYTE RECEIVED, and every other byte that comes before a frame ends (R4): notes/assumptions/66. -/
def execSyncByteReceived (x : ReceivedByte) (s : State) : Host.Outcome State Fault Refusal :=
  .next (s.byteReceived x.link x.byte)

/-- OVERLENGTH: the LENGTH bytes taken lie outside 3 to 523 (R4). -/
def execOverlength (l : Link) (length : Word16) (s : State) : Host.Outcome State Fault Refusal :=
  .next (if (s.link l).up ∧ (length.toNat < 3 ∨ 523 < length.toNat) then
    s.setLink l ({ s.link l with receiver := .hunting }.count LinkCounts.addOverlength) else s)

/-- FRAME RECEIVED: the second CHECK byte of a frame is taken (R4 to R9). -/
def execFrameReceived (l : Link) (kind tag code : Byte) (body : List Byte) (check : Word16) (s : State) :
    Host.Outcome State Fault Refusal :=
  .next (if (s.link l).up then s.setLink l ((s.link l).frame s.hub.state kind tag code body check s.now) else s)

/-- A fragment ends: it is counted and the receiver hunts again (R4). -/
def LinkUnit.fragment (u : LinkUnit) : LinkUnit := { u with receiver := .hunting }.count LinkCounts.addFragment

/-- FRAGMENT TIMEOUT: a gap of more than 20 ms inside a frame (R4). -/
def execFragmentTimeout (l : Link) (s : State) : Host.Outcome State Fault Refusal :=
  .next (match (s.link l).receiver with
    | .hunting => s
    | .inFrame last => (s.expire last 21).setLink l ((s.expire last 21).link l).fragment)

/-- BAD STOP BIT: a TL byte with an invalid stop bit ends a frame as a fragment (R2, R4). -/
def execBadStopBit (s : State) : Host.Outcome State Fault Refusal :=
  .next (match (s.link .tl).receiver with
    | .hunting => s
    | .inFrame _ => s.setLink .tl (s.link .tl).fragment)

/-- TRANSMIT ARBITER CHOOSE (R12). -/
def execTransmitArbiterChoose (l : Link) (s : State) : Host.Outcome State Fault Refusal := .next (s.chooseFrame l)

/-- FRAME SENT: the last byte of the frame in transmission has been sent (R8, R9, R15). -/
def execFrameSent (l : Link) (s : State) : Host.Outcome State Fault Refusal := .next (s.frameSent l)

/-! ### LINK COUNTS (R15) -/

/-- The link that a LINK COUNTS field names: 0 PL, 1 TL. -/
def countsLink (n : Nat) : Link := if n = 0 then .pl else .tl

/-- The count fields of LINK COUNTS, in the order of the count table. -/
def countBytes (c : LinkCounts) : List Byte :=
  e32 c.checkErrors ++ e32 c.overlength ++ e32 c.fragments ++ e32 c.kindErrors ++ e32 c.received ++ e32 c.accepted ++
    e32 c.refused ++ e32 c.refusalDrops ++ e32 c.noticesDropped ++ e32 c.reportsSent ++ e32 c.overruns.q0 ++
    e32 c.overruns.q1 ++ e32 c.overruns.q2 ++ e32 c.overruns.q3

/-- The present state of a link, after the counts (R15). -/
def LinkUnit.presentBytes (u : LinkUnit) (now : Word32) : List Byte :=
  e8 u.table.length ++
    (match u.table with
      | [] => e8 0 ++ e32 0
      | e :: _ => e8 (reqByte e.code) ++ e32 (elapsed now e.arrival)) ++
    e8 u.refusals ++ e8 u.notices.length ++ e8 u.drops

/-- LINK COUNTS (R15). -/
def State.linkCounts (t : Ticket) (b : List Byte) (s : State) : State :=
  let l := countsLink (u8 b 0)
  let clear := decide (u8 b 1 = 1)
  s.check t
    [(decide (b.length ≠ 2) || decide (1 < u8 b 0) || decide (1 < u8 b 1), .parameterError),
      (clear && decide (l ≠ t.link), .linkNotPermitted)]
    (fun s =>
      let body := countBytes (s.link l).counts ++ (s.link l).presentBytes s.now
      (if clear then s.setLink l { s.link l with counts := .zero } else s).complete t body)

def execLinkCounts (l : Link) (tag : Byte) (s : State) : Host.Outcome State Fault Refusal :=
  .next (s.serve l tag .linkCounts State.linkCounts)

end Sys2Proof.Machine
end

