-- ==== Sys2Proof/Machine/Motion.lean ====
section
/-! DEFINITION. The meanings of the Motion Unit's commands (chapters 3 and 4). -/

namespace Sys2Proof.Machine

/-! ### MOVE (R44, R45) -/

/-- The ramp field of MOVE and PAIR MOVE in ms (R44): FFFFH means 300, larger values are clamped. -/
def rampOf (n : Nat) : Nat := if n = 0xFFFF then 300 else min n 10000

/-- A speed field: clamped to ±100 % (R44, R57). -/
def speedOf (n : Int) : Int := clamp (-100) 100 n

/-- The amount of a MOVE as accepted: a DUTY amount is clamped, on a LAMP to 0 or above (R44). -/
def amountOf (k : MoveKind) (lamp : Bool) (n : Int) : Int :=
  match k with
  | .duty => clamp (if lamp then 0 else -10000) 10000 n
  | _ => n

/-- Whether a TIME amount lies outside 1 to 3,600,000 ms (R44, R57). -/
def timeOutside (n : Int) : Bool := decide (n < 1) || decide (3600000 < n)

/-- Whether a port's device has no encoder (R44, R52). -/
def State.plain (s : State) (p : Port) : Bool :=
  decide (s.classOf p = some .plainMotor) || decide (s.classOf p = some .lamp)

/-- The field checks of MOVE (R44). -/
def moveFields (b : List Byte) : Bool :=
  let k := moveKindOf (u8 b 2)
  decide (b.length ≠ 13) || decide (4 < u8 b 2) || decide (2 < u8 b 10) || (decide (k ≠ .duty) && decide (1 < u8 b 11)) ||
    decide (1 < u8 b 12) || (decide (k = .time) && timeOutside (s32 b 4)) ||
    (decide (speedOf (s8 b 3) = 0) && decide (k ≠ .speed) && decide (k ≠ .duty))

/-- The resource checks of R45 against the queue of port `p`: CUTOFF, then behind an unending kind, then a full queue. -/
def State.queueChecks (s : State) (p : Port) (append : Bool) : List (Bool × Judgement) :=
  let m := s.motor p
  let joins := append && decide (m.state = .running)
  let unending := match m.lastInLine with
    | some c => decide (c.kind = .speed) || decide (c.kind = .duty)
    | none => false
  [(s.cutoff, .supplyLow), (joins && unending, .sequenceError), (joins && decide (4 ≤ m.waiting.length), .queueFull)]

/-- The checks of MOVE in their order (R44, R45). -/
def State.moveChecks (s : State) (l : Link) (b : List Byte) : List (Bool × Judgement) :=
  let p := portOf (u8 b 0)
  let k := moveKindOf (u8 b 2)
  [(moveFields b, .parameterError)] ++ s.portChecks (u8 b 0) (u8 b 1) ++
    [(decide (s.classOf p = some .sensor), .deviceMismatch),
      (s.plain p && decide (k ≠ .duty), .deviceMismatch),
      (s.plain p && decide (u8 b 10 = 2), .deviceMismatch),
      ((s.motor p).pair.isSome, .portPaired),
      (decide (k = .position) &&
        decide (2000000000 < (((s.motorPart p).map (fun m => distanceOf m (s32 b 4))).getD 0).natAbs), .parameterError),
      (s.heldByOther l p, .heldByOtherLink)] ++
    s.queueChecks p (decide (u8 b 12 = 1))

/-- The command record of an accepted MOVE (R43, R44). -/
def State.moveCommand (s : State) (l : Link) (b : List Byte) : Command :=
  let p := portOf (u8 b 0)
  let k := moveKindOf (u8 b 2)
  { link := l, number := nextNumber (s.motor p).counter, kind := k, speed := speedOf (s8 b 3), speedB := 0
    amount := amountOf k (decide (s.classOf p = some .lamp)) (s32 b 4), ramp := rampOf (u16 b 8)
    endAction := endActionOf (u8 b 10), stall := stallOf (u8 b 11), pair := none }

/-- MOVE (R44, R45). -/
def State.move (t : Ticket) (b : List Byte) (s : State) : State :=
  let p := portOf (u8 b 0)
  let c := s.moveCommand t.link b
  s.check t (s.moveChecks t.link b)
    (fun s => (((s.claim t.link p).takeNumber p).placeCommand p c (decide (u8 b 12 = 1))).complete t (e16 c.number))

def execMove (l : Link) (tag : Byte) (s : State) : Host.Outcome State Fault Refusal :=
  .next (s.serve l tag .move State.move)

/-! ### HALT, SET ZERO, SET GAINS, MOTOR STATE (R52 to R55) -/

/-- HALT (R52). -/
def State.halt (t : Ticket) (b : List Byte) (s : State) : State :=
  let p := portOf (u8 b 0)
  let holds := decide (u8 b 2 = 2)
  s.check t
    ([(decide (b.length ≠ 3) || decide (2 < u8 b 2), .parameterError)] ++ s.portChecks (u8 b 0) (u8 b 1) ++
      [(decide (s.classOf p = some .sensor), .deviceMismatch), (s.plain p && holds, .deviceMismatch),
        (s.heldByOther t.link p, .heldByOtherLink), (s.cutoff && holds, .supplyLow)])
    (fun s => ((s.claim t.link p).haltMotor p (endActionOf (u8 b 2))).complete t (e8 (s.haltCount p)))

def execHalt (l : Link) (tag : Byte) (s : State) : Host.Outcome State Fault Refusal :=
  .next (s.serve l tag .halt State.halt)

/-- The channel with its position set to 0 (R53). -/
def Motor.zero (m : Motor) : Motor :=
  let x := m.position
  let h := m.history
  let m1 := { m with
    position := 0, saturated := false, history := ⟨h.h0 - x, h.h1 - x, h.h2 - x, h.h3 - x, h.h4 - x⟩ }
  match m.holdTarget with
  | some t => { m1 with holdTarget := some (t - x), profile := { m.profile with pRef := m.profile.pRef - x * 1000 } }
  | none => m1

/-- SET ZERO (R53). -/
def State.setZero (t : Ticket) (b : List Byte) (s : State) : State :=
  let p := portOf (u8 b 0)
  s.check t
    ([(decide (b.length ≠ 2), .parameterError)] ++ s.portChecks (u8 b 0) (u8 b 1) ++
      [(decide (s.classOf p ≠ some .motor), .deviceMismatch), (s.heldByOther t.link p, .heldByOtherLink),
        (decide ((s.motor p).state = .running), .busy)])
    (fun s => ((s.claim t.link p).setMotor p (s.motor p).zero).complete t [])

def execSetZero (l : Link) (tag : Byte) (s : State) : Host.Outcome State Fault Refusal :=
  .next (s.serve l tag .setZero State.setZero)

/-- The gains SET GAINS asks for (R54). -/
def State.gainsOf (s : State) (p : Port) (b : List Byte) : Option Gains :=
  if u8 b 6 = 2 then (s.motorPart p).map (fun m => sizeGains m.size) else some ⟨u16 b 2, u16 b 4, decide (u8 b 6 = 1)⟩

/-- SET GAINS (R54): Kp and Ki are range-checked with every feedforward field, and ignored only once the request is
accepted with feedforward 2. -/
def State.setGains (t : Ticket) (b : List Byte) (s : State) : State :=
  let p := portOf (u8 b 0)
  s.check t
    ([(decide (b.length ≠ 7) || decide (1000 < u16 b 2) || decide (500 < u16 b 4) || decide (2 < u8 b 6),
        .parameterError)] ++
      s.portChecks (u8 b 0) (u8 b 1) ++
      [(decide (s.classOf p ≠ some .motor), .deviceMismatch), (s.heldByOther t.link p, .heldByOtherLink)])
    (fun s => ((s.claim t.link p).setMotor p { s.motor p with gains := s.gainsOf p b }).complete t [])

def execSetGains (l : Link) (tag : Byte) (s : State) : Host.Outcome State Fault Refusal :=
  .next (s.serve l tag .setGains State.setGains)

/-- The MOTOR STATE body (R55). -/
def State.motorStateBody (s : State) (p : Port) : List Byte :=
  let m := s.motor p
  let c := (s.motor (s.queuePort p)).active
  e8 (portCode p) ++ e8 (chanStateCode m.state) ++ e8 (phaseCode m.profile.phase) ++ eBool m.saturated ++
    es32 m.position ++ es32 (s.degrees p) ++ es32 (s.degSpeed p) ++ es16 m.duty ++ e16 ((c.map (·.number)).getD 0) ++
    eOpt8 (c.map (fun x => moveKindCode x.kind)) ++ eOpt8 m.pair ++ e16 ((m.gains.map (·.kp)).getD 0) ++
    e16 ((m.gains.map (·.ki)).getD 0) ++ eBool ((m.gains.map (·.feedforward)).getD false) ++ e16 m.counter ++
    e8 m.waiting.length ++ (m.waiting.map (fun x => e16 x.number)).flatten

/-- MOTOR STATE (R55). -/
def State.motorState (t : Ticket) (b : List Byte) (s : State) : State :=
  let p := portOf (u8 b 0)
  s.check t
    ([(decide (b.length ≠ 2), .parameterError)] ++ s.portChecks (u8 b 0) (u8 b 1) ++
      [(decide (s.classOf p = some .sensor), .deviceMismatch)])
    (fun s => s.complete t (s.motorStateBody p))

def execMotorState (l : Link) (tag : Byte) (s : State) : Host.Outcome State Fault Refusal :=
  .next (s.serve l tag .motorState State.motorState)

/-! ### Pairs (R56 to R58) -/

/-- The lowest free pair entry (R56). -/
def State.freePairNumber (s : State) : Option Nat := [0, 1, 2].find? (fun k => (s.pair k).isNone)

/-- The binding of two ports (R56). -/
def State.bind (s : State) (l : Link) (p q : Port) (lag k : Nat) : State :=
  let s1 := (s.claim l p).claim l q
  let s2 := s1.setMotor p { s1.motor p with pair := some k }
  (s2.setMotor q { s2.motor q with pair := some k }).setPair k (some ⟨p, q, lag, l⟩)

/-- The checks of PAIR BIND in their order (R56). -/
def State.bindChecks (s : State) (l : Link) (b : List Byte) : List (Bool × Judgement) :=
  let p := portOf (u8 b 0)
  let q := portOf (u8 b 2)
  let mismatch := fun (x : Port) (g : Nat) => decide (g ≠ 0) && decide (g ≠ (s.port x).generation)
  [(decide (b.length ≠ 6) || decide (u8 b 0 = u8 b 2), .parameterError),
    (decide (5 < u8 b 0) || decide (5 < u8 b 2) || !s.active p || !s.active q, .portError),
    (mismatch p (u8 b 1) || mismatch q (u8 b 3), .deviceMismatch),
    (decide (s.classOf p ≠ some .motor) || decide (s.classOf q ≠ some .motor) ||
      decide ((s.port p).device.map (·.typeNumber) ≠ (s.port q).device.map (·.typeNumber)), .deviceMismatch),
    ((s.motor p).pair.isSome || (s.motor q).pair.isSome, .portPaired),
    (s.heldByOther l p || s.heldByOther l q, .heldByOtherLink),
    (decide ((s.motor p).state = .running) || decide ((s.motor q).state = .running), .busy),
    (s.freePairNumber.isNone, .queueFull)]

/-- PAIR BIND (R56). -/
def State.pairBind (t : Ticket) (b : List Byte) (s : State) : State :=
  let p := portOf (u8 b 0)
  let lag := if u16 b 4 = 0 then s.cpr p / 12 else u16 b 4
  let k := s.freePairNumber.getD 0
  s.check t (s.bindChecks t.link b) (fun s => (s.bind t.link p (portOf (u8 b 2)) lag k).complete t (e8 k))

def execPairBind (l : Link) (tag : Byte) (s : State) : Host.Outcome State Fault Refusal :=
  .next (s.serve l tag .pairBind State.pairBind)

/-- Whether the pair runs a command (R56). -/
def State.pairRunning (s : State) (q : Pair) : Bool := (s.motor q.first).active.isSome

/-- PAIR UNBIND (R58). -/
def State.pairUnbind (t : Ticket) (b : List Byte) (s : State) : State :=
  match s.pair (u8 b 0) with
  | none => s.refuse t .parameterError
  | some q =>
    s.check t
      [(decide (b.length ≠ 1) || decide (2 < u8 b 0), .parameterError), (decide (q.holder ≠ t.link), .heldByOtherLink),
        (s.pairRunning q, .busy)]
      (fun s => (s.freePair (u8 b 0)).complete t [])

def execPairUnbind (l : Link) (tag : Byte) (s : State) : Host.Outcome State Fault Refusal :=
  .next (s.serve l tag .pairUnbind State.pairUnbind)

/-- The field checks of PAIR MOVE (R57). -/
def pairMoveFields (b : List Byte) : Bool :=
  let k := u8 b 1
  decide (b.length ≠ 13) || decide (2 < u8 b 0) || (decide (k ≠ 0) && decide (k ≠ 1) && decide (k ≠ 3)) ||
    decide (2 < u8 b 10) || decide (1 < u8 b 11) || decide (1 < u8 b 12) || (decide (k = 3) && timeOutside (s32 b 4)) ||
    (decide (k ≠ 0) && decide (speedOf (s8 b 2) = 0) && decide (speedOf (s8 b 3) = 0))

/-- The command record of an accepted PAIR MOVE (R43, R57). -/
def State.pairCommand (s : State) (l : Link) (q : Pair) (b : List Byte) : Command :=
  { link := l, number := nextNumber (s.motor q.first).counter, kind := moveKindOf (u8 b 1), speed := speedOf (s8 b 2)
    speedB := speedOf (s8 b 3), amount := s32 b 4, ramp := rampOf (u16 b 8), endAction := endActionOf (u8 b 10)
    stall := stallOf (u8 b 11), pair := some (u8 b 0) }

/-- PAIR MOVE (R57). -/
def State.pairMove (t : Ticket) (b : List Byte) (s : State) : State :=
  match s.pair (u8 b 0) with
  | none => s.refuse t .parameterError
  | some q =>
    let c := s.pairCommand t.link q b
    let append := decide (u8 b 12 = 1)
    s.check t
      ([(pairMoveFields b, .parameterError), (decide (q.holder ≠ t.link), .heldByOtherLink)] ++
        s.queueChecks q.first append)
      (fun s => ((s.takeNumber q.first).placeCommand q.first c append).complete t (e16 c.number))

def execPairMove (l : Link) (tag : Byte) (s : State) : Host.Outcome State Fault Refusal :=
  .next (s.serve l tag .pairMove State.pairMove)

/-! ### The control period and what ends within it -/

/-- One group of channels through the six stages (R65). In a pair that runs a command the first port's sample is handed
over, with what its watches do, before the second port's is formed: R65 sets no order. DESIGN CHOICE,
notes/assumptions/43. -/
def State.periodGroup (s : State) (ps : List Port) : State :=
  ps.foldl (fun t p => t.motorSample p) (s.periodStages ps)

/-- A control period expiry (R65). -/
def State.controlPeriod (s : State) : State :=
  (s.periodGroups.filter (fun ps => ps.all s.driven)).foldl State.periodGroup s

def execControlPeriod (s : State) : Host.Outcome State Fault Refusal := .next (s.unlessHeld State.controlPeriod)

/-- TIME RUN END (R70). -/
def execTimeRunEnd (p : Port) (s : State) : Host.Outcome State Fault Refusal :=
  .next (s.unlessHeld (fun s => s.timeRunEnd p))

/-- SETTLE DONE (R71). -/
def execSettleDone (p : Port) (s : State) : Host.Outcome State Fault Refusal :=
  .next (s.unlessHeld (fun s => s.settleDone p))

/-- SETTLE TIMEOUT (R71). -/
def execSettleTimeout (p : Port) (s : State) : Host.Outcome State Fault Refusal :=
  .next (s.unlessHeld (fun s => s.settleTimeout p))

/-- STALL RECOGNISED (R51, R75). -/
def execStallRecognised (p : Port) (s : State) : Host.Outcome State Fault Refusal :=
  .next (s.unlessHeld (fun s => s.recogniseStall p))

/-- What an edge adds to the count (R63). -/
def edgeCount : EncoderStep → Int
  | .up => 1
  | .down => -1
  | .skip => 0

/-- ENCODER EDGE (R63): counted on an ACTIVE MOTOR port. -/
def execEncoderEdge (p : Port) (x : EncoderStep) (s : State) : Host.Outcome State Fault Refusal :=
  .next (s.unlessHeld (fun s =>
    if s.active p ∧ s.classOf p = some .motor then
      s.setMotor p { s.motor p with edges := (s.motor p).edges + edgeCount x }
    else s))

end Sys2Proof.Machine
end

