-- ==== Sys2Proof/Machine/Port.lean ====
section
/-! DEFINITION. The meanings of the Port Service's commands (chapter 2). -/

namespace Sys2Proof.Machine

/-! ### Requests -/

/-- PORT INFO (R39). -/
def State.portInfo (t : Ticket) (b : List Byte) (s : State) : State :=
  s.check t [(decide (b.length ≠ 1), .parameterError), (decide (6 < u8 b 0), .portError)]
    (fun s => s.complete t (if u8 b 0 = 6 then s.internalInfoBody else s.portInfoBody (portOf (u8 b 0))))

def execPortInfo (l : Link) (tag : Byte) (s : State) : Host.Outcome State Fault Refusal :=
  .next (s.serve l tag .portInfo State.portInfo)

/-- CLAIM PORT (R34). -/
def State.claimPort (t : Ticket) (b : List Byte) (s : State) : State :=
  let c := chanOf (u8 b 0)
  s.check t
    ([(decide (b.length ≠ 2), .parameterError), (decide (6 < u8 b 0), .portError)] ++ s.chanChecks (u8 b 0) (u8 b 1) ++
      [(decide (s.holder c = some (otherLink t.link)), .heldByOtherLink)])
    (fun s => (s.setHolder c (some t.link)).complete t [])

def execClaimPort (l : Link) (tag : Byte) (s : State) : Host.Outcome State Fault Refusal :=
  .next (s.serve l tag .claimPort State.claimPort)

/-- RELEASE PORT (R36). -/
def State.releasePort (t : Ticket) (b : List Byte) (s : State) : State :=
  let c := chanOf (u8 b 0)
  s.check t
    ([(decide (b.length ≠ 2), .parameterError), (decide (6 < u8 b 0), .portError)] ++ s.chanChecks (u8 b 0) (u8 b 1) ++
      [(decide (s.holder c = some (otherLink t.link)), .heldByOtherLink), (decide (s.holder c = none), .sequenceError)])
    (fun s => (s.releaseChan c).complete t [])

def execReleasePort (l : Link) (tag : Byte) (s : State) : Host.Outcome State Fault Refusal :=
  .next (s.serve l tag .releasePort State.releasePort)

/-- SELECT MODE, when every check has passed (R37). -/
def State.beginMode (s : State) (t : Ticket) (p : Port) (mode : Nat) : State :=
  let s1 := s.claim t.link p
  s1.setPort p { s1.port p with
    pendingMode := some ⟨mode, t⟩, sent := [.selectMode mode], waitFrom := s1.now, secondWait := false }

/-- SELECT MODE (R37). -/
def State.selectMode (t : Ticket) (b : List Byte) (s : State) : State :=
  let p := portOf (u8 b 0)
  s.check t
    ([(decide (b.length ≠ 3) || decide (7 < u8 b 2), .parameterError)] ++ s.portChecks (u8 b 0) (u8 b 1) ++
      [(decide (s.classOf p ≠ some .sensor), .deviceMismatch),
        (decide ((((s.port p).device.map (·.modes.length)).getD 0) ≤ u8 b 2), .parameterError),
        (s.heldByOther t.link p, .heldByOtherLink), ((s.port p).pendingMode.isSome, .busy)])
    (fun s => s.beginMode t p (u8 b 2))

def execSelectMode (l : Link) (tag : Byte) (s : State) : Host.Outcome State Fault Refusal :=
  .next (s.serve l tag .selectMode State.selectMode)

/-- PORT RESET, when every check has passed (R32). -/
def State.resetPort (s : State) (p : Port) : State :=
  if s.pins.detect.get p = .openCircuit then s.emptyPort p else s.settlePort p (s.pins.detect.get p)

/-- PORT RESET (R32). -/
def State.portReset (t : Ticket) (b : List Byte) (s : State) : State :=
  let p := portOf (u8 b 0)
  let r := s.port p
  s.check t
    [(decide (b.length ≠ 2), .parameterError), (decide (5 < u8 b 0), .portError),
      (decide (r.state = .empty) || decide (r.state = .rejected), .portError),
      (decide (u8 b 1 ≠ 0) && decide (u8 b 1 ≠ r.generation), .deviceMismatch),
      (s.heldByOther t.link p, .heldByOtherLink)]
    (fun s => (s.resetPort p).complete t [])

def execPortReset (l : Link) (tag : Byte) (s : State) : Host.Outcome State Fault Refusal :=
  .next (s.serve l tag .portReset State.portReset)

/-! ### Pins and device-line messages -/

/-- DETECT CHANGE (R20, R21): before READY the inputs are not examined (R18). -/
def execDetectChange (p : Port) (level : Level) (s : State) : Host.Outcome State Fault Refusal :=
  let s1 := s.setPins { s.pins with detect := s.pins.detect.set p level }
  .next (if s.pins.detect.get p ≠ level ∧ s.hubReady ∧ !s.hub.held then s1.detectInput p level else s1)

/-- DRIVER FAULT (R30): the fault input is asserted, or released again. -/
def execDriverFault (p : Port) (asserted : Bool) (s : State) : Host.Outcome State Fault Refusal :=
  let s1 := s.setPins { s.pins with fault := s.pins.fault.set p asserted }
  let st := (s.port p).state
  .next (if asserted ∧ !s.hub.held ∧ st ≠ .empty ∧ st ≠ .fault then s1.faultPort p .overload else s1)

/-- DEVICE LINE GAP TIMEOUT: an incomplete message ends (R23). -/
def execDeviceLineGapTimeout (p : Port) (s : State) : Host.Outcome State Fault Refusal :=
  .next (s.unlessHeld (fun s => if (s.port p).line = .closed then s else s.setPort p (s.port p).countCheckError))

/-- NOT READY from a device (R24). -/
def execDeviceNotReady (p : Port) (m : LineMessage) (s : State) : Host.Outcome State Fault Refusal :=
  .next (s.unlessHeld (fun s => s.lineMessage p m (fun s =>
    if (s.port p).stage = some .enquiring then some s else none)))

/-- IDENTITY from a device (R24, R25). -/
def execDeviceIdentity (p : Port) (d : DeviceRecord) (m : LineMessage) (s : State) : Host.Outcome State Fault Refusal :=
  .next (s.unlessHeld (fun s => s.lineMessage p m (fun s =>
    if (s.port p).stage = some .enquiring then some (s.identity p d) else none)))

/-- ACK from a device (R26). -/
def execDeviceAck (p : Port) (m : LineMessage) (s : State) : Host.Outcome State Fault Refusal :=
  .next (s.unlessHeld (fun s => s.lineMessage p m (fun s =>
    if (s.port p).stage = some .speed then some (s.speedAck p) else none)))

/-- DATA from a device (R26, R28, R38). -/
def execDeviceData (p : Port) (mode : Nat) (values : List Int) (m : LineMessage) (s : State) :
    Host.Outcome State Fault Refusal :=
  .next (s.unlessHeld (fun s => s.lineMessage p m (fun s => s.data p mode values)))

/-! ### Timers -/

/-- DEBOUNCE EXPIRY (R20). -/
def execDebounceExpiry (p : Port) (s : State) : Host.Outcome State Fault Refusal :=
  .next (s.unlessHeld (fun s =>
    if (s.port p).state = .settling then (s.expire (s.port p).waitFrom 100).settled p else s))

/-- ENQUIRE POLL (R24): a further ENQUIRE, 50 ms after the one before. -/
def execEnquirePoll (p : Port) (s : State) : Host.Outcome State Fault Refusal :=
  .next (s.unlessHeld (fun s =>
    if (s.port p).stage = some .enquiring then
      let s1 := s.expire (s.port p).enquiredAt 50
      s1.setPort p { s1.port p with enquiredAt := s1.now, sent := [.enquire] }
    else s))

/-- IDENT DEADLINE EXPIRY (R24). -/
def execIdentDeadlineExpiry (p : Port) (s : State) : Host.Outcome State Fault Refusal :=
  .next (s.unlessHeld (fun s =>
    if (s.port p).stage = some .enquiring then (s.expire (s.port p).identFrom 1000).faultPort p .identTimeout else s))

/-- SPEED ACK TIMEOUT (R26): SPEED goes out once more, then FAULT. -/
def execSpeedAckTimeout (p : Port) (s : State) : Host.Outcome State Fault Refusal :=
  .next (s.unlessHeld (fun s =>
    if (s.port p).stage = some .speed then
      let s1 := s.expire (s.port p).waitFrom 100
      let r := s1.port p
      if r.secondWait then s1.faultPort p .silent
      else s1.setPort p { r with sent := [.speed r.dataSpeed], waitFrom := s1.now, secondWait := true }
    else s))

/-- FIRST DATA TIMEOUT (R26): SELECT MODE 0 and SET INTERVAL go out once more, then FAULT. -/
def execFirstDataTimeout (p : Port) (s : State) : Host.Outcome State Fault Refusal :=
  .next (s.unlessHeld (fun s =>
    if (s.port p).stage = some .firstData then
      let s1 := s.expire (s.port p).waitFrom 100
      if (s1.port p).secondWait then s1.faultPort p .silent else s1.askFirstData p true
    else s))

/-- NUDGE (R29). -/
def execNudge (p : Port) (s : State) : Host.Outcome State Fault Refusal :=
  .next (s.unlessHeld (fun s =>
    if s.supervised p ∧ (s.port p).nudgedAt = none then
      let s1 := s.expire (s.port p).lastData (4 * (s.port p).superviseMs + 100)
      s1.setPort p { (s1.port p).countNudge with nudgedAt := some s1.now, healthyFrom := s1.now, sent := [.nudge] }
    else s))

/-- SILENT PATH (R29): nothing usable in the 200 ms after a NUDGE. -/
def execSilentPath (p : Port) (s : State) : Host.Outcome State Fault Refusal :=
  .next (s.unlessHeld (fun s =>
    match (s.port p).nudgedAt with
    | some t => if s.supervised p then (s.expire t 200).silent p else s
    | none => s))

/-- SILENT RETRY CLEAR (R29). -/
def execSilentRetryClear (p : Port) (s : State) : Host.Outcome State Fault Refusal :=
  .next (s.unlessHeld (fun s =>
    if s.active p ∧ (s.port p).silentRetry then
      let s1 := s.expire (s.port p).healthyFrom 10000
      s1.setPort p { s1.port p with silentRetry := false }
    else s))

/-- MODE CHANGE TIMEOUT (R38): SELECT MODE goes out once more, then DEVICE TIMEOUT and the silent path. -/
def execModeChangeTimeout (p : Port) (s : State) : Host.Outcome State Fault Refusal :=
  .next (s.unlessHeld (fun s =>
    match (s.port p).pendingMode with
    | none => s
    | some w =>
      let s1 := s.expire (s.port p).waitFrom 100
      let r := s1.port p
      if r.secondWait then
        ((s1.setPort p { r with pendingMode := none }).refuse w.ticket .deviceTimeout).silent p
      else s1.setPort p { r with sent := [.selectMode w.mode], waitFrom := s1.now, secondWait := true }))

end Sys2Proof.Machine
end

