-- ==== Sys2Proof/Machine/Report.lean ====
section
/-! DEFINITION. The meanings of the Report Scheduler's commands (chapter 7). -/

namespace Sys2Proof.Machine

/-- RATE QUEUE EXPIRY (R112, R113): the queue's period has run out since its last expiry. -/
def execRateQueueExpiry (l : Link) (q : QueueId) (s : State) : Host.Outcome State Fault Refusal :=
  .next (s.unlessHeld (fun s =>
    let r := (s.sched l).queues.get q
    match r.origin with
    | none => s
    | some o =>
      let s1 := s.expire o r.period
      (s1.setSched l ((s1.sched l).setQueue q { r with origin := some (o + BitVec.ofNat 32 r.period) })).queueExpired l q))

/-- A period field of RATE SET: 0 leaves the queue as it stands (R114). -/
def RateQueue.setPeriod (r : RateQueue) (n : Nat) (now : Word32) : RateQueue :=
  if n = 0 then r else { r with period := clampNat 5 60000 n, origin := some now }

/-- RATE SET, when its body has passed (R114). -/
def State.setRates (s : State) (l : Link) (b : List Byte) : State :=
  let x := s.sched l
  s.setSched l { x with queues :=
    ⟨x.queues.q0.setPeriod (u16 b 0) s.now, x.queues.q1.setPeriod (u16 b 2) s.now,
      x.queues.q2.setPeriod (u16 b 4) s.now, x.queues.q3.setPeriod (u16 b 6) s.now⟩ }

/-- The RATE SET response body (R114). -/
def State.ratesBody (s : State) (l : Link) : List Byte :=
  let q := (s.sched l).queues
  e16 q.q0.period ++ e16 q.q1.period ++ e16 q.q2.period ++ e16 q.q3.period

/-- RATE SET (R114). -/
def State.rateSet (t : Ticket) (b : List Byte) (s : State) : State :=
  s.check t [(decide (b.length ≠ 8), .parameterError)]
    (fun s => (s.setRates t.link b).complete t ((s.setRates t.link b).ratesBody t.link))

def execRateSet (l : Link) (tag : Byte) (s : State) : Host.Outcome State Fault Refusal :=
  .next (s.serve l tag .rateSet State.rateSet)

/-- The member fields of STREAM SET. -/
def memberFields (b : List Byte) : List Nat := (List.range (u8 b 2)).map (fun i => u8 b (3 + i))

/-- The checks of STREAM SET (R115). -/
def streamFields (b : List Byte) : Bool :=
  decide (b.length ≠ 3 + u8 b 2) || decide (11 < u8 b 0) || decide (3 < u8 b 1) || decide (4 < u8 b 2) ||
    (memberFields b).any (fun m => decide (6 < m)) || !decide (memberFields b).Nodup

/-- The stream that STREAM SET leaves (R115). -/
def Stream.setTo (x : Stream) (b : List Byte) : Stream :=
  if u8 b 2 = 0 then .undefined
  else { defined := true, queue := queueOf (u8 b 1), members := (memberFields b).map chanOf, enabled := x.enabled }

/-- STREAM SET, when every check has passed (R115). -/
def State.setStreamTo (s : State) (l : Link) (b : List Byte) : State :=
  let old := s.stream l (u8 b 0)
  let new := old.setTo b
  ((s.setStream l (u8 b 0) new).withdraw l old.queue).withdraw l new.queue

/-- STREAM SET (R115): the response counts the enabled streams on the stream's queue and on the queue it left. -/
def State.streamSet (t : Ticket) (b : List Byte) (s : State) : State :=
  let old := s.stream t.link (u8 b 0)
  s.check t [(streamFields b, .parameterError)]
    (fun s =>
      let s1 := s.setStreamTo t.link b
      s1.complete t (e8 (s1.enabledOn t.link (old.setTo b).queue).length ++ e8 (s1.enabledOn t.link old.queue).length))

def execStreamSet (l : Link) (tag : Byte) (s : State) : Host.Outcome State Fault Refusal :=
  .next (s.serve l tag .streamSet State.streamSet)

/-- STREAM ENABLE, when every check has passed (R116). -/
def State.enableStream (s : State) (l : Link) (n : Nat) (on : Bool) : State :=
  let x := s.stream l n
  (s.setStream l n { x with enabled := on }).withdraw l x.queue

/-- STREAM ENABLE (R116). -/
def State.streamEnable (t : Ticket) (b : List Byte) (s : State) : State :=
  let n := u8 b 0
  let on := decide (u8 b 1 = 1)
  let x := s.stream t.link n
  s.check t
    [(decide (b.length ≠ 2) || decide (11 < n) || decide (1 < u8 b 1), .parameterError), (on && !x.defined, .sequenceError)]
    (fun s =>
      let s1 := s.enableStream t.link n on
      s1.complete t (e8 (s1.enabledOn t.link x.queue).length))

def execStreamEnable (l : Link) (tag : Byte) (s : State) : Host.Outcome State Fault Refusal :=
  .next (s.serve l tag .streamEnable State.streamEnable)

end Sys2Proof.Machine
end

