-- ==== Sys2Proof/Machine/Sensing.lean ====
section
/-! DEFINITION. The meanings of the Sensing Unit's commands (chapter 5). -/

namespace Sys2Proof.Machine

/-- A request rounded up to the next of the ranges offered, and clamped to the widest (R90). -/
def roundRange (offers : List Nat) (widestOffer n : Nat) : Nat := (offers.find? (fun r => decide (n ≤ r))).getD widestOffer

def accelRangeOf (n : Nat) : Nat := roundRange [2000, 4000, 8000, 16000] 16000 n

def gyroRangeOf (n : Nat) : Nat := roundRange [250, 500, 1000, 2000] 2000 n

/-- The field checks of VIEW SET (R90). -/
def viewFields (b : List Byte) : Bool :=
  decide (8 < u8 b 11) || decide (b.length ≠ 12 + 4 * u8 b 11) || decide (3 < u8 b 4) ||
    (decide (5 < u8 b 6) && decide (u8 b 6 ≠ 255))

/-- The offsets of VIEW SET: the k given, the others 0 (R90). -/
def offsetsOf (b : List Byte) : List Int :=
  (List.range 8).map (fun i => if i < u8 b 11 then s32 b (12 + 4 * i) else 0)

/-- The view that VIEW SET leaves, before any clearing of its output (R90, R93). -/
def View.setTo (v : View) (internal : Bool) (b : List Byte) : View :=
  { v.restart with
    interval := min (u16 b 2) 60000, filter := filterOf (u8 b 4), strength := clampNat 1 7 (u8 b 5)
    offsets := offsetsOf b, stampPort := if u8 b 6 = 255 then none else some (portOf (u8 b 6))
    accelRange := if internal then accelRangeOf (u16 b 7) else v.accelRange
    gyroRange := if internal then gyroRangeOf (u16 b 9) else v.gyroRange }

/-- VIEW SET, when every check has passed (R90). -/
def State.setViewOf (s : State) (l : Link) (c : Chan) (b : List Byte) : State :=
  let v := (s.view l c).setTo (decide (c = .internal)) b
  let s1 := s.setView l c (if v.interval = 0 then v.clearOutput (s.valueCount c) else v)
  (s1.disarm l c .view).recompute c

/-- The source interval of a channel in µs, as chosen (R90). -/
def State.chosenInterval (s : State) : Chan → Nat
  | .internal => s.sharedI.interval
  | .port p => s.sourceInterval p

/-- The VIEW SET response body (R90). -/
def State.viewSetBody (s : State) (l : Link) (c : Chan) : List Byte :=
  let us := s.chosenInterval c
  let v := s.view l c
  e32 us ++ e16 (if v.interval = 0 then 0 else divisor v.interval us) ++
    (match c with
      | .internal => e16 s.sharedI.accelRange ++ e16 s.sharedI.gyroRange
      | .port _ => e16 0 ++ e16 0)

/-- VIEW SET (R90). -/
def State.viewSet (t : Ticket) (b : List Byte) (s : State) : State :=
  let c := chanOf (u8 b 0)
  s.check t
    ([(viewFields b, .parameterError), (decide (6 < u8 b 0), .portError)] ++ s.chanChecks (u8 b 0) (u8 b 1))
    (fun s =>
      let s1 := s.setViewOf t.link c b
      s1.complete t (s1.viewSetBody t.link c))

def execViewSet (l : Link) (tag : Byte) (s : State) : Host.Outcome State Fault Refusal :=
  .next (s.serve l tag .viewSet State.viewSet)

/-- READ VALUES (R92): the delivery is taken and clears the fresh flag in the same act. -/
def State.readValues (t : Ticket) (b : List Byte) (s : State) : State :=
  let c := chanOf (u8 b 0)
  s.check t
    ([(decide (b.length ≠ 2), .parameterError), (decide (6 < u8 b 0), .portError)] ++ s.chanChecks (u8 b 0) (u8 b 1))
    (fun s => (s.delivered t.link c).complete t (s.delivery t.link c))

def execReadValues (l : Link) (tag : Byte) (s : State) : Host.Outcome State Fault Refusal :=
  .next (s.serve l tag .readValues State.readValues)

/-- PORT I SAMPLE (R82): taken from READY on. -/
def execPortISample (ax ay az gx gy gz : Int) (s : State) : Host.Outcome State Fault Refusal :=
  .next (s.unlessHeld (fun s => if s.hubReady then s.internalSample ax ay az gx gy gz else s))

end Sys2Proof.Machine
end

