-- ==== Sys2Proof/Machine/Sound.lean ====
section
/-! DEFINITION. The meanings of the Sound Unit's commands (chapter 8). REFILL COMPLETE stands with the flash. -/

namespace Sys2Proof.Machine

/-! ### PLAY TONE and PLAY CLIP (R126, R127) -/

/-- The placement field: the voice, or FFH when the sound waits. -/
def placementByte (v : Option VoiceId) : List Byte := eOpt8 (v.map voiceCode)

/-- The sound of an accepted PLAY TONE (R126). -/
def State.toneOf (s : State) (l : Link) (b : List Byte) : Sound :=
  { number := s.soundNumber, link := l, priority := u8 b 0, volume := min (u8 b 1) 100
    part := .tone (clampNat 20 8000 (u16 b 2)) (if u8 b 4 = 0 then .square else .triangle) (u32 b 5 * 16) 0 }

/-- A sound is accepted: it takes its number and its place; the voice it took comes with the state (R123, R124). -/
def State.acceptSound (s : State) (x : Sound) : State × Option VoiceId :=
  { s with sound := { s.sound with counter := x.number } }.placeSound x

/-- PLAY TONE (R126). -/
def State.playTone (t : Ticket) (b : List Byte) (s : State) : State :=
  let x := s.toneOf t.link b
  s.check t
    [(decide (b.length ≠ 9) || decide (7 < u8 b 0) || decide (1 < u8 b 4) || decide (u32 b 5 < 1) ||
        decide (60000 < u32 b 5), .parameterError),
      (s.cutoff, .supplyLow), (s.noPlace (u8 b 0), .queueFull)]
    (fun s => (s.acceptSound x).1.complete t (e16 x.number ++ placementByte (s.acceptSound x).2))

def execPlayTone (l : Link) (tag : Byte) (s : State) : Host.Outcome State Fault Refusal :=
  .next (s.serve l tag .playTone State.playTone)

/-- The sound of an accepted PLAY CLIP of a version (R127). -/
def State.clipOf (s : State) (l : Link) (b : List Byte) (holder serial : Nat) (v : VersionImage) : Sound :=
  { number := s.soundNumber, link := l, priority := u8 b 2, volume := min (u8 b 3) 100
    part := .clip (u16 b 0) holder serial v.number v.length v.format (u32 b 4) (u8 b 8) 0 (u32 b 4) }

/-- Whether an offset is refused for a version (R127). -/
def clipOffsetBad (v : VersionImage) (offset : Nat) : Bool :=
  decide (v.length ≤ offset) || (decide (sampleWidth v.format = 2) && decide (offset % 2 = 1))

/-- PLAY CLIP, once the lookup has found a version (R127). -/
def State.playFound (s : State) (t : Ticket) (b : List Byte) (holder : Nat) (v : Version) : State :=
  let x := s.clipOf t.link b holder v.serial v.image
  s.check t
    [(decide (v.image.kind ≠ .sound), .parameterError), (clipOffsetBad v.image (u32 b 4), .parameterError),
      (s.noPlace (u8 b 2), .queueFull)]
    (fun s =>
      let r := ((s.pin holder).setReadMark holder).acceptSound x
      r.1.complete t (e16 x.number ++ placementByte r.2 ++ e16 v.image.number))

/-- PLAY CLIP (R127). -/
def State.playClip (t : Ticket) (b : List Byte) (s : State) : State :=
  s.check t
    [(decide (b.length ≠ 9) || decide (1023 < u16 b 0) || decide (7 < u8 b 2), .parameterError),
      (s.cutoff, .supplyLow), (decide (s.media.store = some .offline), .mediaError)]
    (fun s =>
      match s.resolve (u16 b 0) with
      | none => s.refuse t .noSuchAsset
      | some (holder, v) => s.playFound t b holder v)

def execPlayClip (l : Link) (tag : Byte) (s : State) : Host.Outcome State Fault Refusal :=
  .next (s.serve l tag .playClip State.playClip)

/-! ### SOUND STOP, VOLUME SET, SOUND STATE (R134 to R136) -/

/-- The sounds that a SOUND STOP of a link names: number 0 is ALL. -/
def stops (l : Link) (n : Nat) (x : Sound) : Bool := decide (x.link = l) && (decide (n = 0) || decide (x.number = n))

/-- SOUND STOP (R134). -/
def State.soundStop (t : Ticket) (b : List Byte) (s : State) : State :=
  let n := u16 b 0
  s.check t
    [(decide (b.length ≠ 2), .parameterError),
      (decide (n ≠ 0) && s.sounds.any (fun x => decide (x.number = n) && decide (x.link ≠ t.link)), .parameterError)]
    (fun s => (s.endSounds (stops t.link n) .stopped).complete t (e8 (s.sounds.filter (stops t.link n)).length))

def execSoundStop (l : Link) (tag : Byte) (s : State) : Host.Outcome State Fault Refusal :=
  .next (s.serve l tag .soundStop State.soundStop)

/-- VOLUME SET (R135). -/
def State.volumeSet (t : Ticket) (b : List Byte) (s : State) : State :=
  let n := min (u8 b 0) 100
  s.check t [(decide (b.length ≠ 1), .parameterError)]
    (fun s => { s with sound := { s.sound with volumes := s.sound.volumes.set t.link n } }.complete t (e8 n))

def execVolumeSet (l : Link) (tag : Byte) (s : State) : Host.Outcome State Fault Refusal :=
  .next (s.serve l tag .volumeSet State.volumeSet)

/-- Loops completed, as SOUND STATE and SOUND DONE give it. -/
def SoundPart.loopsDone : SoundPart → Nat
  | .tone .. => 0
  | .clip _ _ _ _ _ _ _ _ done _ => done

/-- A voice record of SOUND STATE (R136). -/
def voiceRecord : Option Voice → List Byte
  | none => [0, 0, 0, 0, 0xFF, 0, 0, 0]
  | some v =>
    e8 (voiceStageCode v.stage) ++ e16 v.sound.number ++ e8 (linkCode v.sound.link) ++ eBool v.sound.part.isClip ++
      e8 v.sound.priority ++ e8 v.sound.volume ++ e8 v.sound.part.loopsDone

/-- A waiting record of SOUND STATE (R136). -/
def waitingRecord (x : Sound) : List Byte :=
  e16 x.number ++ e8 (linkCode x.link) ++ eBool x.part.isClip ++ e8 x.priority

/-- The cap in effect, as SOUND STATE reports it: stated for NORMAL and LOW alone (R132, R136). -/
def State.reportedCap (s : State) : List Byte :=
  match s.supply.state with
  | some .normal => e8 100
  | some .low => e8 50
  | _ => [Config.cutoffCap]

/-- The SOUND STATE body (R136). -/
def State.soundStateBody (s : State) : List Byte :=
  (allVoices.map (fun v => voiceRecord (s.voice v))).flatten ++ e8 s.sound.queue.length ++
    (s.sound.queue.map waitingRecord).flatten ++ e8 s.sound.volumes.pl ++ e8 s.sound.volumes.tl ++ s.reportedCap

/-- SOUND STATE (R136). -/
def State.soundState (t : Ticket) (b : List Byte) (s : State) : State :=
  s.check t [(decide (b.length ≠ 0), .parameterError)] (fun s => s.complete t s.soundStateBody)

def execSoundState (l : Link) (tag : Byte) (s : State) : Host.Outcome State Fault Refusal :=
  .next (s.serve l tag .soundState State.soundState)

/-! ### Output -/

/-- OUTPUT SAMPLE (R132); the speaker carries 0 while the hub is not READY (R123). -/
def execOutputSample (s : State) : Host.Outcome State Fault Refusal :=
  .next (s.unlessHeld (fun s =>
    if s.hubReady then s.outputSample else { s with sound := { s.sound with speaker := 0 } }))

/-- TONE END (R128). -/
def execToneEnd (v : VoiceId) (s : State) : Host.Outcome State Fault Refusal :=
  .next (s.unlessHeld (fun s => s.toneEnd v))

/-- CLIP PASS END (R131). -/
def execClipPassEnd (v : VoiceId) (s : State) : Host.Outcome State Fault Refusal :=
  .next (s.unlessHeld (fun s => s.passEnd v))

/-- SOUND STARVED (R130). -/
def execSoundStarved (v : VoiceId) (s : State) : Host.Outcome State Fault Refusal :=
  .next (s.unlessHeld (fun s => s.starved v))

end Sys2Proof.Machine
end

