-- ==== Sys2Proof/Machine/StartupOps.lean ====
section
/-! DEFINITION. The operations of the Supply Monitor and Start-up Control (chapter 11): readings and supply states, the
start-up steps, catalogue replay and the fail record. -/

namespace Sys2Proof.Machine

/-! ### The supply (R164, R165) -/

/-- The state that the first mean sets (R164), and the tests from NORMAL (R165). -/
def supplyFirst (mean : Nat) : SupplyState :=
  if mean < 5400 then .cutoff else if mean < 6000 then .low else .normal

/-- The state after a new mean (R165). -/
def supplyNext (x : SupplyState) (mean : Nat) : SupplyState :=
  match x with
  | .normal => supplyFirst mean
  | .low => if mean < 5400 then .cutoff else if mean ≤ 6300 then .low else .normal
  | .cutoff => .cutoff

/-- The readings with a new one: the last eight, in order of arrival (R164). -/
def joinReading (readings : List Nat) (mv : Nat) : List Nat :=
  if readings.length < 8 then readings ++ [mv] else readings.drop 1 ++ [mv]

/-- The mean of eight readings (R164). -/
def meanOf (readings : List Nat) : Option Nat := if readings.length < 8 then none else some (readings.sum / 8)

/-- The entry to CUTOFF, as the neighbours take it (R61, R137, R159). -/
def State.enterCutoff (s : State) : State :=
  ((s.cutoffMotors).endSounds (fun _ => true) .supply).mediaCutoff

/-- A change of the supply state: it is recorded, SUPPLY CHANGED goes out, then CUTOFF is announced (R165). -/
def State.supplyChange (s : State) (previous new : SupplyState) (mean : Nat) : State :=
  let s1 := (s.setSupply { s.supply with state := some new, changedAt := s.now }).notifyBoth
    (.supplyChanged new previous mean)
  if new = .cutoff then s1.enterCutoff else s1

/-- A reading joins, and the state is tested at each mean (R164, R165). The first mean ends start-up step 3. -/
def State.takeReading (s : State) (mv : Nat) : State :=
  let readings := joinReading s.supply.readings mv
  let s1 := s.setSupply { s.supply with readings := readings, mean := meanOf readings }
  match meanOf readings with
  | none => s1
  | some mean =>
    match s.supply.state with
    | none =>
      let s2 := s1.setSupply { s1.supply with state := some (supplyFirst mean) }
      if s.hub.step = 3 then s2.setHub { s2.hub with step := 4 } else s2
    | some old => if supplyNext old mean = old then s1 else s1.supplyChange old (supplyNext old mean) mean

/-- Whether readings are taken: from the start of start-up step 3, and never in FAILED (R164, R165). -/
def State.supplyMeasures (s : State) : Bool :=
  match s.hub.state with
  | .starting => decide (3 ≤ s.hub.step)
  | .ready => true
  | .failed => false

/-! ### The fail record (R167) -/

/-- A failure is recorded: its flag is set; the first failure writes the rest. -/
def FailRecord.add (f : FailRecord) (a : Area) (minor : Nat) (params : List Nat) : FailRecord :=
  let failed := if a ∈ f.failed then f.failed else f.failed ++ [a]
  match f.major with
  | none => ⟨some a, minor, params, failed⟩
  | some _ => { f with failed := failed }

def State.recordFailure (s : State) (a : Area) (minor : Nat) (params : List Nat) : State :=
  s.setHub { s.hub with fail := FailRecord.add s.hub.fail a minor params }

/-! ### Start-up (R166) -/

/-- Whether start-up is in step `n`. -/
def State.inStep (s : State) (n : Nat) : Bool := decide (s.hub.state = .starting) && decide (s.hub.step = n)

def State.setStep (s : State) (n : Nat) : State := s.setHub { s.hub with step := n }

/-- The hub enters READY (R166). -/
def State.enterReady (s : State) : State :=
  let s1 := (s.setHub { s.hub with state := .ready, step := 0 }).recomputeI
  allPorts.foldl State.beginDetection (s1.setSample .internal (.cleared 6 s1.sharedI.interval))

/-- The hub enters FAILED (R166). -/
def State.enterFailed (s : State) : State := s.setHub { s.hub with state := .failed, step := 0 }

/-- The store is OFFLINE without a scan: steps 5 and 6 are skipped (R166). -/
def State.storeUnusable (s : State) (minor : Nat) (params : List Nat) : State :=
  let s1 := s.recordFailure .flash minor params
  (s1.setWork { s1.media with store := some .offline }).enterReady

/-- The erase count of a scanned block: one that cannot be read takes the highest count read from any other (R151). -/
def scannedCount (blocks : List ScanBlock) (b : Nat) (x : ScanBlock) : Nat :=
  match x.count with
  | some n => n
  | none =>
    match blocks.filterMap (·.count) with
    | [] => (Config.unreadCount b).toNat
    | n :: rest => rest.foldl max n

/-- The state the scan gives a block (R151). -/
def scannedState (b : Nat) (bad : Bool) : BlockState :=
  if b ≤ 7 then .catalogue else if b = 8 then .factory else if bad then .bad else .freeDirty

/-- The block table that the scan builds (R151). -/
def scannedTable (blocks : List ScanBlock) : Table Block :=
  .build .unscanned 1024 (fun b =>
    match blocks[b]? with
    | some x => ⟨scannedState b x.bad, scannedCount blocks b x⟩
    | none => ⟨scannedState b false, 0⟩)

/-- The directory with the PRESENT factory entries of the index (R138). -/
def factoryDirectory (entries : List (Nat × VersionImage)) (d : Table DirEntry) : Table DirEntry :=
  entries.foldl (fun t e =>
    t.set .absent e.1
      { content := .present ⟨e.2, 0, 0⟩, protection := .fixed, lastVersion := e.2.number, changed := false, read := false }) d

/-- The factory index is taken: its versions' blocks are FACTORY (R151, R166). -/
def State.takeFactory (s : State) (entries : List (Nat × VersionImage)) : State :=
  let s1 := { s with assets := { s.assets with directory := factoryDirectory entries s.assets.directory } }
  s1.setBlockStates ((entries.map (fun e => versionBlocks e.2)).flatten) .factory

/-! ### Catalogue replay (R161) -/

/-- The ring block of the complete snapshot with the highest sequence, from ring block `k` on (R161). Of two with the
same sequence the one in the lower ring block is taken: DESIGN CHOICE, notes/assumptions/48. -/
def bestSnapshot : Nat → List RingImage → Option (Nat × Nat × RingImage)
  | _, [] => none
  | k, r :: rest =>
    match r.sequence, r.complete, bestSnapshot (k + 1) rest with
    | some n, true, some (j, m, x) => if n < m then some (j, m, x) else some (k, n, r)
    | some n, true, none => some (k, n, r)
    | _, _, found => found

/-- The highest sequence read from any header, or 0 (R167). -/
def highestSequence (ring : List RingImage) : Nat := (ring.filterMap (·.sequence)).foldl max 0

/-- The directory entry that a snapshot entry loads, pins being 0 and the read mark clear. -/
def loadedEntry (e : EntryImage) : DirEntry :=
  { content := match e.content with
      | .absent => .absent
      | .present v => .present ⟨v, 0, 0⟩
      | .aliasOf t => .aliasOf t
    protection := e.protection, lastVersion := e.lastVersion, changed := e.changed, read := false }

/-- The bad list after a record (R161). -/
def applyBads (bads : List Nat) : CatRecord → List Nat
  | .bad b => if b ∈ bads then bads else bads ++ [b]
  | _ => bads

/-- The spare list after a record (R161). -/
def applySpares (spares : List Nat) : CatRecord → List Nat
  | .bad b => spares.filter (fun x => decide (x ≠ b))
  | .spareTaken b => spares.filter (fun x => decide (x ≠ b))
  | _ => spares

/-- The blocks of the current user versions. -/
def userBlocks (d : Table DirEntry) : List Nat :=
  (d.cells.map (fun c =>
    match c.2.content with
    | .present v => if 128 ≤ c.1 then versionBlocks v.image else []
    | _ => [])).flatten

/-- The state replay gives a block, from the state the scan gave it (R161). -/
def classify (scanned : BlockState) (b : Nat) (bads spares live : List Nat) : BlockState :=
  if b ≤ 7 then .catalogue
  else if scanned = .factory then .factory
  else if scanned = .bad ∨ b ∈ bads then .bad
  else if b ∈ spares then .spare
  else if b ∈ live then .live
  else .freeDirty

/-- The block table after replay (R161). -/
def State.classified (s : State) (bads spares live : List Nat) : Table Block :=
  .build .unscanned 1024 (fun b => ⟨classify (s.block b).state b bads spares live, (s.block b).erases⟩)

/-- Replay of one ring block's snapshot and records (R161). -/
def State.replay (s : State) (k n : Nat) (r : RingImage) : State :=
  let loaded := r.entries.foldl (fun t e => t.set .absent e.number (loadedEntry e)) s.assets.directory
  let d := r.records.foldl (applyRecord 0) loaded
  let used := if r.torn then 64 else r.snapshotPages + r.records.length
  { s with
    assets := { s.assets with directory := d }
    media := { s.media with
      store := some .ready, ring := some k, sequence := n, pagesUsed := used, mustCompact := decide (64 ≤ used)
      blocks := s.classified (r.records.foldl applyBads r.bads) (r.records.foldl applySpares r.spares) (userBlocks d) } }

/-- Catalogue replay (R161, R166, R167). -/
def State.replayRing (s : State) (ring : List RingImage) : State :=
  match bestSnapshot 0 ring with
  | some (k, n, r) => s.replay k n r
  | none =>
    let s1 := s.recordFailure .catalogue 1 [highestSequence ring]
    s1.setWork { s1.media with store := some .offline, blocks := s1.classified [] [] [] }

/-! ### Hub time (R166) -/

/-- One millisecond of hub time passes with no command waiting: hub time wraps at 2³² (R166). DESIGN CHOICE,
notes/assumptions/1. -/
def State.tick (s : State) : State := s.unlessHeld (fun s => s.setHub { s.hub with time := s.hub.time + 1 })

/-! ### RESET (R169) -/

/-- RESET is asserted: the hub is held, both links DOWN and so no port held (R34), every channel FREE, every device line
CLOSED, the speaker 0 and no flash operation under way (R169). -/
def State.hold (s : State) : State :=
  let s1 := s.enterAll allPorts .coast
  let s2 := allPorts.foldl (fun t p => t.setPort p { t.port p with line := .closed, holder := none }) s1
  { s2 with
    holderI := none
    hub := { s2.hub with held := true }, links := ⟨s2.links.pl.cleared false, s2.links.tl.cleared false⟩
    sound := { s2.sound with speaker := 0 }, media := { s2.media with op := none } }

end Sys2Proof.Machine
end

