-- ==== Sys2Proof/Machine/Startup.lean ====
section
/-! DEFINITION. The meanings of the commands of the Supply Monitor and Start-up Control (chapter 11). -/

namespace Sys2Proof.Machine

/-- POWER ON (R166, R169). Taken while RESET is asserted, it ends the hold and start-up begins at once. DESIGN CHOICE,
notes/assumptions/60. -/
def execPowerOn (s : State) : Host.Outcome State Fault Refusal := .next s.restart

/-- RESET ASSERTED (R169). -/
def execResetAsserted (s : State) : Host.Outcome State Fault Refusal := .next (s.unlessHeld State.hold)

/-- RESET RELEASED (R169). -/
def execResetReleased (s : State) : Host.Outcome State Fault Refusal := .next (if s.hub.held then s.restart else s)

/-- How start-up step 1 ends (R166, R167). -/
def State.memoryTested (s : State) : MemoryResult → State
  | .pass => s.setStep 2
  | .patternFault a e r => (s.recordFailure .memory 1 [a, e, r]).enterFailed
  | .addressFault a e r => (s.recordFailure .memory 2 [a, e, r]).enterFailed

/-- MEMORY TEST, start-up step 1 (R166). -/
def execMemoryTest (r : MemoryResult) (s : State) : Host.Outcome State Fault Refusal :=
  .next (s.unlessHeld (fun s => if s.inStep 1 then s.memoryTested r else s))

/-- The ports whose driver fault input is asserted. -/
def State.faultInputs (s : State) : List Port := allPorts.filter (fun p => s.pins.fault.get p)

/-- Start-up step 2 (R166, R167). -/
def State.driversChecked (s : State) : State :=
  let ps := s.faultInputs
  let s1 := if ps = [] then s else s.recordFailure .driver 1 [portMask ps]
  s1.setHub { s1.hub with driverFaults := ps, step := 3 }

/-- DRIVER CHECK, start-up step 2 (R166). -/
def execDriverCheck (s : State) : Host.Outcome State Fault Refusal :=
  .next (s.unlessHeld (fun s => if s.inStep 2 then s.driversChecked else s))

/-- SUPPLY READING (R164, R165). -/
def execSupplyReading (mv : Nat) (s : State) : Host.Outcome State Fault Refusal :=
  .next (s.unlessHeld (fun s => if s.supplyMeasures then s.takeReading mv else s))

/-- How start-up step 4 ends (R151, R166, R167). -/
def State.flashScanned (s : State) : FlashScan → State
  | .notIdentified n => s.storeUnusable 1 [n]
  | .unreadable n b => s.storeUnusable 2 [n, b]
  | .scanned blocks => (s.setWork { s.media with blocks := scannedTable blocks }).setStep 5

/-- FLASH IDENTIFICATION, start-up step 4 (R166). -/
def execFlashIdentification (x : FlashScan) (s : State) : Host.Outcome State Fault Refusal :=
  .next (s.unlessHeld (fun s => if s.inStep 4 then s.flashScanned x else s))

/-- How start-up step 5 ends (R166, R167). -/
def State.factoryRead (s : State) : FactoryIndex → State
  | .unreadable p => (s.recordFailure .factoryIndex 1 [p]).setStep 6
  | .checkFailed p => (s.recordFailure .factoryIndex 2 [p]).setStep 6
  | .index entries => (s.takeFactory entries).setStep 6

/-- FACTORY INDEX READ, start-up step 5 (R166). -/
def execFactoryIndexRead (x : FactoryIndex) (s : State) : Host.Outcome State Fault Refusal :=
  .next (s.unlessHeld (fun s => if s.inStep 5 then s.factoryRead x else s))

/-- CATALOGUE REPLAY, start-up step 6; the hub then enters READY, step 7 (R161, R166). -/
def execCatalogueReplay (ring : List RingImage) (s : State) : Host.Outcome State Fault Refusal :=
  .next (s.unlessHeld (fun s => if s.inStep 6 then (s.replayRing ring).enterReady else s))

/-! ### HUB STATUS and HUB RESET (R168, R170) -/

/-- The four parameter words; unused words are 0 (R168). -/
def paramWords (ps : List Nat) : List Byte := ([0, 1, 2, 3].map (fun i => e32 (ps.getD i 0))).flatten

/-- The HUB STATUS body (R168). -/
def State.hubStatusBody (s : State) : List Byte :=
  let f := s.hub.fail
  e8 (hubStateCode s.hub.state) ++ e8 (if s.hub.state = .starting then s.hub.step else 0) ++
    e8 ((f.major.map areaCode).getD 0) ++ e8 f.minor ++ e8 f.params.length ++ paramWords f.params ++ e8 (areaFlags f) ++
    eOpt8 (s.supply.state.map supplyCode) ++ e16 (s.supply.mean.getD 0) ++ eOpt8 (s.media.store.map storeCode) ++ eTime s.now

/-- HUB STATUS (R168). -/
def State.hubStatus (t : Ticket) (b : List Byte) (s : State) : State :=
  s.check t [(decide (b.length ≠ 0), .parameterError)] (fun s => s.complete t s.hubStatusBody)

def execHubStatus (l : Link) (tag : Byte) (s : State) : Host.Outcome State Fault Refusal :=
  .next (s.serve l tag .hubStatus State.hubStatus)

/-- HUB RESET (R170): the response is handed over and the reset is pending. -/
def State.hubReset (t : Ticket) (b : List Byte) (s : State) : State :=
  s.check t [(decide (b.length ≠ 0), .parameterError), (decide (t.link = .tl), .linkNotPermitted)]
    (fun s => (s.setHub { s.hub with resetPending := true }).complete t [])

def execHubReset (l : Link) (tag : Byte) (s : State) : Host.Outcome State Fault Refusal :=
  .next (s.serve l tag .hubReset State.hubReset)

end Sys2Proof.Machine
end

