-- ==== Sys2Proof/Machine/Dispatch.lean ====
section
/-! DEFINITION. The meaning of every command: one arm per row of spec/opcode_table.json. -/

namespace Sys2Proof.Machine

/-- What a command does to the state; the queue of waiting commands is left to the step. -/
def exec (i : Instr) (s : State) : Host.Outcome State Fault Refusal :=
  match i with
  -- resets and start-up
  | .powerOn => Sys2Proof.Machine.execPowerOn s
  | .resetAsserted => Sys2Proof.Machine.execResetAsserted s
  | .resetReleased => Sys2Proof.Machine.execResetReleased s
  | .memoryTest result => Sys2Proof.Machine.execMemoryTest result s
  | .driverCheck => Sys2Proof.Machine.execDriverCheck s
  | .flashIdentification scan => Sys2Proof.Machine.execFlashIdentification scan s
  | .factoryIndexRead index => Sys2Proof.Machine.execFactoryIndexRead index s
  | .catalogueReplay ring => Sys2Proof.Machine.execCatalogueReplay ring s
  -- the links
  | .linkUp l => Sys2Proof.Machine.execLinkUp l s
  | .linkDown l => Sys2Proof.Machine.execLinkDown l s
  | .holdRises => Sys2Proof.Machine.execHoldRises s
  | .holdFalls => Sys2Proof.Machine.execHoldFalls s
  | .overlength l length => Sys2Proof.Machine.execOverlength l length s
  | .frameReceived l kind tag code body check => Sys2Proof.Machine.execFrameReceived l kind tag code body check s
  | .fragmentTimeout l => Sys2Proof.Machine.execFragmentTimeout l s
  | .badStopBit => Sys2Proof.Machine.execBadStopBit s
  | .transmitArbiterChoose l => Sys2Proof.Machine.execTransmitArbiterChoose l s
  | .frameSent l => Sys2Proof.Machine.execFrameSent l s
  -- requests
  | .hubStatus l tag => Sys2Proof.Machine.execHubStatus l tag s
  | .linkCounts l tag => Sys2Proof.Machine.execLinkCounts l tag s
  | .hubReset l tag => Sys2Proof.Machine.execHubReset l tag s
  | .portInfo l tag => Sys2Proof.Machine.execPortInfo l tag s
  | .claimPort l tag => Sys2Proof.Machine.execClaimPort l tag s
  | .releasePort l tag => Sys2Proof.Machine.execReleasePort l tag s
  | .selectMode l tag => Sys2Proof.Machine.execSelectMode l tag s
  | .portReset l tag => Sys2Proof.Machine.execPortReset l tag s
  | .move l tag => Sys2Proof.Machine.execMove l tag s
  | .halt l tag => Sys2Proof.Machine.execHalt l tag s
  | .setZero l tag => Sys2Proof.Machine.execSetZero l tag s
  | .setGains l tag => Sys2Proof.Machine.execSetGains l tag s
  | .motorState l tag => Sys2Proof.Machine.execMotorState l tag s
  | .pairBind l tag => Sys2Proof.Machine.execPairBind l tag s
  | .pairUnbind l tag => Sys2Proof.Machine.execPairUnbind l tag s
  | .pairMove l tag => Sys2Proof.Machine.execPairMove l tag s
  | .viewSet l tag => Sys2Proof.Machine.execViewSet l tag s
  | .readValues l tag => Sys2Proof.Machine.execReadValues l tag s
  | .brickDetectSet l tag => Sys2Proof.Machine.execBrickDetectSet l tag s
  | .subscribe l tag => Sys2Proof.Machine.execSubscribe l tag s
  | .watchSet l tag => Sys2Proof.Machine.execWatchSet l tag s
  | .watchClear l tag => Sys2Proof.Machine.execWatchClear l tag s
  | .watchState l tag => Sys2Proof.Machine.execWatchState l tag s
  | .brickState l tag => Sys2Proof.Machine.execBrickState l tag s
  | .rateSet l tag => Sys2Proof.Machine.execRateSet l tag s
  | .streamSet l tag => Sys2Proof.Machine.execStreamSet l tag s
  | .streamEnable l tag => Sys2Proof.Machine.execStreamEnable l tag s
  | .playTone l tag => Sys2Proof.Machine.execPlayTone l tag s
  | .playClip l tag => Sys2Proof.Machine.execPlayClip l tag s
  | .soundStop l tag => Sys2Proof.Machine.execSoundStop l tag s
  | .volumeSet l tag => Sys2Proof.Machine.execVolumeSet l tag s
  | .soundState l tag => Sys2Proof.Machine.execSoundState l tag s
  | .assetInfo l tag => Sys2Proof.Machine.execAssetInfo l tag s
  | .assetRead l tag => Sys2Proof.Machine.execAssetRead l tag s
  | .writeOpen l tag => Sys2Proof.Machine.execWriteOpen l tag s
  | .writeChunk l tag => Sys2Proof.Machine.execWriteChunk l tag s
  | .writeClose l tag => Sys2Proof.Machine.execWriteClose l tag s
  | .writeCancel l tag => Sys2Proof.Machine.execWriteCancel l tag s
  | .assetDelete l tag => Sys2Proof.Machine.execAssetDelete l tag s
  | .assetAlias l tag => Sys2Proof.Machine.execAssetAlias l tag s
  | .assetProtect l tag => Sys2Proof.Machine.execAssetProtect l tag s
  | .marksRead l tag => Sys2Proof.Machine.execMarksRead l tag s
  | .marksClear l tag => Sys2Proof.Machine.execMarksClear l tag s
  | .storeLock l tag => Sys2Proof.Machine.execStoreLock l tag s
  | .probePage l tag => Sys2Proof.Machine.execProbePage l tag s
  | .storeState l tag => Sys2Proof.Machine.execStoreState l tag s
  | .formatUser l tag => Sys2Proof.Machine.execFormatUser l tag s
  -- ports and device lines; `good` says whether the message's check byte is correct (R22)
  | .detectChange p level => Sys2Proof.Machine.execDetectChange p level s
  | .debounceExpiry p => Sys2Proof.Machine.execDebounceExpiry p s
  | .deviceLineGapTimeout p => Sys2Proof.Machine.execDeviceLineGapTimeout p s
  | .deviceNotReady p good => Sys2Proof.Machine.execDeviceNotReady p good s
  | .deviceIdentity p record good => Sys2Proof.Machine.execDeviceIdentity p record good s
  | .deviceAck p good => Sys2Proof.Machine.execDeviceAck p good s
  | .deviceData p mode values good => Sys2Proof.Machine.execDeviceData p mode values good s
  | .enquirePoll p => Sys2Proof.Machine.execEnquirePoll p s
  | .identDeadlineExpiry p => Sys2Proof.Machine.execIdentDeadlineExpiry p s
  | .speedAckTimeout p => Sys2Proof.Machine.execSpeedAckTimeout p s
  | .firstDataTimeout p => Sys2Proof.Machine.execFirstDataTimeout p s
  | .nudge p => Sys2Proof.Machine.execNudge p s
  | .silentPath p => Sys2Proof.Machine.execSilentPath p s
  | .silentRetryClear p => Sys2Proof.Machine.execSilentRetryClear p s
  | .modeChangeTimeout p => Sys2Proof.Machine.execModeChangeTimeout p s
  | .driverFault p asserted => Sys2Proof.Machine.execDriverFault p asserted s
  -- motion
  | .controlPeriod => Sys2Proof.Machine.execControlPeriod s
  | .timeRunEnd p => Sys2Proof.Machine.execTimeRunEnd p s
  | .settleDone p => Sys2Proof.Machine.execSettleDone p s
  | .settleTimeout p => Sys2Proof.Machine.execSettleTimeout p s
  | .stallRecognised p => Sys2Proof.Machine.execStallRecognised p s
  -- the motion sensor and the watches
  | .portISample ax ay az gx gy gz => Sys2Proof.Machine.execPortISample ax ay az gx gy gz s
  | .watchFired l slot => Sys2Proof.Machine.execWatchFired l slot s
  | .rateQueueExpiry l q => Sys2Proof.Machine.execRateQueueExpiry l q s
  -- sound
  | .outputSample => Sys2Proof.Machine.execOutputSample s
  | .toneEnd v => Sys2Proof.Machine.execToneEnd v s
  | .clipPassEnd v => Sys2Proof.Machine.execClipPassEnd v s
  | .soundStarved v => Sys2Proof.Machine.execSoundStarved v s
  | .refillComplete result => Sys2Proof.Machine.execRefillComplete result s
  -- flash
  | .flashArbiterChoose => Sys2Proof.Machine.execFlashArbiterChoose s
  | .backgroundEraseStart => Sys2Proof.Machine.execBackgroundEraseStart s
  | .refreshStart => Sys2Proof.Machine.execRefreshStart s
  | .pageReadComplete result => Sys2Proof.Machine.execPageReadComplete result s
  | .programComplete ok => Sys2Proof.Machine.execProgramComplete ok s
  | .verifyComplete sectors => Sys2Proof.Machine.execVerifyComplete sectors s
  | .eraseComplete ok => Sys2Proof.Machine.execEraseComplete ok s
  -- supply, receiver, encoder
  | .supplyReading mv => Sys2Proof.Machine.execSupplyReading mv s
  | .syncByteReceived x => Sys2Proof.Machine.execSyncByteReceived x s
  | .encoderEdge p step => Sys2Proof.Machine.execEncoderEdge p step s

end Sys2Proof.Machine
end

