-- ==== Sys2Proof/Safety.lean ====
section
/-! DEFINITION. The words the claims are made in: what a sound Link Unit is (R3, R8 to R11, R14), what it means that a
request waits for its owner, and the state in which its response has been handed over. -/

namespace Sys2Proof.Machine

/-- The bounds of R8 to R11 on a Link Unit's records: at most eight entries with distinct tags (and distinct serials of
the model, each below the next), at most 4 refusals, at most 16 notices, a drop count of at most 255. -/
structure LinkUnit.Bounded (u : LinkUnit) : Prop where
  entries : u.table.length ≤ 8
  tags : (u.table.map (fun e => e.tag)).Nodup
  serials : (u.table.map (fun e => e.serial)).Nodup
  fresh : ∀ e ∈ u.table, e.serial < u.nextSerial
  refusals : u.refusals ≤ 4
  notices : u.notices.length ≤ 16
  drops : u.drops ≤ 255

/-- A DOWN link holds nothing: no entry, nothing ready, no notice, no drop, nothing in transmission, and its receiver
hunts (R3, R14). -/
def LinkUnit.DownEmpty (u : LinkUnit) : Prop :=
  u.up = false → u.table = [] ∧ u.ready = [] ∧ u.notices = [] ∧ u.drops = 0 ∧ u.tx = none ∧ u.receiver = .hunting

/-- The invariant of the two Link Units. -/
def State.LinksSound (s : State) : Prop := ∀ l, (s.link l).Bounded ∧ (s.link l).DownEmpty

/-- The request `code` with body `b` waits for its owner block on link `l` under TAG `tag`, in a state whose Link Units
are sound. -/
structure State.Waits (s : State) (l : Link) (tag : Byte) (code : ReqCode) (serial : Nat) (b : List Byte) : Prop where
  sound : s.LinksSound
  routed : (s.link l).routed tag code = some (serial, b)

/-- The Link Unit with the response to the entry `serial` handed over: the entry stays and the response is ready,
behind all that was ready before (R8, R12). -/
def LinkUnit.answered (u : LinkUnit) (tag : Byte) (code : ReqCode) (serial : Nat) (j : Judgement) (body : List Byte) :
    LinkUnit :=
  { u with
    table := u.table.map (fun e => if e.serial = serial then { e with stage := .answered } else e)
    ready := u.ready ++ [.response serial tag code j body] }

/-- The state with one response handed over and nothing else changed. -/
def State.answered (s : State) (l : Link) (tag : Byte) (code : ReqCode) (serial : Nat) (j : Judgement)
    (body : List Byte) : State :=
  s.setLink l ((s.link l).answered tag code serial j body)

/-- The state with one entry in its owner's hands and nothing else changed: its response comes later. -/
def State.taken (s : State) (l : Link) (serial : Nat) : State := s.setLink l ((s.link l).take serial)

/-! ### The checks that requests share (R33) and the notices that ends raise (R43, R49) -/

/-- Checks 1 to 3 of R33 on a port field `n` and a generation field `g`, for ports A to F. -/
def State.portGuard (s : State) (n g : Nat) : List (Bool × Judgement) :=
  [(decide (5 < n), .portError), (decide ((s.port (portOf n)).state ≠ .active), .portError),
    (decide (g ≠ 0 ∧ g ≠ (s.port (portOf n)).generation), .deviceMismatch)]

/-- The same where the request accepts port I, which is ACTIVE with generation 1 once the hub is READY (R40). -/
def State.chanGuard (s : State) (n g : Nat) : List (Bool × Judgement) :=
  if n = 6 then [(decide (s.hub.state ≠ .ready), .portError), (decide (g ≠ 0 ∧ g ≠ 1), .deviceMismatch)]
  else s.portGuard n g

/-- The holder of a channel's port is the link that did not send the request (R35). -/
def State.otherHolds (s : State) (l : Link) (p : Port) : Bool :=
  decide ((s.port p).holder ≠ none ∧ (s.port p).holder ≠ some l)

/-- Notices handed over one after another. -/
def State.notifyAll (s : State) (xs : List (Link × NoticeBody)) : State := xs.foldl (fun t x => t.notify x.1 x.2) s

/-- A channel outside any pair, with no command of a pair on it. -/
def State.Unpaired (s : State) (p : Port) : Prop :=
  (s.motor p).pair = none ∧ (∀ c, (s.motor p).active = some c → c.pair = none) ∧
    (∀ c ∈ (s.motor p).waiting, c.pair = none)

/-- The MOTION DONE notice of one command of an unpaired port, with its final error (R49). -/
def State.doneNotice (s : State) (p : Port) (o : EndOutcome) (c : Command) (error : Int) : Link × NoticeBody :=
  (c.link, .motionDone p none c.number o (((s.motor p).position * 360).tdiv (s.cpr p)) error none)

/-- The final error of the active command of an unpaired port (R49). -/
def Motor.errorAtEnd (m : Motor) (c : Command) : Int :=
  match c.kind with
  | .duty => 0
  | .speed => m.profile.pRef.tdiv 1000 - m.position
  | .time => m.profile.pRef.tdiv 1000 - m.position
  | .degrees => m.profile.target - m.position
  | .position => m.profile.target - m.position

/-- The MOTION DONE notices when every command of an unpaired port ends with one outcome: the active command first, then
the waiting commands oldest first (R43). -/
def State.endings (s : State) (p : Port) (o : EndOutcome) : List (Link × NoticeBody) :=
  ((s.motor p).active.toList.map (fun c => s.doneNotice p o c ((s.motor p).errorAtEnd c))) ++
    (s.motor p).waiting.map (fun c => s.doneNotice p o c 0)

/-- The channel with no command left, in the state an end action names; a HOLD holds at `target` (R50, R72). -/
def Motor.ended (m : Motor) (e : EndAction) (target : Int) : Motor :=
  let stopped := fun (st : ChanState) =>
    { m with
      state := st, active := none, waiting := [], duty := 0, integral := 0, stallTimer := 0, holdTarget := none
      profile := { m.profile with
        v := 0, pRef := m.position * 1000, settling := false, rampDown := false, phase := .idle, prevU := 0 } }
  match e with
  | .coast => stopped .free
  | .brake => stopped .braked
  | .hold => { m with
      state := .holding, active := none, waiting := [], stallTimer := 0, holdTarget := some target
      profile := { m.profile with
        v := 0, pRef := target * 1000, settling := false, rampDown := false, phase := .hold } }

/-- The final error of a pair's active command on one of its ports (R49, R78); the follower of a DEGREES command that is
not in SETTLE yet has no target, and its error is a free value (notes/assumptions/17). -/
def Motor.pairErrorAtEnd (m : Motor) (c : Command) (leads : Prop) [Decidable leads] : Int :=
  if c.kind = .degrees ∧ ¬ leads ∧ m.profile.settling = false then Config.followerError m.profile.pRef m.position
  else m.errorAtEnd c

/-- The MOTION DONE notice of one command of pair `k`, with the final errors of its two ports (R49). -/
def State.pairNotice (s : State) (k : Nat) (q : Pair) (o : EndOutcome) (c : Command) (first second : Int) :
    Link × NoticeBody :=
  let degrees := fun p => ((s.motor p).position * 360).tdiv (s.cpr p)
  (c.link, .motionDone q.first (some k) c.number o (degrees q.first) first (some (degrees q.second, second)))

/-- The MOTION DONE notice of the active command `c` of pair `k`: the lead is the port of the larger clamped speed, the
first port on a tie (R76). -/
def State.pairEnd (s : State) (k : Nat) (q : Pair) (o : EndOutcome) (c : Command) : Link × NoticeBody :=
  s.pairNotice k q o c ((s.motor q.first).pairErrorAtEnd c (c.speedB.natAbs ≤ c.speed.natAbs))
    ((s.motor q.second).pairErrorAtEnd c (c.speed.natAbs < c.speedB.natAbs))

/-- The MOTION DONE notices when every command of pair `k` ends with one outcome, the active command first, then the
waiting commands oldest first (R43, R57). -/
def State.pairEndings (s : State) (k : Nat) (q : Pair) (o : EndOutcome) : List (Link × NoticeBody) :=
  ((s.motor q.first).active.toList.map (fun c => s.pairEnd k q o c)) ++
    (s.motor q.first).waiting.map (fun c => s.pairNotice k q o c 0 0)

/-- Pair `k` binds the ports of `q` and its commands stand with its first port (R56, R57). -/
structure State.Bound (s : State) (k : Nat) (q : Pair) : Prop where
  entry : s.pair k = some q
  ports : q.first ≠ q.second
  pair : (s.motor q.first).pair = some k ∧ (s.motor q.second).pair = some k
  second : (s.motor q.second).active = none ∧ (s.motor q.second).waiting = []
  commands : ∀ c, c ∈ (s.motor q.first).active.toList ++ (s.motor q.first).waiting → c.pair = some k

/-- Both channels of a pair after a HALT has ended its commands (R50, R52). -/
def State.pairStopped (s : State) (q : Pair) (e : EndAction) : State :=
  (s.setMotor q.first ((s.motor q.first).ended e (s.motor q.first).position)).setMotor q.second
    ((s.motor q.second).ended e (s.motor q.second).position)

/-- Both links' watches after the channel of port `p` disarms them for a reason (R109). -/
def State.DisarmedOn (s t : State) (p : Port) (why : DisarmReason) : Prop :=
  ∀ l k, k ≤ 7 → t.watch l k = (s.watch l k).map (fun w =>
    if w.chan = .port p then { w with state := .disarmed, progress := 0, reason := some why } else w)

/-- How port `p` stands to the pair table: outside any pair, or bound with its commands in pair `k` by `q` (R56). -/
def State.Binding (s : State) (p : Port) : Option (Nat × Pair) → Prop
  | none => s.Unpaired p
  | some (k, q) => s.Bound k q ∧ (p = q.first ∨ p = q.second)

/-- The MOTION DONE notices when every command of port `p`, or of the pair it is bound in, ends with one outcome. -/
def State.boundEndings (s : State) (p : Port) (o : EndOutcome) : Option (Nat × Pair) → List (Link × NoticeBody)
  | none => s.endings p o
  | some (k, q) => s.pairEndings k q o

/-- Port `p`, bound as `bound` says, has left ACTIVE (R31): it has no holder, modes, source interval or device and its
generation and counts stand; its channel is FREE without commands and keeps the rest of its record (R41); a pair it was
bound in is dissolved, the partner FREE and coasting with its port as it was (R58, R59); both links' views of it have
restarted with cleared outputs (R93), and both links' watches on it are DISARMED for DEPARTED (R109). No other port,
channel, pair or view differs. -/
structure State.Departed (s t : State) (p : Port) (bound : Option (Nat × Pair)) : Prop where
  holder : (t.port p).holder = none
  pending : (t.port p).pendingMode = none
  mode : (t.port p).mode = none
  interval : (t.port p).interval = none
  device : (t.port p).device = none
  generation : (t.port p).generation = (s.port p).generation
  motor : t.motor p = { s.motor p with
    state := .free, duty := 0, active := none, waiting := [], integral := 0, holdTarget := none, pair := none
    profile := { (s.motor p).profile with phase := .idle } }
  partner : ∀ k q, bound = some (k, q) → ∀ y, (y = q.first ∨ y = q.second) → y ≠ p →
    t.motor y = { (s.motor y).ended .coast 0 with pair := none }
  pairs : t.pairs = match bound with
    | none => s.pairs
    | some (k, _) => s.pairs.set none k none
  views : ∀ l, t.view l (.port p) = { s.view l (.port p) with
    filters := List.replicate 8 ⟨0, 0, false⟩, counter := 0, fresh := false, output := ⟨[0], 0, 0, [false], none, none⟩ }
  watches : s.DisarmedOn t p .departed
  ports : ∀ y, y ≠ p → t.port y = s.port y
  motors : ∀ y, y ≠ p → (∀ k q, bound = some (k, q) → y ≠ q.first ∧ y ≠ q.second) → t.motor y = s.motor y
  channels : ∀ l c, c ≠ .port p → t.view l c = s.view l c
  rest : t = { s with
    pins := t.pins, links := t.links, ports := t.ports, motors := t.motors, pairs := t.pairs, views := t.views
    watches := t.watches }

/-- The links after a departure of the port `p` that is told by the notice `x`: PORT CHANGED to both UP links, PORT ERROR
to a SELECT MODE that waits, and MOTION DONE REMOVED for every command of the port or of its pair (R19, R31, R58, R59),
in this order (notes/assumptions/14). -/
def State.departing (s : State) (p : Port) (bound : Option (Nat × Pair)) (x : NoticeBody) : State :=
  let told := s.notifyBoth x
  (match (s.port p).pendingMode with
    | none => told
    | some w => told.refuse w.ticket .portError).notifyAll (s.boundEndings p .removed bound)

/-- Pair `k` dissolved with its commands ended: both channels FREE and coasting without a pair, the entry free (R58). -/
def State.pairFreed (s : State) (k : Nat) (q : Pair) : State :=
  ((s.setMotor q.first { (s.motor q.first).ended .coast 0 with pair := none }).setMotor q.second
    { (s.motor q.second).ended .coast 0 with pair := none }).setPair k none

/-! ### A sample through the views (R86 to R89, R107) -/

/-- The value `x` at index `k` of a channel's sample, with its clipped flag, through stages 1 to 3 of R86: the offset and
the filter step, each saturated at 2,147,483,647, and on port I the view's own range. The stepped filter state, the value
and its flag. -/
def View.passed (v : View) (internal : Bool) (k : Nat) (x : Int) (clipped : Bool) : FilterState × Int × Bool :=
  let limit := fun (r y : Int) => max (-r) (min r y)
  let wide := limit 2147483647
  let offset := x + v.offsets.getD k 0
  let f := (v.filters.getD k ⟨0, 0, false⟩).step v.filter v.strength (wide offset)
  let range : Int := if k < 3 then v.accelRange else 10 * (v.gyroRange : Int)
  let value := if internal then limit range (wide f.2) else wide f.2
  (f.1, value, clipped || decide (offset ≠ wide offset ∨ f.2 ≠ wide f.2 ∨ wide f.2 ≠ value))

/-- The divisor of R88 at a source interval in µs. -/
def View.every (v : View) (source : Nat) : Nat := max 1 (v.interval * 1000 / source)

/-- The next sample is an output of the view: its decimation counter is 0, or has reached the divisor since (R88). -/
def View.due (v : View) (source : Nat) : Bool := decide (v.counter = 0 ∨ v.every source ≤ v.counter)

/-- The view that is on after it has taken the sample `x` (R86, R88, R89): every filter has stepped and the counter has
counted on; only an output sets the output, with `stamp`, and the fresh flag. -/
def View.taken (v : View) (internal : Bool) (x : Sample) (stamp : Option Stamp) : View :=
  let one := fun (k : Nat) => v.passed internal k (x.values.getD k 0) (x.clipped.getD k false)
  let indices := List.range x.values.length
  let n := if v.due x.interval then 1 else v.counter + 1
  let counted : View := { v with
    filters := indices.map (fun k => (one k).1) ++ v.filters.drop x.values.length
    counter := if v.every x.interval ≤ n then 0 else n }
  if v.due x.interval then { counted with
    output := ⟨indices.map (fun k => (one k).2.1), nextNumber v.output.sequence, x.time,
      indices.map (fun k => (one k).2.2), x.mode, stamp⟩
    fresh := true }
  else counted

/-- The stamp of a port at this moment (R89): phase and motion number of a channel that runs a command, its own or its
pair's, HOLD of a holding one, else IDLE. -/
def State.stamped (s : State) (p : Port) : Stamp :=
  let m := s.motor p
  let kind : Option DeviceClass := (s.port p).device.map (fun d => d.kind)
  let motor := (s.port p).state = .active ∧ (kind = some .motor ∨ kind = some .plainMotor ∨ kind = some .lamp)
  let command := match m.pair.bind s.pair with
    | some q => (s.motor q.first).active
    | none => m.active
  if motor ∧ m.state = .running then ⟨(command.map (fun c => c.number)).getD 0, m.profile.phase⟩
  else if motor ∧ m.state = .holding then ⟨0, .hold⟩
  else ⟨0, .idle⟩

/-- One link's view of channel `c` has taken the sample record that stands: a view that is off does nothing; an output
meets the link's slots 0 to 7 in this order, and a sample that is no output meets none (R86, R107; what one slot does is
`State.evalWatch`, in WatchesFire). -/
def State.viewTaken (s : State) (l : Link) (c : Chan) : State :=
  let v := s.view l c
  let x := s.sample c
  let t := s.setView l c (v.taken (decide (c = .internal)) x (v.stampPort.map s.stamped))
  if v.interval = 0 then s
  else if v.due x.interval then [0, 1, 2, 3, 4, 5, 6, 7].foldl (fun u k => u.evalWatch l c k) t
  else t

/-- The channel `c` has taken the sample `x` and nothing else has happened: the record stands (R79), and PL's view of the
channel has taken it, then TL's (R86; the order is notes/assumptions/14). -/
def State.sampleTaken (s : State) (c : Chan) (x : Sample) : State := ((s.setSample c x).viewTaken .pl c).viewTaken .tl c

/-! ### One control period of a pair that runs a command (R65, R71, R75 to R78) -/

/-- One settle test of a motor of a pair: a motor that has settled stays settled, and the settle timer counts (R71,
R78). -/
def Motor.settles (m : Motor) : Motor :=
  let q := m.profile
  { m with profile := { q with
    settleTimer := q.settleTimer + 1
    inTol := if 3 ≤ q.inTol then q.inTol else if ((m.position - q.target).natAbs : Int) ≤ q.tol then q.inTol + 1 else 0 } }

/-- Stage 2 of a pair that runs `c`, on the lead `x` and the follower `y`: what it leaves of the two, and whether the
command ends DONE. In SETTLE each makes its settle test, and the command ends with both settled or with 80 periods on the
timer they share (R71, R78); before, the profile is held while an error is beyond the lag limit (R77), and else the lead
takes its step and the follower's reference is scaled from it (R76). -/
def Command.pairStage (c : Command) (q : Pair) (x y : Motor) : Motor × Motor × Bool :=
  let bounded := c.kind = .degrees ∨ c.kind = .position
  let firstLeads := c.speedB.natAbs ≤ c.speed.natAbs
  let sl := if firstLeads then c.speed else c.speedB
  let sf := if firstLeads then c.speedB else c.speed
  let lags := fun (m : Motor) => q.lagLimit < (m.profile.pRef.tdiv 1000 - m.position).natAbs
  let timed : Profile := if c.kind = .time then { x.profile with
      elapsed := x.profile.elapsed + 1
      rampDown := x.profile.rampDown || decide ((c.amount.toNat + 4) / 5 < x.profile.elapsed + 1) }
    else x.profile
  let stepped := if bounded then timed.boundedAdvance
    else if c.kind = .time ∧ timed.rampDown = true then timed.rampDownAdvance else timed.speedAdvance
  let reference := max (-2000000000000) (min 2000000000000 (y.profile.start +
    (if sl = 0 then 0 else ((stepped.pRef - stepped.start) * sf).tdiv sl)))
  if x.profile.settling = true then
    (x.settles, y.settles, decide (bounded ∧ ((3 ≤ x.settles.profile.inTol ∧ 3 ≤ y.settles.profile.inTol) ∨
      80 ≤ x.settles.profile.settleTimer)))
  else if (lags x ∨ lags y) ∧ (bounded ∨ x.profile.v ≠ 0) then ({ x with profile := timed }, y, false)
  else ({ x with profile := stepped },
    { y with profile := if stepped.settling = true then { y.profile with
        pRef := reference.tdiv 1000 * 1000, target := reference.tdiv 1000, v := 0, phase := .settle, settling := true
        inTol := 0, settleTimer := 0 }
      else { y.profile with
        pRef := reference, v := if sl = 0 then 0 else (stepped.v * sf).tdiv sl, phase := stepped.phase } },
    decide (c.kind = .time ∧ stepped.rampDown = true ∧ stepped.v = 0))

/-- The channels of a pair's first and second port once its command `c` has ended: the oldest waiting command starts on
both, or the end action applies, a HOLD at the target given for each (R49, R51, R57, R66, R76). -/
def Command.pairNext (c : Command) (part : MotorPart) (origin : StartFrom) (first second : Motor) (one two : Int) :
    Motor × Motor :=
  match first.waiting with
  | [] => (first.ended c.endAction one, second.ended c.endAction two)
  | next :: rest =>
    let m := { first with waiting := rest }
    let firstLeads := next.speedB.natAbs ≤ next.speed.natAbs
    let lead := (if firstLeads then m else second).startEncoder part next origin
    let follower := (if firstLeads then second else m).startFollower part origin lead.profile
    ({ (if firstLeads then lead else follower) with active := some next },
      { (if firstLeads then follower else lead) with active := none })

/-- The device record part of PORT INFO as section 1.9 lays it out, from offset 23. -/
def DeviceRecord.fields (d : DeviceRecord) : List Byte :=
  let bit := fun (b : Bool) (n : Nat) => if b then n else 0
  e8 (match d.kind with | .sensor => 0 | .motor => 1 | .plainMotor => 2 | .lamp => 3 | .internal => 4) ++
    e16 d.typeNumber ++ e32 d.serial ++
    e8 (bit d.speeds.b2400 1 + bit d.speeds.b9600 2 + bit d.speeds.b57600 4 + bit d.speeds.b115200 8 +
      bit d.speeds.b460800 16) ++ e16 d.supplyDemand ++
    (match d.motor with
      | none => List.replicate 6 0#8
      | some m => [1#8] ++ e16 m.cpr ++ e16 m.maxSpeed ++ e8 m.size) ++
    e8 d.modes.length ++
    (d.modes.map (fun m => e8 m.name ++ e8 m.count ++ e8 m.format ++ es32 m.rawMin ++ es32 m.rawMax ++ es32 m.scaledMin ++
      es32 m.scaledMax ++ e8 m.unit ++ e16 m.minInterval)).flatten

/-! ### Sounds (R123 to R125, R133) and lookups (R139) -/

/-- The number `n` follows the sound-number counter, passing from 65,535 to 1 and over numbers that present entries hold:
with at most 8 sounds waiting it is the first that none of them holds (R123). -/
def State.NumberedBy (s : State) (n : Nat) : Prop :=
  let held := s.sounds.map (fun x => x.number)
  let first := nextNumber s.sound.counter
  1 ≤ n ∧ n ≤ 65535 ∧ (first ∉ held → n = first) ∧ (first ∈ held → nextNumber first ∉ held → n = nextNumber first) ∧
    (s.sound.queue.length ≤ 8 → n ∉ held ∧ ∃ j, n = nextNumber^[j] first ∧ ∀ i < j, nextNumber^[i] first ∈ held)

/-- The voice record of a sound that has just taken its voice: a TONE plays; a CLIP primes for 1,600 output samples with
both buffers empty and a refill asked for the page of its read position (R124, R129). -/
def Voice.JustTaken (y : Voice) (x : Sound) (order : Nat) : Prop :=
  y.sound = x ∧ y.order = order ∧ y.buffer0 = none ∧ y.buffer1 = none ∧ y.again = none ∧
  match x.part with
  | .tone .. => y.stage = .playing ∧ y.refill = none
  | .clip _ _ _ _ _ _ _ _ _ pos =>
    y.stage = .priming ∧ y.timer = 1600 ∧ y.refill.map (fun r => (r.page, r.flashPage)) = some (pos / 2048, pos / 2048 % 64)

/-- The refill outstanding for a voice record once it has asked for what it needs: the one it waits for already, else the
page that `Voice.wants` names, for its buffer and from its physical place (R129, R131). -/
def State.refillOf (s : State) (y : Voice) : Option Refill :=
  match y.sound.part, y.refill, y.wants with
  | .clip _ h serial .., none, some (second, page) =>
    some ⟨second, page, (s.clipPlace h serial page).1, (s.clipPlace h serial page).2⟩
  | _, r, _ => r

/-- The three placements of R124: the voice the accepted sound has taken, if any, and the notices of the sound it
stole from. -/
def State.Placed (s t : State) (x : Sound) (out : Option VoiceId) (gone : List (Link × NoticeBody)) : Prop :=
  let takes := fun (v : VoiceId) =>
    out = some v ∧ (∃ y, t.voice v = some y ∧ y.JustTaken x s.sound.nextOrder) ∧ (∀ w, w ≠ v → t.voice w = s.voice w) ∧
      t.sound.queue = s.sound.queue ∧ t.sound.nextOrder = s.sound.nextOrder + 1
  (∃ v, s.voice v = none ∧ (∀ w, voiceCode w < voiceCode v → s.voice w ≠ none) ∧ takes v ∧ gone = []) ∨
  (∃ v y, (∀ w, s.voice w ≠ none) ∧ s.voice v = some y ∧ y.sound.priority < x.priority ∧
    (∀ w z, s.voice w = some z → y.sound.priority < z.sound.priority ∨
      (y.sound.priority = z.sound.priority ∧ y.order ≤ z.order)) ∧
    takes v ∧ gone = [(y.sound.link, soundNotice y.sound .preempted (some v))]) ∨
  ((∀ w, ∃ z, s.voice w = some z ∧ x.priority ≤ z.sound.priority) ∧ out = none ∧ gone = [] ∧
    (∀ w, t.voice w = s.voice w) ∧ t.sound.nextOrder = s.sound.nextOrder ∧
    t.sound.queue = s.sound.queue.takeWhile (fun z => decide (x.priority ≤ z.priority)) ++
      x :: s.sound.queue.dropWhile (fun z => decide (x.priority ≤ z.priority)))

/-- Only the Sound Unit, the links, the Asset Map and the Media Controller differ. -/
def State.SoundOnly (s t : State) : Prop :=
  t = { s with sound := t.sound, links := t.links, assets := t.assets, media := t.media }

/-- The pin of the ended sound `x`, if it is a CLIP, has been dropped and nothing else of the Asset Map differs (R143):
its version, current or retired, has one pin fewer, and a retired version with no pin left leaves the list with its
blocks FREE-DIRTY. A refresh of such a block, which no run has (VersionsStayAgreed), is left out. -/
def State.PinDropped (s t : State) (x : Sound) : Prop :=
  match x.part with
  | .tone .. => t.assets = s.assets ∧ ∀ b, t.block b = s.block b
  | .clip _ h serial .. =>
    let list := s.assets.retired.map (fun r => if r.holder = h ∧ r.version.serial = serial
      then { r with version := { r.version with pins := r.version.pins - 1 } } else r)
    let gone := ((list.filter (fun r => decide (r.version.pins = 0))).map (fun r => versionBlocks r.version.image)).flatten
    (∀ V, (s.entry h).content = .present V → V.serial = serial →
      t.entry h = { s.entry h with content := .present { V with pins := V.pins - 1 } } ∧
      (∀ n, n ≠ h → t.entry n = s.entry n) ∧
      t.assets = { s.assets with directory := t.assets.directory } ∧ ∀ b, t.block b = s.block b) ∧
    ((∀ V, (s.entry h).content = .present V → V.serial ≠ serial) →
      t.assets = { s.assets with retired := list.filter (fun r => decide (r.version.pins ≠ 0)) } ∧
      ((∀ r, s.media.refresh = some r → r.old ∉ gone) →
        ∀ b, t.block b = { s.block b with state := if b ∈ gone then .freeDirty else (s.block b).state }))

/-- The pins of the ended sounds of a list have been dropped one after another (R133, R143). -/
def State.PinsDropped : State → State → List Sound → Prop
  | s, t, [] => t.assets = s.assets ∧ ∀ b, t.block b = s.block b
  | s, t, x :: xs => ∃ u : State, u.media.refresh = s.media.refresh ∧ s.PinDropped u x ∧ u.PinsDropped t xs

/-- A refresh under way copies a LIVE block that no retired version holds, as VersionsAgree has it of the LIVE block. -/
def State.RefreshLive (s : State) : Prop :=
  ∀ r, s.media.refresh = some r → (s.block r.old).state = .live ∧
    ∀ x ∈ s.assets.retired, r.old ∉ versionBlocks x.version.image

/-- The entry `x` of a voice has ended: its SOUND DONE has been handed over, no flash operation works for it, a CLIP's pin
has been dropped, and the queue head, if any, has taken the voice (R133). -/
def State.SoundEnded (s t : State) (v : VoiceId) (x : Sound) (o : EndOutcome) : Prop :=
  t.links = (s.notify x.link (soundNotice x o (some v))).links ∧
  (t.voice v).map (fun y => y.sound) = s.sound.queue.head? ∧ t.sound.queue = s.sound.queue.tail ∧
  (∀ w, w ≠ v → t.voice w = s.voice w) ∧ (∀ f, t.media.op = some f → f.work ≠ .refill v) ∧ s.SoundOnly t ∧
  s.PinDropped t x

/-- The refresh `x` has been abandoned (R154): its steps are withdrawn, its destination is in the state `left`, and neither
block is listed. -/
structure State.RefreshDropped (s t : State) (x : RefreshCopy) (left : BlockState) : Prop where
  refresh : t.media.refresh = none
  blocks : ∀ j, t.block j = { s.block j with state := if j = x.dest then left else (s.block j).state }
  list : t.media.refreshList = s.media.refreshList.filter (fun i => decide (i.block ≠ x.old) && decide (i.block ≠ x.dest))
  steps : ∀ o ∈ t.media.class4, o.refreshes = false
  records : t.media.records = s.media.records.filter (fun r => !(decide (r.asker = .remap) && !r.begun))
  rest : t = { s with media := t.media }

/-- The asset number `n` reaches the PRESENT entry `h` with current version `v`: its own, or that of its alias target,
followed once (R139). -/
def State.Reaches (s : State) (n h : Nat) (v : Version) : Prop :=
  ((s.entry n).content = .present v ∧ h = n) ∨
    ((s.entry n).content = .aliasOf h ∧ (s.entry h).content = .present v)

/-- A lookup of logical block `k` of asset `n` in version `v` through a map cache: the cache after it, the physical block,
and whether it was a hit (R142). -/
def lookedUp (cache : List CacheEntry) (n : Nat) (v : VersionImage) (k : Nat) : List CacheEntry × Nat × Bool :=
  match cache.find? (fun c => decide (c.asset = n) && decide (c.logical = k)) with
  | some c => (c :: cache.filter (fun x => decide (¬ (x.asset = n ∧ x.logical = k))), c.block, true)
  | none =>
    let block := ((versionBlocks v)[k]?).getD 0
    (⟨n, k, block, decide (n ≤ 127)⟩ :: cache.take 15, block, false)

/-- The record of a PROBE PAGE of asset `n` that fails with judgement `j`, as section 1.9 lays it out (R150). -/
def State.failedProbe (s : State) (n : Nat) (j : Judgement) (flags : Nat) : List Byte :=
  let e := s.entry n
  let own := fun (k : Nat) => protectionCode (s.entry k).protection
  let small := decide (n ≤ 1023)
  e8 (judgementCode j) ++ e16 n ++ e16 (if small then (match e.content with | .aliasOf x => x | _ => 0xFFFF) else 0xFFFF) ++
    [0#8, 0#8, 0#8, 0#8, 0#8] ++
    e8 (if small then (match e.content with
      | .aliasOf x => match (s.entry x).content with | .present _ => max (own n) (own x) | _ => own n
      | _ => own n) else 0) ++
    e8 (if small = false ∨ e.content = .absent then 0 else (if e.changed then 1 else 0) + (if e.read then 2 else 0)) ++
    e8 flags

/-- The read or probe `j` has started again from its lookup (R146, R150): its waiting page reads are gone and one in
progress is for no one; the lookup in the directory and the cache of `s` fails and is answered, or the pages of the version
it finds now are asked in class 3 and the job stands last. -/
def State.ReadRestarted (s t : State) (j : ReadJob) : Prop :=
  let n := match j.purpose with | .asset a _ _ => a | .probe a _ => a
  let off := match j.purpose with | .asset _ o _ => o | .probe _ o => o
  let want := match j.purpose with | .asset _ _ c => c | .probe _ _ => 1
  let reads := fun (o : FlashOp) => match o.work with | .readJob tk _ => decide (tk = j.ticket) | _ => false
  let dropped : State := { s with
    assets := { s.assets with reads := s.assets.reads.filter (fun x => decide (x.ticket ≠ j.ticket)) }
    media := { s.media with
      op := s.media.op.map (fun o => if reads o then { o with work := .orphan } else o)
      class3 := s.media.class3.filter (fun o => !reads o) } }
  let fails := fun (why : Judgement) (flags : Nat) => t = (match j.purpose with
    | .asset _ _ _ => dropped.refuse j.ticket why
    | .probe _ _ => dropped.respond j.ticket why (s.failedProbe n why flags))
  ((∀ h V, ¬ s.Reaches n h V) → fails .noSuchAsset 0) ∧
  (∀ h V, s.Reaches n h V → V.image.length ≤ off → fails .parameterError (if h ≤ 127 then 2 else 0)) ∧
  (∀ h V, s.Reaches n h V → off < V.image.length → 1 ≤ want → want ≤ 512 →
    let count := min want (V.image.length - off)
    let first := off / 2048
    let last := (off + count - 1) / 2048
    let x := lookedUp s.assets.cache n V.image (first / 64)
    let y := lookedUp x.1 n V.image (last / 64)
    let pages : List ReadPage :=
      ⟨x.2.1, first % 64, none⟩ :: (if last = first then [] else [⟨y.2.1, last % 64, none⟩])
    t = { dropped with
      assets := { dropped.assets with
        cache := if last = first then x.1 else y.1
        reads := dropped.assets.reads ++ [⟨j.ticket, j.purpose, h, V.image.number, count, x.2.2, pages⟩] }
      media := { dropped.media with
        class3 := dropped.media.class3 ++ pages.mapIdx (fun i p =>
          (⟨.read, p.block, p.page, .readJob j.ticket i⟩ : FlashOp)) } })

/-- The reads and probes of a list have started again, one after another. -/
def State.ReadsRestarted : State → State → List ReadJob → Prop
  | s, t, [] => t = s
  | s, t, j :: rest => ∃ u : State, s.ReadRestarted u j ∧ u.ReadsRestarted t rest

/-! ### The COMMIT of a session (R158) -/

/-- A CLOSING session `y` whose programs have ended has gone on by R158 steps 2 and 3: the blocks beyond the first
ceil(bytes written / 131,072) have left the list, FREE-CLEAN where erased and else FREE-DIRTY, no erase waits for them,
and the COMMIT record with the maximal runs is handed over, the response to `tk` waiting on it. A refresh that copies a
reserved block, which no run has (VersionsStayAgreed), is left out. -/
def State.CommitHandedOver (s t : State) (y : Session) (tk : Ticket) : Prop :=
  let used := y.reserved.take ((y.written + 131071) / 131072)
  let unused := y.reserved.drop ((y.written + 131071) / 131072)
  ∃ extents : List (Nat × Nat),
    (extents.map (fun e => (List.range e.2).map (fun i => e.1 + i))).flatten = used ∧ (∀ e ∈ extents, 1 ≤ e.2) ∧
    (∀ (i : Nat) (e f : Nat × Nat), extents[i]? = some e → extents[i + 1]? = some f → e.1 + e.2 ≠ f.1) ∧
    t.media.session = some { y with
      closing := some ⟨tk, true⟩, reserved := used, unerased := y.unerased.filter (fun k => decide (k ∈ used)) } ∧
    (∀ o ∈ t.media.class2, ∀ k ∈ unused, o.work ≠ .sessionErase k) ∧ t = { s with media := t.media } ∧
    ((∀ r, s.media.refresh = some r → r.old ∉ y.reserved) →
      t.media.records = s.media.records ++ [⟨.commit y.asset ⟨nextNumber (s.entry y.asset).lastVersion, y.kind,
        y.format, y.written, extents⟩, .commit, false⟩] ∧
      ∀ k, t.block k = { s.block k with
        state := if k ∈ unused then (if k ∈ y.unerased then .freeDirty else .freeClean) else (s.block k).state })

/-! ### What every step keeps of the ports, the motors, the sounds and the store -/

/-- Ports, channels and pairs agree while RESET is not asserted: a port is held only while it is ACTIVE and by a link that
is UP (R34, R40); a MOTOR has a motor part and identification runs in IDENTIFYING alone (R24, R25); a channel outside a
pair is RUNNING exactly while it has an active command (R42); at most 4 commands wait, and none without an active one
(R43, R45); a command was issued by the holder of its port (R59) and names its channel's pair (R57); a pair entry 0 to 2 and its two ports name each other, both are
MOTORs held by the pair's link, and both channels are RUNNING exactly while the pair has an active command (R56, R57). -/
structure State.ChannelsAgree (s : State) : Prop where
  links : s.LinksSound
  held : ∀ p l, (s.port p).holder = some l → (s.port p).state = .active ∧ (s.link l).up = true
  heldI : ∀ l, s.holderI = some l → (s.link l).up = true
  device : ∀ p d, (s.port p).state ≠ .rejected → (s.port p).device = some d → d.kind = .motor → d.motor ≠ none
  stage : ∀ p, (s.port p).stage ≠ none → (s.port p).state = .identifying
  running : ∀ p, (s.motor p).pair = none → ((s.motor p).state = .running ↔ (s.motor p).active ≠ none)
  waiting : ∀ p, (s.motor p).waiting.length ≤ 4 ∧ ((s.motor p).active = none → (s.motor p).waiting = [])
  commands : ∀ p c, c ∈ (s.motor p).active.toList ++ (s.motor p).waiting →
    c.pair = (s.motor p).pair ∧ (s.port p).holder = some c.link
  pairs : ∀ k q, s.pair k = some q → k ≤ 2 ∧ s.Bound k q ∧ ∀ p, p = q.first ∨ p = q.second →
    (s.port p).holder = some q.holder ∧ (s.port p).device.map (fun d => d.kind) = some .motor ∧
      ((s.motor p).state = .running ↔ (s.motor q.first).active ≠ none)
  bound : ∀ p k, (s.motor p).pair = some k → ∃ q, s.pair k = some q ∧ (p = q.first ∨ p = q.second)

/-- Sounds and store agree: at most 8 sounds wait, none while a voice is FREE, in order of priority (R124, R125); a
retired version is pinned (R143), the store lock is held by a link that is UP (R140), the refresh list has at most 8
blocks (R153) and the map cache at most 16 entries (R142). -/
structure State.StoresAgree (s : State) : Prop where
  links : s.LinksSound
  queue : s.sound.queue.length ≤ 8
  waits : ∀ v, s.voice v = none → s.sound.queue = []
  order : s.sound.queue.Pairwise (fun x y => y.priority ≤ x.priority)
  pinned : ∀ r ∈ s.assets.retired, 0 < r.version.pins
  lock : s.hub.held = false → ∀ l, s.assets.lock = some l → (s.link l).up = true
  refreshes : s.media.refreshList.length ≤ 8
  cache : s.assets.cache.length ≤ 16

/-! ### Versions, their pins, their blocks and the cache (R142, R143, R151) -/

/-- Whether a sound plays the version committed to asset `h` under `serial`. -/
def Sound.plays (h serial : Nat) (x : Sound) : Bool :=
  match x.part with
  | .tone .. => false
  | .clip _ h' serial' .. => decide (h' = h) && decide (serial' = serial)

/-- The number of present sounds that reference a version (R143). -/
def State.plays (s : State) (h serial : Nat) : Nat := (s.sounds.filter (Sound.plays h serial)).length

/-- Whether a pending record is a COMMIT. -/
def PendingRecord.commits (r : PendingRecord) : Bool := decide (r.asker = .commit)

/-- Versions, sounds, cache and block table agree. A version's pin count is the number of sounds that reference it, every
CLIP sound references one version, current or retired, and the retired list holds none twice (R143); sound numbers differ
(R123). Every cache entry yields the block of a directory walk for its key, no two have one key, and its flag tells a
factory number (R142). A block is LIVE only in a current user version, RETIRED only in a retired one, and SESSION only in
the session's reservation (R151); a session commits exactly its reserved blocks (R158); a listed block is LIVE, and so is
the old block of a refresh, which is not its destination (R153, R154). Before READY nothing of all this has begun (R166).
Versions are told apart by the model's serial of their commit (notes/assumptions/22). -/
structure State.VersionsAgree (s : State) : Prop where
  stores : s.StoresAgree
  directory : s.assets.directory.wf .absent = true
  numbers : (s.sounds.map (fun x => x.number)).Nodup
  current : ∀ h V, (s.entry h).content = .present V →
    V.pins = s.plays h V.serial ∧ V.serial ≤ s.assets.commits ∧ ∀ b ∈ versionBlocks V.image, b < 1024
  retired : ∀ r ∈ s.assets.retired, r.version.pins = s.plays r.holder r.version.serial ∧
    r.version.serial ≤ s.assets.commits ∧ (∀ b ∈ versionBlocks r.version.image, b < 1024) ∧
    ∀ V, (s.entry r.holder).content = .present V → V.serial ≠ r.version.serial
  once : (s.assets.retired.map (fun r => (r.holder, r.version.serial))).Nodup
  sounds : ∀ x ∈ s.sounds, ∀ h serial, x.plays h serial = true →
    (∃ V, (s.entry h).content = .present V ∧ V.serial = serial) ∨
      ∃ r ∈ s.assets.retired, r.holder = h ∧ r.version.serial = serial
  cached : ∀ e ∈ s.assets.cache, e.factory = decide (e.asset ≤ 127) ∧
    ∃ h V, s.Reaches e.asset h V ∧ e.block = ((versionBlocks V.image)[e.logical]?).getD 0
  keys : (s.assets.cache.map (fun e => (e.asset, e.logical))).Nodup
  factory : ∀ n, n ≤ 127 → ∀ target, (s.entry n).content ≠ .aliasOf target
  change : ∀ c, s.assets.change = some c →
    (∀ n, c.record = .delete n → 128 ≤ n) ∧ ∀ n target, c.record = .redirect n target → 128 ≤ n
  live : ∀ b, (s.block b).state = .live → ∃ h V, 128 ≤ h ∧ (s.entry h).content = .present V ∧ b ∈ versionBlocks V.image
  retiredBlocks : ∀ b, (s.block b).state = .retired → ∃ r ∈ s.assets.retired, b ∈ versionBlocks r.version.image
  sessionBlocks : ∀ b, (s.block b).state = .session → ∃ x, s.media.session = some x ∧ b ∈ x.reserved
  session : ∀ x, s.media.session = some x → 128 ≤ x.asset ∧ ∀ b ∈ x.reserved, b < 1024
  commits : ∀ r ∈ s.media.records, r.asker = .commit → ∃ x c v, s.media.session = some x ∧ x.closing = some c ∧
    c.committing = true ∧ r.record = .commit x.asset v ∧ versionBlocks v = x.reserved
  commit : (s.media.records.filter PendingRecord.commits).length ≤ 1
  refreshing : ∀ r, s.media.refresh = some r → (s.block r.old).state = .live ∧ r.dest ≠ r.old ∧ r.dest < 1024
  listed : ∀ i ∈ s.media.refreshList, (s.block i.block).state = .live
  starting : s.hub.state ≠ .ready → s.sounds = [] ∧
    s.assets = { AssetMap.reset with directory := s.assets.directory } ∧
    s.media = { Media.reset with
      blocks := s.media.blocks, store := s.media.store, ring := s.media.ring, sequence := s.media.sequence
      pagesUsed := s.media.pagesUsed, mustCompact := s.media.mustCompact } ∧
    ∀ l, ∀ e ∈ (s.link l).table, e.code = .hubStatus

end Sys2Proof.Machine
end

