-- ==== Sys2Proof/Certificates/Slice0/Obligations.lean ====
section
/-! DEFINITION. The statements for the provers, chapter by chapter. -/

open Sys2Proof Sys2Proof.Machine

/-! ### The step, the links and their frames (chapter 1) -/

/-- A step runs the command at the front of the queue on the state with the rest of the queue. The idle step is one millisecond of hub time, wrapping at 2³² (R166), which is the model’s choice (notes/assumptions/1). -/
def Obligations.StepRunsFrontCommand : Prop :=
  (∀ (c : Instr) (rest : List Instr) (s : State), s.pending = c :: rest → step s = exec c { s with pending := rest }) ∧
  (∀ s : State, s.pending = [] →
    (s.hub.held = false → step s = .next { s with hub := { s.hub with time := s.hub.time + 1 } }) ∧
    (s.hub.held = true → step s = .next s))

/-- R5: the check, its worked example, and its place at the end of a frame, low byte first. Section 1.8 (R16): the three tables whole. -/
def Obligations.CheckAndCodeTables : Prop :=
  crc16 [] = 0xFFFF#16 ∧
  (∀ (bs : List Byte) (b : Byte), crc16 (bs ++ [b]) = crcBit (crcBit (crcBit (crcBit (crcBit (crcBit (crcBit (crcBit
    (crc16 bs ^^^ ((b.setWidth 16) <<< 8)))))))))) ∧
  (∀ c : Word16, crcBit c = if c.msb then (c <<< 1) ^^^ 0x1021#16 else c <<< 1) ∧
  crc16 [0x31#8, 0x32#8, 0x33#8, 0x34#8, 0x35#8, 0x36#8, 0x37#8, 0x38#8, 0x39#8] = 0x29B1#16 ∧
  (∀ (kind tag code : Byte) (body : List Byte), frameBytes kind tag code body =
    [0xC3#8] ++ frameCore kind tag code body ++ [(crc16 (frameCore kind tag code body)).setWidth 8,
      (crc16 (frameCore kind tag code body) >>> 8).setWidth 8]) ∧
  (let table : List (Nat × ReqCode × Owner) := [
       (0x01, ReqCode.hubStatus, Owner.startUpControl), (0x02, .linkCounts, .linkUnit),
       (0x03, .hubReset, .startUpControl), (0x10, .portInfo, .portService), (0x11, .claimPort, .portService),
       (0x12, .releasePort, .portService), (0x13, .selectMode, .portService), (0x14, .portReset, .portService),
       (0x20, .move, .motionUnit), (0x21, .halt, .motionUnit), (0x22, .setZero, .motionUnit),
       (0x23, .setGains, .motionUnit), (0x24, .motorState, .motionUnit), (0x25, .pairBind, .motionUnit),
       (0x26, .pairUnbind, .motionUnit), (0x27, .pairMove, .motionUnit), (0x30, .viewSet, .sensingUnit),
       (0x31, .readValues, .sensingUnit), (0x32, .brickDetectSet, .detectorUnit), (0x33, .subscribe, .detectorUnit),
       (0x34, .watchSet, .detectorUnit), (0x35, .watchClear, .detectorUnit), (0x36, .watchState, .detectorUnit),
       (0x37, .brickState, .detectorUnit), (0x38, .rateSet, .reportScheduler), (0x39, .streamSet, .reportScheduler),
       (0x3A, .streamEnable, .reportScheduler), (0x40, .playTone, .soundUnit), (0x41, .playClip, .soundUnit),
       (0x42, .soundStop, .soundUnit), (0x43, .volumeSet, .soundUnit), (0x44, .soundState, .soundUnit),
       (0x50, .assetInfo, .assetMap), (0x51, .assetRead, .assetMap), (0x52, .writeOpen, .mediaController),
       (0x53, .writeChunk, .mediaController), (0x54, .writeClose, .mediaController),
       (0x55, .writeCancel, .mediaController), (0x56, .assetDelete, .assetMap), (0x57, .assetAlias, .assetMap),
       (0x58, .assetProtect, .assetMap), (0x59, .marksRead, .assetMap), (0x5A, .marksClear, .assetMap),
       (0x5B, .storeLock, .assetMap), (0x5C, .probePage, .assetMap), (0x5D, .storeState, .mediaController),
       (0x5E, .formatUser, .mediaController)]
   (∀ row ∈ table, reqOf (BitVec.ofNat 8 row.1) = some row.2.1 ∧ reqByte row.2.1 = row.1 ∧ row.2.1.owner = row.2.2) ∧
   (∀ c : ReqCode, c ∈ table.map (fun row => row.2.1)) ∧
   (∀ b : Byte, b.toNat ∉ table.map (fun row => row.1) → reqOf b = none) ∧
   [
       Judgement.normalCompletion, .portError, .deviceMismatch, .parameterError, .heldByOtherLink, .queueFull, .busy,
       .writeProtected, .noSuchAsset, .mediaError, .supplyLow, .tagInUse, .unknownRequest, .assetInUse, .notReady,
       .storeFull, .sequenceError, .deviceTimeout, .portPaired, .linkNotPermitted].map judgementCode =
     List.range 20 ∧
   [
       EndOutcome.done, .stalled, .stallEnd, .superseded, .halted, .removed, .supply, .preempted, .starved,
       .mediaError, .stopped, .released].map endOutcomeCode = List.range 12)

/-- R7 in its order, R8: admission, with its frame, the entry carrying the body to its owner block; R9: where each refusal goes. -/
def Obligations.RequestJudged : Prop :=
  (∀ (s : State) (l : Link) (tag code : Byte) (body : List Byte) (c : ReqCode),
     (s.link l).up = true → body.length ≤ 520 → (s.hub.state = .ready ∨ code = 1#8) →
     (∀ e ∈ (s.link l).table, e.tag ≠ tag) → reqOf code = some c → (s.link l).table.length < 8 →
     exec (.frameReceived l 1#8 tag code body (crc16 (frameCore 1#8 tag code body))) s =
       .next (s.setLink l { s.link l with
         receiver := .hunting
         counts := { (s.link l).counts with received := min 4294967295 ((s.link l).counts.received + 1) }
         table := (s.link l).table ++ [⟨tag, c, (s.link l).nextSerial, s.hub.time, .routed body⟩]
         nextSerial := (s.link l).nextSerial + 1 })) ∧
  (∀ (s : State) (l : Link) (tag code : Byte) (body : List Byte),
     (s.link l).up = true → body.length ≤ 520 →
     let u := s.link l
     let passes := s.hub.state = .ready ∨ code = 1#8
     let inUse := ∃ e ∈ u.table, e.tag = tag
     let received := { u.counts with received := min 4294967295 (u.counts.received + 1) }
     let dropped := { received with refusalDrops := min 4294967295 (u.counts.refusalDrops + 1) }
     let after := exec (.frameReceived l 1#8 tag code body (crc16 (frameCore 1#8 tag code body))) s
     (∀ j : Judgement,
       ((s.hub.state = .starting ∧ code ≠ 1#8 ∧ j = .notReady) ∨
         (passes ∧ inUse ∧ j = .tagInUse) ∨
         (passes ∧ ¬ inUse ∧ reqOf code = none ∧ j = .unknownRequest) ∨
         (passes ∧ ¬ inUse ∧ reqOf code ≠ none ∧ 8 ≤ u.table.length ∧ j = .queueFull)) →
       after = .next (s.setLink l (if (u.ready.filter Ready.isRefusal).length < 4
         then { u with receiver := .hunting, counts := received, ready := u.ready ++ [.refusal tag j] }
         else { u with receiver := .hunting, counts := dropped }))) ∧
     (s.hub.state = .failed → code ≠ 1#8 →
       after = .next (s.setLink l { u with receiver := .hunting, counts := dropped })))

/-- R4, R6, R2: what each receiver event counts, with its frame; R3: a DOWN receiver takes no bytes. SYNC BYTE RECEIVED carries every byte that ends no frame (notes/assumptions/66). A fragment ends once the gap is more than 20 ms; an earlier command first moves hub time there (notes/assumptions/2), which this statement leaves out. -/
def Obligations.ReceiverEvents : Prop :=
  ∀ (s : State) (l : Link),
    ((s.link l).up = true →
      (∀ b, (b = 0xC3#8 ∨ (s.link l).receiver ≠ .hunting) →
        exec (.syncByteReceived ⟨l, b⟩) s = .next (s.setLink l { s.link l with receiver := .inFrame s.hub.time })) ∧
      (∀ b, b ≠ 0xC3#8 → (s.link l).receiver = .hunting → exec (.syncByteReceived ⟨l, b⟩) s = .next s) ∧
      (∀ n : Word16, (n.toNat < 3 ∨ 523 < n.toNat) → exec (.overlength l n) s = .next (s.setLink l { s.link l with
        receiver := .hunting
        counts := { (s.link l).counts with overlength := min 4294967295 ((s.link l).counts.overlength + 1) } })) ∧
      (∀ (kind tag code : Byte) (body : List Byte) (check : Word16), body.length ≤ 520 →
        (check ≠ crc16 (frameCore kind tag code body) →
          exec (.frameReceived l kind tag code body check) s = .next (s.setLink l { s.link l with
            receiver := .hunting
            counts := { (s.link l).counts with
              checkErrors := min 4294967295 ((s.link l).counts.checkErrors + 1) } })) ∧
        (check = crc16 (frameCore kind tag code body) → kind ≠ 1#8 →
          exec (.frameReceived l kind tag code body check) s = .next (s.setLink l { s.link l with
            receiver := .hunting
            counts := { (s.link l).counts with kindErrors := min 4294967295 ((s.link l).counts.kindErrors + 1) } })))) ∧
    ((s.link l).up = false →
      (∀ b, exec (.syncByteReceived ⟨l, b⟩) s = .next s) ∧ (∀ n, exec (.overlength l n) s = .next s) ∧
      (∀ kind tag code body check, exec (.frameReceived l kind tag code body check) s = .next s)) ∧
    (∀ last, (s.link l).receiver = .inFrame last →
      let fragment := s.setLink l { s.link l with
        receiver := .hunting
        counts := { (s.link l).counts with fragments := min 4294967295 ((s.link l).counts.fragments + 1) } }
      (20 < (s.hub.time - last).toNat → exec (.fragmentTimeout l) s = .next fragment) ∧
      (l = .tl → exec .badStopBit s = .next fragment)) ∧
    ((s.link l).receiver = .hunting → exec (.fragmentTimeout l) s = .next s ∧ (l = .tl → exec .badStopBit s = .next s))

/-- R10: the notice queue, and both destinations of section 1.8. -/
def Obligations.NoticeQueue : Prop :=
  ∀ (s : State) (l : Link) (b : NoticeBody),
    ((s.link l).up = false → s.notify l b = s) ∧
    ((s.link l).up = true → (s.link l).notices.length < 16 →
      s.notify l b = s.setLink l { s.link l with notices := (s.link l).notices ++ [⟨b, s.hub.time⟩] }) ∧
    ((s.link l).up = true → (s.link l).notices.length = 16 →
      s.notify l b = s.setLink l { s.link l with
        notices := (s.link l).notices.tail ++ [⟨b, s.hub.time⟩]
        drops := min 255 ((s.link l).drops + 1)
        counts := { (s.link l).counts with noticesDropped := min 4294967295 ((s.link l).counts.noticesDropped + 1) } }) ∧
    (s.notifyBoth b).link l = (s.notify l b).link l

/-- R12, R13, R11, R119: the arbiter’s choice. `beginService` is stated by ServiceAssembled. -/
def Obligations.ArbiterOrder : Prop :=
  ∀ (s : State) (l : Link),
    (((s.link l).up = false ∨ (s.link l).tx ≠ none ∨ (l = .tl ∧ s.pins.hold = true)) →
      exec (.transmitArbiterChoose l) s = .next s) ∧
    ((s.link l).up = true → (s.link l).tx = none → (l = .tl → s.pins.hold = false) →
      let after := exec (.transmitArbiterChoose l) s
      (∀ serial tag code j body rest, (s.link l).ready = .response serial tag code j body :: rest →
        after = .next (s.setLink l { s.link l with
          tx := some ⟨.response serial code j, frameBytes 2#8 tag (BitVec.ofNat 8 (judgementCode j)) body⟩ })) ∧
      (∀ tag j rest, (s.link l).ready = .refusal tag j :: rest →
        after = .next (s.setLink l { s.link l with
          tx := some ⟨.refusal, frameBytes 2#8 tag (BitVec.ofNat 8 (judgementCode j)) []⟩ })) ∧
      ((s.link l).ready = [] →
        (∀ n rest, (s.link l).notices = n :: rest →
          after = .next (s.setLink l { s.link l with
            notices := rest
            drops := 0
            tx := some ⟨.notice, frameBytes 4#8 0#8 (BitVec.ofNat 8 (noticeCode n.body))
              (BitVec.ofNat 8 (s.link l).drops :: e32 n.time.toNat ++ noticeBytes n.body)⟩ })) ∧
        ((s.link l).notices = [] →
          (∀ q f rest, (s.sched l).service = some ⟨q, f :: rest⟩ →
            after = .next (s.setLink l { s.link l with
              tx := some ⟨.report q, frameBytes 3#8 0#8 (BitVec.ofNat 8 f.stream) f.body⟩ })) ∧
          ((s.sched l).service = none →
            let waits := fun q => ((s.sched l).queues.get q).waiting = true
            let other := fun q => match q with | .q0 => .q1 | .q1 => .q0 | .q2 => .q3 | .q3 => .q2
            let fast := (s.sched l).fastMark
            let slow := (s.sched l).slowMark
            let takes := fun q => after = .next ((s.beginService l q).sendReport l)
            (waits fast → takes fast) ∧
            (¬ waits fast → waits (other fast) → takes (other fast)) ∧
            (¬ waits fast → ¬ waits (other fast) → waits slow → takes slow) ∧
            (¬ waits fast → ¬ waits (other fast) → ¬ waits slow → waits (other slow) → takes (other slow)) ∧
            (¬ waits fast → ¬ waits (other fast) → ¬ waits slow → ¬ waits (other slow) → after = .next s)))))

/-- R8, R9, R15, R119: what the end of each frame does, with its frame; R1: the bytes on the Program Link between (notes/assumptions/37), each byte from MOSI taken as SYNC BYTE RECEIVED takes it (notes/assumptions/66), and ATTENTION (R1, R14, R169; it follows from the records, notes/assumptions/37). That FRAME SENT with nothing in transmission changes nothing is the model’s choice (notes/assumptions/4), and so is that the mark names the queue other than the one served, whatever it named (notes/assumptions/75). The response that brings a pending HUB RESET is in HubRequestsAnswered. -/
def Obligations.FrameSentEnds : Prop :=
  ∀ (s : State) (l : Link),
    ((s.link l).tx = none → exec (.frameSent l) s = .next s) ∧
    (∀ serial code j bytes, (s.link l).tx = some ⟨.response serial code j, bytes⟩ →
      (s.hub.resetPending = false ∨ l = .tl ∨ code ≠ .hubReset ∨ j ≠ .normalCompletion) →
      exec (.frameSent l) s = .next (s.setLink l { s.link l with
        tx := none
        ready := (s.link l).ready.tail
        table := (s.link l).table.filter (fun e => decide (e.serial ≠ serial))
        counts := if j = .normalCompletion
          then { (s.link l).counts with accepted := min 4294967295 ((s.link l).counts.accepted + 1) }
          else { (s.link l).counts with refused := min 4294967295 ((s.link l).counts.refused + 1) } })) ∧
    (∀ bytes, (s.link l).tx = some ⟨.refusal, bytes⟩ →
      exec (.frameSent l) s = .next (s.setLink l { s.link l with
        tx := none
        ready := (s.link l).ready.tail
        counts := { (s.link l).counts with refused := min 4294967295 ((s.link l).counts.refused + 1) } })) ∧
    (∀ bytes, (s.link l).tx = some ⟨.notice, bytes⟩ →
      exec (.frameSent l) s = .next (s.setLink l { s.link l with tx := none })) ∧
    (∀ q q' bytes f rest, (s.link l).tx = some ⟨.report q', bytes⟩ → (s.sched l).service = some ⟨q, f :: rest⟩ →
      exec (.frameSent l) s = .next ((s.setLink l { s.link l with
          tx := none
          counts := { (s.link l).counts with reportsSent := min 4294967295 ((s.link l).counts.reportsSent + 1) } }).setSched l
        (if rest = [] then
          { s.sched l with
            service := none
            fastMark := match q with | .q0 => .q1 | .q1 => .q0 | _ => (s.sched l).fastMark
            slowMark := match q with | .q2 => .q3 | .q3 => .q2 | _ => (s.sched l).slowMark }
        else { s.sched l with service := some ⟨q, rest⟩ }))) ∧
    (let waits := fun q => ((s.sched .pl).queues.get q).waiting = true
    let other := fun q => match q with | .q0 => .q1 | .q1 => .q0 | .q2 => .q3 | .q3 => QueueId.q2
    let bank := fun q => waits q ∨ waits (other q)
    s.attention = true ↔ s.hub.held = false ∧ (s.link .pl).up = true ∧ ((s.link .pl).tx ≠ none ∨
      (s.link .pl).ready ≠ [] ∨ (s.link .pl).notices ≠ [] ∨ (s.sched .pl).service ≠ none ∨
      bank (s.sched .pl).fastMark ∨ bank (s.sched .pl).slowMark)) ∧
    ((s.link .pl).DownEmpty →
      (((s.link .pl).up = false ∨ (s.link .pl).tx = none) → s.miso = 0#8) ∧
      (∀ x b rest, (s.link .pl).tx = some x → x.bytes = b :: rest → s.miso = b) ∧
      s.plEvent .cutOff = ({ s with pins := { s.pins with select := false } }, none, none) ∧
      (∀ on, s.plEvent (.select on) = ({ s with pins := { s.pins with select := on } }, none, none)) ∧
      (∀ mosi, (s.pins.select = false → s.plEvent (.clocked mosi) = (s, none, none)) ∧
        (s.pins.select = true → ∃ taken t : State,
          exec (.syncByteReceived ⟨.pl, mosi⟩) s = .next taken ∧
          s.plEvent (.clocked mosi) = (t, some s.miso, if (s.link .pl).up then some mosi else none) ∧
          ((s.link .pl).tx = none → t = taken) ∧
          (∀ x b, (s.link .pl).tx = some x → x.bytes = [b] → exec (.frameSent .pl) taken = .next t) ∧
          (∀ x b c rest, (s.link .pl).tx = some x → x.bytes = b :: c :: rest →
            t = taken.setLink .pl { taken.link .pl with tx := some { x with bytes := c :: rest } }))))

/-- R3, R111, R13 (HOLD is a level that the arbiter alone reads), R14 and each block’s teardown rule: R36 the claims, R58 and R59 the channels and pairs, R94 and R85 the views, whole, with the settings recomputed, R105 the watch slots, R103 the subscriptions, R122 the streams, R135 the volume, R137 the sounds, R140 the lock, R159 and R158 the session. A cleared output’s mode is none (notes/assumptions/44), the states of an unseeded value are 0 (notes/assumptions/74), and a port that is not ACTIVE counts one value (notes/assumptions/63). That the previous period’s u of a freed channel is 0 is the model’s choice (notes/assumptions/42). The channels and the other Link Unit are stated where ports, channels and pairs agree (ChannelsStayAgreed), the latter where a session of the link awaits responses of that link alone, as R156 and R158 let it; the blocks where a refresh copies a LIVE block that no retired version holds, and outside the blocks of retired versions, whose pins the ended sounds may drop. -/
def Obligations.LinkGoesUpAndDown : Prop :=
  ∀ (s : State) (l : Link), s.hub.held = false →
    let raised : State := { s with pins := { s.pins with enable := s.pins.enable.set l true } }
    ((s.link l).up = false → ∃ t : State, exec (.linkUp l) s = .next t ∧
      t.link l = { LinkUnit.reset with
        up := true, counts := (s.link l).counts, nextSerial := (s.link l).nextSerial } ∧
      (∀ q, (t.sched l).queues.get q = { (s.sched l).queues.get q with origin := some s.hub.time }) ∧
      (t.sched l).streams = (s.sched l).streams ∧ (t.sched l).service = (s.sched l).service ∧
      (t.sched l).fastMark = (s.sched l).fastMark ∧ (t.sched l).slowMark = (s.sched l).slowMark ∧
      (∀ k, k ≠ l → t.link k = s.link k ∧ t.sched k = s.sched k) ∧
      t = { raised with links := t.links, scheds := t.scheds }) ∧
    ((s.link l).up = true → exec (.linkUp l) s = .next raised) ∧
    exec .holdRises s = .next { s with pins := { s.pins with hold := true } } ∧
    exec .holdFalls s = .next { s with pins := { s.pins with hold := false } } ∧
    ((s.link l).up = false → ¬ (s.hub.resetPending = true ∧ l = .pl) →
      exec (.linkDown l) s = .next { s with pins := { s.pins with enable := s.pins.enable.set l false } }) ∧
    ((s.link l).up = true → ¬ (s.hub.resetPending = true ∧ l = .pl) → ∃ t : State, exec (.linkDown l) s = .next t ∧
      t.link l = { LinkUnit.reset with
        up := false, counts := (s.link l).counts, nextSerial := (s.link l).nextSerial } ∧
      t.pins = { s.pins with enable := s.pins.enable.set l false } ∧
      let freed := fun (h : Option Link) => if h = some l then none else h
      (∀ p, (t.port p).holder = freed (s.port p).holder) ∧ t.holderI = freed s.holderI ∧
      (∀ p, (s.port p).state ≠ .active ∨ (s.port p).device.map (fun d => d.kind) ≠ some .sensor →
        t.port p = { s.port p with holder := freed (s.port p).holder }) ∧
      (∀ p d m x, (s.port p).state = .active → (s.port p).device = some d → d.kind = .sensor → (s.port p).mode = some m →
        d.modes[m]? = some x →
        let us := t.sensorInterval p x.minInterval
        t.port p = { s.port p with
          holder := freed (s.port p).holder, interval := some us, sentInterval := some us
          sent := if (s.port p).sentInterval = some us then (s.port p).sent else [.setInterval (us / 1000)] }) ∧
      t.sharedI = t.recomputeI.sharedI ∧
      (∀ c,
        let count : Nat := match c with
          | .internal => 6
          | .port p =>
            if (s.port p).state ≠ .active then 1
            else if (s.port p).device.map (fun d => d.kind) = some .sensor then
              ((((s.port p).device.bind (fun d => (s.port p).mode.bind (fun m => d.modes[m]?))).map
                (fun x => x.count)).getD 1)
            else 4
        t.view l c =
          { interval := 0, filter := .none, strength := 1, offsets := List.replicate 8 0, accelRange := 8000
            gyroRange := 2000, stampPort := none, counter := 0, filters := List.replicate 8 ⟨0, 0, false⟩
            output := ⟨List.replicate count 0, 0, 0, List.replicate count false, none, none⟩, fresh := false }) ∧
      t.watches.get l = .empty ∧ t.subs.get l = 0 ∧
      t.sched l = .reset ∧ t.sound.volumes.get l = 80 ∧ t.assets.lock = freed s.assets.lock ∧
      (∀ v y, t.voice v = some y → y.sound.link ≠ l) ∧
      (∀ v y, s.voice v = some y → y.sound.link ≠ l → t.voice v = some y) ∧
      (∀ v y, t.voice v = some y → s.voice v = some y ∨ ∃ x ∈ s.sound.queue, ∃ order, y.JustTaken x order) ∧
      (∃ j, t.sound.queue = (s.sound.queue.filter (fun x => decide (x.link ≠ l))).drop j) ∧
      (∀ v, t.voice v = none → t.sound.queue = []) ∧
      (s.ChannelsAgree →
        (∀ p, t.motor p = if (s.port p).holder = some l then { (s.motor p).ended .coast 0 with pair := none }
          else s.motor p) ∧
        (∀ k, t.pair k = if (s.pair k).map (fun q => q.holder) = some l then none else s.pair k) ∧
        ((∀ x, s.media.session = some x → x.link = l → ∀ tk ∈ s.sessionTickets, tk.link = l) →
          ∀ k, k ≠ l → t.link k = s.link k)) ∧
      (let ends := fun (x : Session) => x.link = l ∧ x.closing = none
      ((∀ x, s.media.session = some x → ¬ ends x) → t.media.session = s.media.session) ∧
      (∀ x, s.media.session = some x → ends x → t.media.session = none ∧
        ∀ o ∈ t.media.class2 ++ t.media.class4, o ∈ s.media.class2 ++ s.media.class4 ∧ match o.work with
          | .sessionPage .. => False
          | .sessionErase _ => False
          | .copyRead .. => False
          | .copyProgram .. => False
          | _ => True) ∧
      (s.RefreshLive → ∀ k, (∀ x ∈ s.assets.retired, k ∉ versionBlocks x.version.image) → t.block k = { s.block k with
        state := if (∃ x, s.media.session = some x ∧ ends x ∧ k ∈ x.reserved) ∧ (s.block k).state = .session
          then .freeDirty else (s.block k).state })) ∧
      (∀ k, k ≠ l → t.views.get k = s.views.get k ∧ t.watches.get k = s.watches.get k ∧ t.subs.get k = s.subs.get k ∧
        t.sched k = s.sched k ∧ t.sound.volumes.get k = s.sound.volumes.get k))

/-- R15: the refusals, the response body and the clearing, with their frame. -/
def Obligations.LinkCountsAnswered : Prop :=
  ∀ (s : State) (l : Link) (tag : Byte) (n : Nat) (b : List Byte), s.Waits l tag .linkCounts n b →
    let after := exec (.linkCounts l tag) s
    let named : Link := if u8 b 0 = 0 then .pl else .tl
    let u := s.link named
    let c := u.counts
    let body := e32 c.checkErrors ++ e32 c.overlength ++ e32 c.fragments ++ e32 c.kindErrors ++ e32 c.received ++
      e32 c.accepted ++ e32 c.refused ++ e32 c.refusalDrops ++ e32 c.noticesDropped ++ e32 c.reportsSent ++
      e32 c.overruns.q0 ++ e32 c.overruns.q1 ++ e32 c.overruns.q2 ++ e32 c.overruns.q3 ++ e8 u.table.length ++
      (match u.table with
        | [] => [0#8, 0#8, 0#8, 0#8, 0#8]
        | e :: _ => e8 (reqByte e.code) ++ e32 (s.hub.time - e.arrival).toNat) ++
      e8 (u.ready.filter Ready.isRefusal).length ++ e8 u.notices.length ++ e8 u.drops
    ((b.length ≠ 2 ∨ 1 < u8 b 0 ∨ 1 < u8 b 1) →
      after = .next (s.answered l tag .linkCounts n .parameterError [])) ∧
    (b.length = 2 → u8 b 0 ≤ 1 → u8 b 1 = 1 → named ≠ l →
      after = .next (s.answered l tag .linkCounts n .linkNotPermitted [])) ∧
    (b.length = 2 → u8 b 0 ≤ 1 → u8 b 1 = 0 →
      body.length = 65 ∧ after = .next (s.answered l tag .linkCounts n .normalCompletion body)) ∧
    (b.length = 2 → u8 b 0 ≤ 1 → u8 b 1 = 1 → named = l →
      after = .next ((s.setLink l { s.link l with counts := .zero }).answered l tag .linkCounts n .normalCompletion body))

/-! ### Ports and attached devices (chapter 2) -/

/-- R39, R40, R17: the response body field by field. The fields after the presence byte are `DeviceRecord.fields`, with their length. The model’s choices: port I shows the interval last chosen (notes/assumptions/40); a REJECTED record is shown as offered where section 1.9 has no room for it (notes/assumptions/51). -/
def Obligations.PortInfoAnswered : Prop :=
  ∀ (s : State) (l : Link) (tag : Byte) (n : Nat) (b : List Byte), s.Waits l tag .portInfo n b →
    let after := exec (.portInfo l tag) s
    let r := s.port (portOf (u8 b 0))
    let fixed : List Byte := e8 (u8 b 0) ++ e8 (portStateCode r.state) ++ e8 (levelCode r.detect) ++ e8 r.generation ++
      e8 (holderCode r.holder) ++ e8 (r.mode.getD 255) ++ e8 ((r.pendingMode.map (fun w => w.mode)).getD 255) ++
      e8 (faultCode r.fault) ++ e8 (rejectCode r.reject) ++ e8 (if r.silentRetry then 1 else 0) ++
      e32 (if r.state = .active then
        (if r.device.map (fun d => d.kind) = some .sensor then r.interval.getD 0 else 5000) else 0) ++
      e16 r.counts.received ++ e16 r.counts.checkErrors ++ e16 r.counts.unexpected ++ e16 r.counts.nudges
    (b.length ≠ 1 → after = .next (s.answered l tag .portInfo n .parameterError [])) ∧
    (b.length = 1 → 6 < u8 b 0 → after = .next (s.answered l tag .portInfo n .portError [])) ∧
    (b.length = 1 → u8 b 0 ≤ 5 → r.device = none →
      (fixed ++ [0#8]).length = 23 ∧
      after = .next (s.answered l tag .portInfo n .normalCompletion (fixed ++ [0#8]))) ∧
    (∀ d, b.length = 1 → u8 b 0 ≤ 5 → r.device = some d →
      (fixed ++ [1#8] ++ (DeviceRecord.fields d)).length = 40 + 22 * d.modes.length ∧
      after = .next (s.answered l tag .portInfo n .normalCompletion (fixed ++ [1#8] ++ (DeviceRecord.fields d)))) ∧
    (b.length = 1 → u8 b 0 = 6 → after = .next (s.answered l tag .portInfo n .normalCompletion
      ([6#8, 3#8, 0#8, 1#8] ++ e8 (holderCode s.holderI) ++ [0xFF#8, 0xFF#8, 0#8, 0#8, 0#8] ++ e32 s.sharedI.interval ++
        List.replicate 8 0#8 ++ [1#8, 4#8] ++ List.replicate 16 0#8)))

/-- R34, R36, R59, with the whole next state. The previous u of a channel that enters FREE or BRAKED is 0 by notes/assumptions/42, the model’s choice. A paired port’s release is in PairDissolved. -/
def Obligations.ClaimAndRelease : Prop :=
  ∀ (s : State) (l : Link) (tag : Byte) (n : Nat) (b : List Byte),
    let p := portOf (u8 b 0)
    let holder := if u8 b 0 = 6 then s.holderI else (s.port p).holder
    let other := holder ≠ none ∧ holder ≠ some l
    let setHolder := fun (t : State) (h : Option Link) =>
      if u8 b 0 = 6 then { t with holderI := h } else t.setPort p { t.port p with holder := h }
    let common := [(decide (b.length ≠ 2), Judgement.parameterError), (decide (6 < u8 b 0), .portError)] ++
      s.chanGuard (u8 b 0) (u8 b 1) ++ [(decide other, .heldByOtherLink)]
    (s.Waits l tag .claimPort n b →
      (∀ j, judge common = some j → exec (.claimPort l tag) s = .next (s.answered l tag .claimPort n j [])) ∧
      (judge common = none →
        exec (.claimPort l tag) s = .next ((setHolder s (some l)).answered l tag .claimPort n .normalCompletion []))) ∧
    (s.Waits l tag .releasePort n b →
      (∀ j, judge (common ++ [(decide (holder = none), .sequenceError)]) = some j →
        exec (.releasePort l tag) s = .next (s.answered l tag .releasePort n j [])) ∧
      (judge common = none → holder ≠ none → (u8 b 0 ≤ 5 → s.Unpaired p) →
        exec (.releasePort l tag) s = .next ((setHolder (if u8 b 0 = 6 then s else
          (s.notifyAll (s.endings p .released)).setMotor p ((s.motor p).ended .coast 0)) none).answered
            l tag .releasePort n .normalCompletion [])))

/-- R37, with the whole next state. -/
def Obligations.SelectModeTaken : Prop :=
  ∀ (s : State) (l : Link) (tag : Byte) (n : Nat) (b : List Byte), s.Waits l tag .selectMode n b →
    let p := portOf (u8 b 0)
    let r := s.port p
    let checks := [(decide (b.length ≠ 3 ∨ 7 < u8 b 2), Judgement.parameterError)] ++ s.portGuard (u8 b 0) (u8 b 1) ++
      [(decide (r.device.map (fun d => d.kind) ≠ some .sensor), .deviceMismatch),
        (decide ((r.device.map (fun d => d.modes.length)).getD 0 ≤ u8 b 2), .parameterError),
        (s.otherHolds l p, .heldByOtherLink), (r.pendingMode.isSome, .busy)]
    (∀ j, judge checks = some j → exec (.selectMode l tag) s = .next (s.answered l tag .selectMode n j [])) ∧
    (judge checks = none → exec (.selectMode l tag) s = .next ((s.taken l n).setPort p { r with
      holder := some l, pendingMode := some ⟨u8 b 2, ⟨l, n⟩⟩, sent := [.selectMode (u8 b 2)], waitFrom := s.hub.time
      secondWait := false }))

/-- R32, R20, R30, R19, and from ACTIVE, alone or in a pair, R31 with R41, R58 and R59; the notices of a departure come in the order of notes/assumptions/14. The model’s choices in `State.Departed`: the previous u 0 of a pair’s partner (notes/assumptions/42), no mode in the cleared outputs (notes/assumptions/44), 0 in unseeded filter states (notes/assumptions/74). The premise on the waiting SELECT MODE holds in every state a run reaches, where its request has left the hands it waits in. -/
def Obligations.PortResetAnswered : Prop :=
  ∀ (s : State) (l : Link) (tag : Byte) (n : Nat) (b : List Byte), s.Waits l tag .portReset n b →
    let p := portOf (u8 b 0)
    let r := s.port p
    let level := s.pins.detect.get p
    let checks := [(decide (b.length ≠ 2), Judgement.parameterError), (decide (5 < u8 b 0), .portError),
      (decide (r.state = .empty ∨ r.state = .rejected), .portError),
      (decide (u8 b 1 ≠ 0 ∧ u8 b 1 ≠ r.generation), .deviceMismatch), (s.otherHolds l p, .heldByOtherLink)]
    let gone := { r with
      holder := none, pendingMode := none, mode := none, interval := none, device := none, stage := none, fault := none
      reject := none, nudgedAt := none, sentInterval := none, line := .closed, silentRetry := false }
    let told := fun (t : State) (new old : PortState) (reason : Nat) (d : Level) =>
      if new = old ∨ (old = .settling ∧ new = .empty) then t
      else t.notifyBoth (.portChanged p new old r.generation d none reason)
    (∀ j, judge checks = some j → exec (.portReset l tag) s = .next (s.answered l tag .portReset n j [])) ∧
    (judge checks = none → r.state ≠ .active →
      exec (.portReset l tag) s = .next (State.answered (
        if level = .openCircuit then
          (told s .empty r.state 0 .openCircuit).setPort p { gone with state := .empty, detect := .openCircuit }
        else if s.pins.fault.get p then
          (told (told s .settling r.state 0 level) .fault .settling 1 level).setPort p { gone with
            state := .fault, detect := level, counts := .zero, waitFrom := s.hub.time, fault := some .overload }
        else (told s .settling r.state 0 level).setPort p { gone with
          state := .settling, detect := level, counts := .zero, waitFrom := s.hub.time })
        l tag .portReset n .normalCompletion [])) ∧
    (∀ bound, judge checks = none → r.state = .active → s.Binding p bound →
      (∀ w, r.pendingMode = some w → w.ticket ≠ ⟨l, n⟩) → ∃ t : State,
      exec (.portReset l tag) s = .next (t.answered l tag .portReset n .normalCompletion []) ∧ s.Departed t p bound ∧
      t.pins = s.pins ∧
      let changed := fun (new old : PortState) (d : Level) (reason : Nat) =>
        NoticeBody.portChanged p new old r.generation d none reason
      if level = .openCircuit then
        t.port p = { gone with state := .empty, detect := .openCircuit } ∧
        t.links = (s.departing p bound (changed .empty .active .openCircuit 0)).links
      else
        let settled := s.departing p bound (changed .settling .active level 0)
        if s.pins.fault.get p then
          t.port p = { gone with
            state := .fault, detect := level, counts := .zero, waitFrom := s.hub.time, fault := some .overload } ∧
          t.links = (settled.notifyBoth (changed .fault .settling level 1)).links
        else
          t.port p = { gone with state := .settling, detect := level, counts := .zero, waitFrom := s.hub.time } ∧
          t.links = settled.links)

/-- R20, R24, R27, R41, with PORT CHANGED by R19 and the cleared sample record and outputs of R79 and R93; R30: an EMPTY port that sees a device while its fault input is asserted is in FAULT at once (notes/assumptions/9). R18: before READY the inputs are not examined. The profile’s Δv and target at attach are the model’s choice (notes/assumptions/78). -/
def Obligations.DetectionAndDebounce : Prop :=
  ∀ (s : State) (p : Port) (level : Level),
    let r := s.port p
    let seen := { s with pins := { s.pins with detect := s.pins.detect.set p level } }
    let bare := { r with
      holder := none, pendingMode := none, mode := none, interval := none, device := none, stage := none, fault := none
      reject := none, nudgedAt := none, sentInterval := none }
    ((s.hub.state ≠ .ready ∨ s.hub.held = true) → exec (.detectChange p level) s = .next seen) ∧
    (s.hub.state = .ready → s.hub.held = false → s.pins.fault.get p = true → s.pins.detect.get p ≠ level →
      r.state = .empty → level ≠ .openCircuit → exec (.detectChange p level) s = .next
        ((seen.notifyBoth (.portChanged p .fault .settling r.generation level none 1)).setPort p { bare with
          state := .fault, fault := some .overload, detect := level, line := .closed, silentRetry := false
          counts := .zero, waitFrom := s.hub.time })) ∧
    (s.hub.state = .ready → s.hub.held = false → s.pins.fault.get p = false → s.pins.detect.get p ≠ level →
      (r.state = .empty → level ≠ .openCircuit → exec (.detectChange p level) s = .next (seen.setPort p { bare with
        state := .settling, detect := level, line := .closed, silentRetry := false, counts := .zero
        waitFrom := s.hub.time })) ∧
      (r.state = .settling → level ≠ .openCircuit →
        exec (.detectChange p level) s = .next (seen.setPort p { r with detect := level, waitFrom := s.hub.time })) ∧
      (r.state = .settling → level = .openCircuit →
        exec (.detectChange p level) s = .next (seen.setPort p { bare with
          state := .empty, detect := .openCircuit, line := .closed, silentRetry := false }))) ∧
    (s.hub.held = false → r.state = .settling → 100 ≤ (s.hub.time - r.waitFrom).toNat →
      (r.detect = .level3 → exec (.debounceExpiry p) s = .next
        ((s.notifyBoth (.portChanged p .identifying .settling r.generation .level3 none 0)).setPort p { bare with
          state := .identifying, stage := some .enquiring, line := .b2400, identFrom := s.hub.time
          enquiredAt := s.hub.time, sent := [.enquire] })) ∧
      ((r.detect = .level1 ∨ r.detect = .level2) →
        let kind : DeviceClass := if r.detect = .level1 then .plainMotor else .lamp
        let generation := if 255 ≤ r.generation then 1 else r.generation + 1
        ∃ t : State, exec (.debounceExpiry p) s = .next t ∧
          t.port p = { r with
            state := .active, generation := generation, holder := none, stage := none, mode := none
            device := some ⟨kind, 0, 0, ⟨false, false, false, false, false⟩, 0, [], none⟩, nudgedAt := none
            healthyFrom := s.hub.time, lastData := s.hub.time } ∧
          t.motor p = Motor.reset ∧ (∀ q, q ≠ p → t.port q = s.port q ∧ t.motor q = s.motor q) ∧
          t.sample (.port p) = ⟨none, 0, 0, [0, 0, 0, 0], [false, false, false, false], 5000⟩ ∧
          (∀ l, t.view l (.port p) = { s.view l (.port p) with
            fresh := false, output := ⟨[0, 0, 0, 0], 0, 0, [false, false, false, false], none, none⟩ }) ∧
          (∀ c, c ≠ .port p → t.sample c = s.sample c ∧ ∀ l, t.view l c = s.view l c) ∧
          t = { s with
            ports := t.ports, motors := t.motors, samples := t.samples, views := t.views
            links := (s.notifyBoth
              (.portChanged p .active .settling generation r.detect (some (kind, 0)) 0)).links }))

/-- R22 to R28, R41. The validity of a record is R25’s list. The first DATA is a sample like any other (R79, R86, `State.sampleTaken`): a view’s output may fire a watch; that the links change by PORT CHANGED alone is said where both views of the port are off. The model’s choices: PL’s view takes it before TL’s (notes/assumptions/14), the cleared outputs have no mode (notes/assumptions/44), and the profile’s Δv and target at attach are 0 (notes/assumptions/78). -/
def Obligations.IdentificationMessages : Prop :=
  ∀ (s : State) (p : Port), s.hub.held = false →
    let r := s.port p
    let got := { r with counts := { r.counts with received := min 65535 (r.counts.received + 1) } }
    let bad := s.setPort p { r with counts := { r.counts with checkErrors := min 65535 (r.counts.checkErrors + 1) } }
    let odd := s.setPort p { got with
      counts := { got.counts with unexpected := min 65535 (got.counts.unexpected + 1) } }
    (r.line = .closed → exec (.deviceLineGapTimeout p) s = .next s ∧
      (∀ g, exec (.deviceNotReady p g) s = .next s ∧ exec (.deviceAck p g) s = .next s ∧
        (∀ d, exec (.deviceIdentity p d g) s = .next s) ∧ (∀ m vs, exec (.deviceData p m vs g) s = .next s))) ∧
    (r.line ≠ .closed → exec (.deviceLineGapTimeout p) s = .next bad) ∧
    (r.line ≠ .closed → ∀ g : LineMessage, g.check ≠ ((g.kind :: BitVec.ofNat 8 g.body.length :: g.body).foldl
        (fun x y => x ^^^ y) 0xFF#8) →
      exec (.deviceNotReady p g) s = .next bad ∧ exec (.deviceAck p g) s = .next bad ∧
      (∀ d, exec (.deviceIdentity p d g) s = .next bad) ∧ (∀ m vs, exec (.deviceData p m vs g) s = .next bad)) ∧
    (r.line ≠ .closed → ∀ g : LineMessage, g.check = ((g.kind :: BitVec.ofNat 8 g.body.length :: g.body).foldl
        (fun x y => x ^^^ y) 0xFF#8) →
      (r.stage ≠ some .enquiring → exec (.deviceNotReady p g) s = .next odd ∧
        (∀ d, exec (.deviceIdentity p d g) s = .next odd)) ∧
      (r.stage = some .enquiring → exec (.deviceNotReady p g) s = .next (s.setPort p got)) ∧
      (r.stage ≠ some .speed → exec (.deviceAck p g) s = .next odd) ∧
      (r.state = .identifying → r.stage = some .enquiring → ∀ d : DeviceRecord,
        let shared := [d.speeds.b460800, d.speeds.b115200, d.speeds.b57600, d.speeds.b9600]
        let names := [LineSpeed.b460800, .b115200, .b57600, .b9600]
        let valid := (d.kind = .sensor ∧ d.motor = none ∧ 1 ≤ d.modes.length ∧ d.modes.length ≤ 8 ∧
            ∀ m ∈ d.modes, 1 ≤ m.count ∧ m.count ≤ 8 ∧ m.format ≤ 2 ∧ m.rawMin < m.rawMax ∧
              -(2 ^ (8 * 2 ^ m.format - 1) : Int) ≤ m.rawMin ∧ m.rawMax ≤ 2 ^ (8 * 2 ^ m.format - 1) - 1 ∧
              m.scaledMin ≠ m.scaledMax ∧ 1 ≤ m.minInterval) ∨
          (d.kind = .motor ∧ d.modes = [] ∧ ∃ x, d.motor = some x ∧ 360 ≤ x.cpr ∧ x.cpr ≤ 4096 ∧ 100 ≤ x.maxSpeed ∧
            x.maxSpeed ≤ 2000 ∧ x.size ≤ 2)
        let rejected := fun (why : RejectReason) => (s.notifyBoth (.portChanged p .rejected .identifying r.generation
            r.detect (some (d.kind, d.typeNumber)) (rejectCode (some why)))).setPort p { got with
          holder := none, pendingMode := none, mode := none, interval := none, device := some d, stage := none
          fault := none, reject := some why, nudgedAt := none, sentInterval := none, state := .rejected
          line := .closed }
        (150 < d.supplyDemand → exec (.deviceIdentity p d g) s = .next (rejected .supplyDemand)) ∧
        (d.supplyDemand ≤ 150 → true ∉ shared → exec (.deviceIdentity p d g) s = .next (rejected .speed)) ∧
        (d.supplyDemand ≤ 150 → true ∈ shared → ¬ valid →
          exec (.deviceIdentity p d g) s = .next (rejected .record)) ∧
        (∀ k : Fin 4, d.supplyDemand ≤ 150 → valid → shared.getD k false = true → (∀ i : Fin 4, i < k → shared.getD i false = false) →
          exec (.deviceIdentity p d g) s = .next (s.setPort p { got with
            device := some d, stage := some .speed, waitFrom := s.hub.time, secondWait := false
            sent := [.speed (names.getD k .closed)] }))) ∧
      (r.state = .identifying → r.stage = some .speed → ∀ d, r.device = some d → d.kind = .sensor →
        exec (.deviceAck p g) s = .next (s.setPort p { got with
          line := r.dataSpeed, stage := some .firstData
          sent := [.selectMode 0, .setInterval (s.firstInterval p / 1000)]
          sentInterval := some (s.firstInterval p), waitFrom := s.hub.time, secondWait := false })) ∧
      (∀ d, r.state = .identifying → r.device = some d →
        let generation := if 255 ≤ r.generation then 1 else r.generation + 1
        let attached := s.notifyBoth (.portChanged p .active .identifying generation r.detect
          (some (d.kind, d.typeNumber)) 0)
        let other := fun (t : State) => (∀ q, q ≠ p → t.port q = s.port q) ∧
          ∀ c, c ≠ .port p → t.sample c = s.sample c ∧ ∀ l, t.view l c = s.view l c
        (∀ x, r.stage = some .speed → d.kind = .motor → d.motor = some x → x.size ≤ 2 → ∃ t : State,
          exec (.deviceAck p g) s = .next t ∧
          t.port p = { got with
            state := .active, line := r.dataSpeed, generation := generation, holder := none, stage := none
            nudgedAt := none, healthyFrom := s.hub.time, lastData := s.hub.time } ∧
          t.motor p = { Motor.reset with gains := some (if x.size = 0 then ⟨120, 15, true⟩
            else if x.size = 1 then ⟨150, 20, true⟩ else ⟨200, 25, true⟩) } ∧
          t.sample (.port p) = ⟨none, 0, 0, [0, 0, 0, 0], [false, false, false, false], 5000⟩ ∧
          (∀ l, t.view l (.port p) = { s.view l (.port p) with
            fresh := false, output := ⟨[0, 0, 0, 0], 0, 0, [false, false, false, false], none, none⟩ }) ∧
          (∀ q, q ≠ p → t.motor q = s.motor q) ∧ other t ∧
          t = { s with
            ports := t.ports, motors := t.motors, samples := t.samples, views := t.views, links := attached.links }) ∧
        (∀ x vs, r.stage = some .firstData → d.kind = .sensor → d.modes[0]? = some x → x.count = vs.length → ∃ t : State,
          exec (.deviceData p 0 vs g) s = .next t ∧
          (∃ u : State, t = u.sampleTaken (.port p) ⟨some 0, 1, s.hub.time, vs.map (fun v => (scaleRaw x v).1),
              vs.map (fun v => (scaleRaw x v).2), s.firstInterval p⟩ ∧
            (∀ l, u.view l (.port p) = { s.view l (.port p) with fresh := false, output :=
              ⟨List.replicate vs.length 0, 0, 0, List.replicate vs.length false, none, none⟩ }) ∧
            u.links = attached.links ∧ other u ∧
            u = { s with ports := u.ports, links := u.links, samples := u.samples, views := u.views }) ∧
          (t.port p).state = .active ∧ (t.port p).generation = generation ∧ (t.port p).holder = none ∧
          (t.port p).stage = none ∧ (t.port p).mode = some 0 ∧ (t.port p).device = some d ∧ (t.port p).line = r.line ∧
          (t.port p).interval = some (s.firstInterval p) ∧ (t.port p).sentInterval = some (s.firstInterval p) ∧
          (t.port p).sent = (if r.sentInterval = some (s.firstInterval p) then r.sent
            else [.setInterval (s.firstInterval p / 1000)]) ∧
          (t.port p).lastData = s.hub.time ∧ (t.port p).superviseMs = s.firstInterval p / 1000 ∧
          (t.port p).healthyFrom = s.hub.time ∧ (t.port p).nudgedAt = none ∧
          (t.port p).counts.received = min 65535 (r.counts.received + 1) ∧
          t.sample (.port p) = ⟨some 0, 1, s.hub.time, vs.map (fun v => (scaleRaw x v).1),
            vs.map (fun v => (scaleRaw x v).2), s.firstInterval p⟩ ∧
          ((∀ l, (s.view l (.port p)).interval = 0) → t.links = attached.links ∧ t.motors = s.motors ∧ other t)) ∧
        (∀ m vs, r.stage = some .firstData →
          (m ≠ 0 ∨ d.modes[m]?.map (fun x => x.count) ≠ some vs.length) →
          exec (.deviceData p m vs g) s = .next odd)) ∧
      (∀ m vs, r.state = .identifying → r.stage ≠ some .firstData → exec (.deviceData p m vs g) s = .next odd) ∧
      (∀ d m vs, r.state = .active → r.device = some d → d.modes = [] → exec (.deviceData p m vs g) s = .next odd))

/-- R24, R26. Commands sent before a timer has run out first move hub time there (notes/assumptions/2), which this statement leaves out. -/
def Obligations.IdentificationTimers : Prop :=
  ∀ (s : State) (p : Port), s.hub.held = false →
    let r := s.port p
    let fault := fun (why : FaultReason) => (s.notifyBoth (.portChanged p .fault .identifying r.generation r.detect none
        (faultCode (some why)))).setPort p { r with
      holder := none, pendingMode := none, mode := none, interval := none, device := none, stage := none
      fault := some why, reject := none, nudgedAt := none, sentInterval := none, state := .fault, line := .closed }
    (r.stage ≠ some .enquiring → exec (.enquirePoll p) s = .next s ∧ exec (.identDeadlineExpiry p) s = .next s) ∧
    (r.stage ≠ some .speed → exec (.speedAckTimeout p) s = .next s) ∧
    (r.stage ≠ some .firstData → exec (.firstDataTimeout p) s = .next s) ∧
    (r.state = .identifying →
      (r.stage = some .enquiring → 50 ≤ (s.hub.time - r.enquiredAt).toNat → exec (.enquirePoll p) s =
        .next (s.setPort p { r with enquiredAt := s.hub.time, sent := [.enquire] })) ∧
      (r.stage = some .enquiring → 1000 ≤ (s.hub.time - r.identFrom).toNat →
        exec (.identDeadlineExpiry p) s = .next (fault .identTimeout)) ∧
      (100 ≤ (s.hub.time - r.waitFrom).toNat →
        (r.stage = some .speed → r.secondWait = false → exec (.speedAckTimeout p) s = .next (s.setPort p { r with
          sent := [.speed r.dataSpeed], waitFrom := s.hub.time, secondWait := true })) ∧
        (r.stage = some .speed → r.secondWait = true → exec (.speedAckTimeout p) s = .next (fault .silent)) ∧
        (r.stage = some .firstData → r.secondWait = false → exec (.firstDataTimeout p) s =
          .next (s.setPort p { r with
            sent := [.selectMode 0, .setInterval (s.firstInterval p / 1000)]
            sentInterval := some (s.firstInterval p), waitFrom := s.hub.time, secondWait := true })) ∧
        (r.stage = some .firstData → r.secondWait = true → exec (.firstDataTimeout p) s = .next (fault .silent))))

/-- R28, R29, R38; the silent path after a NUDGE is in DepartureOfAPort. DATA taken is a sample that passes through both links’ views (R79, R86 to R89, `State.sampleTaken`), at a completed mode change through the views as their restart (R93) left them. A SELECT MODE to the current mode completes as any other (notes/assumptions/33). The model’s choices: PL’s view takes a sample before TL’s and PORT CHANGED comes before MOTION DONE (notes/assumptions/14); the previous u 0 of a departing port’s partner (notes/assumptions/42), no mode in the outputs a departure clears (notes/assumptions/44), 0 in unseeded filter states (notes/assumptions/74). Early commands first move hub time (notes/assumptions/2), which this statement leaves out. -/
def Obligations.SupervisionOfASensor : Prop :=
  ∀ (s : State) (p : Port) (d : DeviceRecord), s.hub.held = false →
    let r := s.port p
    let got := { r with counts := { r.counts with received := min 65535 (r.counts.received + 1) } }
    let odd := s.setPort p { got with
      counts := { got.counts with unexpected := min 65535 (got.counts.unexpected + 1) } }
    r.state = .active → r.device = some d → d.kind = .sensor →
      (r.pendingMode = none → r.nudgedAt = none → 4 * r.superviseMs + 100 ≤ (s.hub.time - r.lastData).toNat →
        exec (.nudge p) s = .next (s.setPort p { r with
          counts := { r.counts with nudges := min 65535 (r.counts.nudges + 1) }
          nudgedAt := some s.hub.time, healthyFrom := s.hub.time, sent := [.nudge] })) ∧
      (r.silentRetry = true → 10000 ≤ (s.hub.time - r.healthyFrom).toNat →
        exec (.silentRetryClear p) s = .next (s.setPort p { r with silentRetry := false })) ∧
      (r.silentRetry = false → exec (.silentRetryClear p) s = .next s) ∧
      (∀ w, r.pendingMode = some w →
        exec (.nudge p) s = .next s ∧ exec (.silentPath p) s = .next s ∧
        (r.secondWait = false → 100 ≤ (s.hub.time - r.waitFrom).toNat →
          exec (.modeChangeTimeout p) s = .next (s.setPort p { r with
            sent := [.selectMode w.mode], waitFrom := s.hub.time, secondWait := true }))) ∧
      (r.pendingMode = none → exec (.modeChangeTimeout p) s = .next s) ∧
      (∀ w bound, r.pendingMode = some w → r.secondWait = true → 100 ≤ (s.hub.time - r.waitFrom).toNat →
        s.Binding p bound → ∃ t : State,
        exec (.modeChangeTimeout p) s = .next t ∧ s.Departed t p bound ∧ t.pins = s.pins ∧
        let gone := fun (new : PortState) (reason : Nat) => (((s.refuse w.ticket .deviceTimeout).notifyBoth
          (.portChanged p new .active r.generation r.detect none reason)).notifyAll (s.boundEndings p .removed bound)).links
        if r.silentRetry then (t.port p).state = .fault ∧ (t.port p).fault = some .silent ∧ (t.port p).line = .closed ∧
          t.links = gone .fault 2
        else (t.port p).state = .identifying ∧ (t.port p).stage = some .enquiring ∧ (t.port p).silentRetry = true ∧
          (t.port p).line = .b2400 ∧ (t.port p).identFrom = s.hub.time ∧ (t.port p).sent = [.enquire] ∧
          t.links = gone .identifying 0) ∧
      (r.line ≠ .closed → ∀ (g : LineMessage) (m : Nat) (vs : List Int), g.check = ((g.kind ::
          BitVec.ofNat 8 g.body.length :: g.body).foldl (fun x y => x ^^^ y) 0xFF#8) →
        ((d.modes[m]?.map (fun x => x.count) ≠ some vs.length ∨
            (r.mode ≠ some m ∧ ∀ w, r.pendingMode = some w → w.mode ≠ m)) →
          exec (.deviceData p m vs g) s = .next odd) ∧
        (∀ w, r.pendingMode = some w → w.mode ≠ m → r.mode = some m → d.modes[m]?.map (fun x => x.count) = some vs.length →
          exec (.deviceData p m vs g) s = .next (s.setPort p got)) ∧
        (∀ x, r.pendingMode = none → r.mode = some m → d.modes[m]? = some x → x.count = vs.length →
          let taken := s.setPort p { got with
            lastData := s.hub.time, superviseMs := r.interval.getD 0 / 1000, nudgedAt := none }
          let y : Sample := ⟨some m, nextNumber (s.sample (.port p)).sequence, s.hub.time,
            vs.map (fun v => (scaleRaw x v).1), vs.map (fun v => (scaleRaw x v).2), r.interval.getD 0⟩
          exec (.deviceData p m vs g) s = .next (taken.sampleTaken (.port p) y) ∧
          (taken.sampleTaken (.port p) y).port p = taken.port p ∧ (taken.sampleTaken (.port p) y).sample (.port p) = y ∧
          ((∀ l, (s.view l (.port p)).interval = 0) → taken.sampleTaken (.port p) y = taken.setSample (.port p) y)) ∧
        (∀ w x, r.pendingMode = some w → w.mode = m → d.modes[m]? = some x → x.count = vs.length →
          let us := s.sensorInterval p x.minInterval
          let y : Sample := ⟨some m, nextNumber (s.sample (.port p)).sequence, s.hub.time,
            vs.map (fun v => (scaleRaw x v).1), vs.map (fun v => (scaleRaw x v).2), us⟩
          ∃ u t : State, exec (.deviceData p m vs g) s = .next t ∧
            t = (u.sampleTaken (.port p) y).complete w.ticket [] ∧ u.port p = t.port p ∧
            (∀ l, u.view l (.port p) = { s.view l (.port p) with
              filters := List.replicate 8 ⟨0, 0, false⟩, counter := 0 }) ∧
            (∀ l c, c ≠ .port p → u.view l c = s.view l c) ∧ s.DisarmedOn u p .mode ∧
            u.links = (s.notifyBoth (.modeChanged p r.generation m r.mode)).links ∧
            u = { s with ports := u.ports, views := u.views, watches := u.watches, links := u.links } ∧
            t.port p = { got with
              mode := some m, pendingMode := none, interval := some us, sentInterval := some us
              sent := (if r.sentInterval = some us then r.sent else [.setInterval (us / 1000)])
              lastData := s.hub.time, superviseMs := us / 1000, nudgedAt := none } ∧
            t.sample (.port p) = y ∧ s.DisarmedOn t p .mode ∧
            t.links = ((s.notifyBoth (.modeChanged p r.generation m r.mode)).complete w.ticket []).links ∧
            (∀ q, q ≠ p → t.port q = s.port q ∧ t.sample (.port q) = s.sample (.port q)) ∧ t.motors = s.motors))

/-- R31 by removal and replacement (R21, R20), driver fault (R30) and the silent path (R29), of a port alone or bound in a pair; its effects by R41, R58, R59, R93 and R109. PORT RESET is in PortResetAnswered, the mode-change timeout in SupervisionOfASensor. The notices of a departure come in the order of notes/assumptions/14; that the reject reason goes with a REJECTED port’s record at a driver fault is notes/assumptions/52. The model’s choices in `State.Departed`: the previous u 0 of a pair’s partner (notes/assumptions/42), no mode in the cleared outputs (notes/assumptions/44), 0 in unseeded filter states (notes/assumptions/74). -/
def Obligations.DepartureOfAPort : Prop :=
  ∀ (s : State) (p : Port), s.hub.held = false →
    let r := s.port p
    let bare := { r with
      holder := none, pendingMode := none, mode := none, interval := none, device := none, stage := none, fault := none
      reject := none, nudgedAt := none, sentInterval := none }
    let changed := fun (new old : PortState) (d : Level) (reason : Nat) =>
      NoticeBody.portChanged p new old r.generation d none reason
    let empty : PortRec := { bare with state := .empty, detect := .openCircuit, line := .closed, silentRetry := false }
    let settling := fun (d : Level) => ({ bare with
      state := .settling, detect := d, line := .closed, silentRetry := false, counts := .zero
      waitFrom := s.hub.time } : PortRec)
    let overload := fun (x : PortRec) => ({ x with state := .fault, fault := some .overload, line := .closed } : PortRec)
    let seen := fun (d : Level) => ({ s with pins := { s.pins with detect := s.pins.detect.set p d } } : State)
    let asserted : State := { s with pins := { s.pins with fault := s.pins.fault.set p true } }
    (∀ bound, r.state = .active → s.Binding p bound →
      (s.hub.state = .ready → s.pins.detect.get p ≠ .openCircuit → ∃ t : State, exec (.detectChange p .openCircuit) s = .next t ∧
        s.Departed t p bound ∧ t.port p = empty ∧ t.pins = (seen .openCircuit).pins ∧
        t.links = (s.departing p bound (changed .empty .active .openCircuit 0)).links) ∧
      (∀ d, s.hub.state = .ready → d ≠ .openCircuit → s.pins.detect.get p ≠ d → ∃ t : State,
        exec (.detectChange p d) s = .next t ∧ s.Departed t p bound ∧ t.pins = (seen d).pins ∧
        let settled := s.departing p bound (changed .settling .active d 0)
        if s.pins.fault.get p then t.port p = overload (settling d) ∧
          t.links = (settled.notifyBoth (changed .fault .settling d 1)).links
        else t.port p = settling d ∧ t.links = settled.links) ∧
      (∃ t : State, exec (.driverFault p true) s = .next t ∧ s.Departed t p bound ∧ t.port p = overload bare ∧ t.pins = asserted.pins ∧
        t.links = (s.departing p bound (changed .fault .active r.detect 1)).links) ∧
      (∀ t0 d, r.nudgedAt = some t0 → 200 ≤ (s.hub.time - t0).toNat → r.pendingMode = none → r.device = some d →
        d.kind = .sensor → ∃ t : State, exec (.silentPath p) s = .next t ∧ s.Departed t p bound ∧ t.pins = s.pins ∧
          if r.silentRetry then
            t.port p = { bare with state := .fault, fault := some .silent, line := .closed } ∧
            t.links = (s.departing p bound (changed .fault .active r.detect 2)).links
          else
            t.port p = { bare with
              state := .identifying, stage := some .enquiring, silentRetry := true, line := .b2400
              identFrom := s.hub.time, enquiredAt := s.hub.time, sent := [.enquire] } ∧
            t.links = (s.departing p bound (changed .identifying .active r.detect 0)).links)) ∧
    ((r.state = .identifying ∨ r.state = .rejected ∨ r.state = .fault) → s.hub.state = .ready →
      ∀ d, s.pins.detect.get p ≠ d →
        (d = .openCircuit → exec (.detectChange p d) s =
          .next (((seen d).notifyBoth (changed .empty r.state d 0)).setPort p empty)) ∧
        (d ≠ .openCircuit →
          let settled := (seen d).notifyBoth (changed .settling r.state d 0)
          exec (.detectChange p d) s = .next (if s.pins.fault.get p
            then (settled.notifyBoth (changed .fault .settling d 1)).setPort p (overload (settling d))
            else settled.setPort p (settling d)))) ∧
    ((r.state = .settling ∨ r.state = .identifying ∨ r.state = .rejected) → exec (.driverFault p true) s =
      .next ((asserted.notifyBoth (changed .fault r.state r.detect 1)).setPort p (overload bare))) ∧
    (∀ on, (on = false ∨ r.state = .empty ∨ r.state = .fault) →
      exec (.driverFault p on) s = .next { s with pins := { s.pins with fault := s.pins.fault.set p on } })

/-! ### Motor channels, motion commands and the control loop (chapters 3 and 4) -/

/-- R43, R44, R45, R47, R48, R66, R74: the judgements, and the whole next state. That the stall policy of a DUTY MOVE is ignored and so not checked is the model’s reading (notes/assumptions/32). The Δv and target of a DUTY command’s profile are the model’s choice (notes/assumptions/78). CommandStart says what startEncoder does. -/
def Obligations.MoveAccepted : Prop :=
  ∀ (s : State) (l : Link) (tag : Byte) (n : Nat) (b : List Byte), s.Waits l tag .move n b →
    let p := portOf (u8 b 0)
    let m := s.motor p
    let kind := (s.port p).device.map (fun d => d.kind)
    let plain := kind = some .plainMotor ∨ kind = some .lamp
    let last := match m.waiting.getLast? with | some a => some a | none => m.active
    let checks := [(decide (b.length ≠ 13 ∨ 4 < u8 b 2 ∨ 2 < u8 b 10 ∨ (u8 b 2 ≠ 4 ∧ 1 < u8 b 11) ∨ 1 < u8 b 12 ∨
        (u8 b 2 = 3 ∧ (s32 b 4 < 1 ∨ 3600000 < s32 b 4)) ∨ (s8 b 3 = 0 ∧ u8 b 2 ≠ 0 ∧ u8 b 2 ≠ 4)),
        Judgement.parameterError)] ++ s.portGuard (u8 b 0) (u8 b 1) ++
      [(decide (kind = some .sensor), .deviceMismatch), (decide (plain ∧ u8 b 2 ≠ 4), .deviceMismatch),
        (decide (plain ∧ u8 b 10 = 2), .deviceMismatch), ((s.motor p).pair.isSome, .portPaired),
        (decide (u8 b 2 = 2 ∧ 2000000000 < (nearest (s32 b 4 * s.cpr p) 360).natAbs), .parameterError),
        (s.otherHolds l p, .heldByOtherLink), (decide (s.supply.state = some .cutoff), .supplyLow),
        (decide (u8 b 12 = 1 ∧ m.state = .running ∧ ∃ a, last = some a ∧ (a.kind = .speed ∨ a.kind = .duty)),
          .sequenceError),
        (decide (u8 b 12 = 1 ∧ m.state = .running ∧ 4 ≤ m.waiting.length), .queueFull)]
    let number := if 65535 ≤ m.counter then 1 else m.counter + 1
    let c : Command := ⟨l, number, moveKindOf (u8 b 2), max (-100) (min 100 (s8 b 3)), 0,
      (if u8 b 2 = 4 then max (if kind = some .lamp then 0 else -10000) (min 10000 (s32 b 4)) else s32 b 4),
      (if u16 b 8 = 65535 then 300 else min (u16 b 8) 10000), endActionOf (u8 b 10), stallOf (u8 b 11), none⟩
    let duty : Motor := { m with
      state := .running, counter := number, active := some c, waiting := [], integral := 0, stallTimer := 0
      holdTarget := none, profile := { Profile.reset with pRef := m.position * 1000, phase := .duty } }
    let claimed := fun (t : State) => t.setPort p { t.port p with holder := some l }
    (∀ j, judge checks = some j → exec (.move l tag) s = .next (s.answered l tag .move n j [])) ∧
    (judge checks = none → u8 b 12 = 1 → m.state = .running →
      exec (.move l tag) s = .next (((claimed s).setMotor p { m with
        counter := number, waiting := m.waiting ++ [c] }).answered l tag .move n .normalCompletion (e16 number))) ∧
    (judge checks = none → (u8 b 12 ≠ 1 ∨ m.state ≠ .running) → s.Unpaired p →
      let started := match s.motorPart p with
        | some x => if u8 b 2 = 4 then duty else { m.startEncoder x c .request with counter := number, waiting := [] }
        | none => duty
      exec (.move l tag) s = .next (((claimed (s.notifyAll (s.endings p .superseded))).setMotor p started).answered l tag
        .move n .normalCompletion (e16 number)))

/-- R62, R66, R67, R46, on the channel’s start by request. That a DEGREES command of amount 0 has no travel is read by inference (notes/assumptions/15). The direction +1 where the sign of R62 is 0 is the model’s choice (notes/assumptions/54), as is the target 0 of a SPEED or TIME command (notes/assumptions/78). -/
def Obligations.CommandStart : Prop :=
  ∀ (m : Motor) (x : MotorPart) (c : Command), c.pair = none → c.kind ≠ .duty →
    let vmax : Int := ((x.maxSpeed : Int) * x.cpr).tdiv 360
    let distance := nearest (c.amount * x.cpr) 360
    let tol : Int := max 1 ((x.cpr : Int).tdiv 120)
    let overDuty := m.state = .running ∧ ∃ a, m.active = some a ∧ a.kind = .duty
    let v0 := if m.state = .running then (if overDuty then max (-vmax) (min vmax m.speed) else m.profile.v) else 0
    let p0 := if m.state = .holding then (m.holdTarget.getD m.position) * 1000
      else if m.state = .running ∧ ¬ overDuty then m.profile.pRef else m.position * 1000
    let i0 := if m.state = .holding ∨ (m.state = .running ∧ ¬ overDuty) then m.integral else 0
    let target := if c.kind = .degrees
        then max (-2000000000) (min 2000000000 (p0.tdiv 1000 + distance * c.speed.sign))
      else if c.kind = .position then distance else 0
    let still := (c.kind = .degrees ∧ (target * 1000 = p0 ∨ c.amount = 0)) ∨
      (c.kind = .position ∧ (target * 1000 = p0 ∨ (target - m.position).natAbs ≤ tol))
    let t := m.startEncoder x c .request
    t = { m with
      state := .running, active := some c, stallTimer := 0, holdTarget := none, integral := i0, profile := t.profile } ∧
    t.profile.vmax = vmax ∧ t.profile.tol = tol ∧ t.profile.target = target ∧
    t.profile.vt = ((c.speed.natAbs : Int) * vmax).tdiv 100 ∧
    t.profile.dv = (if c.ramp = 0 then vmax else max 1 (((vmax.toNat * 5 + c.ramp - 1) / c.ramp : Nat) : Int)) ∧
    t.profile.d = (if c.kind = .degrees ∨ c.kind = .position then (if target * 1000 < p0 then -1 else 1)
      else if c.kind = .speed ∧ c.speed = 0 then (if v0 < 0 then -1 else 1) else c.speed.sign) ∧
    t.profile.elapsed = 0 ∧ t.profile.inTol = 0 ∧ t.profile.settleTimer = 0 ∧ t.profile.rampDown = false ∧
    (still → t.profile.v = 0 ∧ t.profile.pRef = target * 1000 ∧ t.profile.phase = .settle ∧ t.profile.settling = true) ∧
    (¬ still → t.profile.v = v0 ∧ t.profile.pRef = p0 ∧ t.profile.settling = false)

/-- R52, R50, R53, R54. The model’s choices: a HALT with HOLD on a channel already HOLDING holds at the present position (notes/assumptions/41), and the previous u is 0 in FREE and BRAKED (notes/assumptions/42). -/
def Obligations.HaltZeroGains : Prop :=
  ∀ (s : State) (l : Link) (tag : Byte) (n : Nat) (b : List Byte),
    let p := portOf (u8 b 0)
    let m := s.motor p
    let kind := (s.port p).device.map (fun d => d.kind)
    let plain := kind = some .plainMotor ∨ kind = some .lamp
    let claimed := fun (t : State) => t.setPort p { t.port p with holder := some l }
    (s.Waits l tag .halt n b →
      let checks := [(decide (b.length ≠ 3 ∨ 2 < u8 b 2), Judgement.parameterError)] ++ s.portGuard (u8 b 0) (u8 b 1) ++
        [(decide (kind = some .sensor), .deviceMismatch), (decide (plain ∧ u8 b 2 = 2), .deviceMismatch),
          (s.otherHolds l p, .heldByOtherLink),
          (decide (s.supply.state = some .cutoff ∧ u8 b 2 = 2), .supplyLow)]
      (∀ j, judge checks = some j → exec (.halt l tag) s = .next (s.answered l tag .halt n j [])) ∧
      (judge checks = none → s.Unpaired p → exec (.halt l tag) s =
        .next (((claimed (s.notifyAll (s.endings p .halted))).setMotor p
          (m.ended (endActionOf (u8 b 2)) m.position)).answered l tag .halt n .normalCompletion
            (e8 ((if m.active = none then 0 else 1) + m.waiting.length))))) ∧
    (s.Waits l tag .setZero n b →
      let checks := [(decide (b.length ≠ 2), Judgement.parameterError)] ++ s.portGuard (u8 b 0) (u8 b 1) ++
        [(decide (kind ≠ some .motor), .deviceMismatch), (s.otherHolds l p, .heldByOtherLink),
          (decide (m.state = .running), .busy)]
      (∀ j, judge checks = some j → exec (.setZero l tag) s = .next (s.answered l tag .setZero n j [])) ∧
      (judge checks = none → exec (.setZero l tag) s = .next (((claimed s).setMotor p { m with
        position := 0, saturated := false
        history := ⟨m.history.h0 - m.position, m.history.h1 - m.position, m.history.h2 - m.position,
          m.history.h3 - m.position, m.history.h4 - m.position⟩
        holdTarget := m.holdTarget.map (fun x => x - m.position)
        profile := { m.profile with pRef := m.profile.pRef -
          (if m.holdTarget = none then 0 else m.position * 1000) } }).answered l tag .setZero n .normalCompletion []))) ∧
    (s.Waits l tag .setGains n b →
      let checks := [(decide (b.length ≠ 7 ∨ 1000 < u16 b 2 ∨ 500 < u16 b 4 ∨ 2 < u8 b 6),
          Judgement.parameterError)] ++ s.portGuard (u8 b 0) (u8 b 1) ++
        [(decide (kind ≠ some .motor), .deviceMismatch), (s.otherHolds l p, .heldByOtherLink)]
      (∀ j, judge checks = some j → exec (.setGains l tag) s = .next (s.answered l tag .setGains n j [])) ∧
      (∀ x, judge checks = none → s.motorPart p = some x → x.size ≤ 2 →
        exec (.setGains l tag) s = .next (((claimed s).setMotor p { m with
          gains := some (if u8 b 6 = 2 then (if x.size = 0 then ⟨120, 15, true⟩ else if x.size = 1 then ⟨150, 20, true⟩
            else ⟨200, 25, true⟩) else ⟨u16 b 2, u16 b 4, decide (u8 b 6 = 1)⟩) }).answered l tag .setGains n
              .normalCompletion [])))

/-- R55, with its frame. -/
def Obligations.MotorStateAnswered : Prop :=
  ∀ (s : State) (l : Link) (tag : Byte) (n : Nat) (b : List Byte), s.Waits l tag .motorState n b →
    let p := portOf (u8 b 0)
    let m := s.motor p
    let checks := [(decide (b.length ≠ 2), Judgement.parameterError)] ++ s.portGuard (u8 b 0) (u8 b 1) ++
      [(decide ((s.port p).device.map (fun d => d.kind) = some .sensor), .deviceMismatch)]
    let active := match m.pair.bind s.pair with | some q => (s.motor q.first).active | none => m.active
    (∀ j, judge checks = some j → exec (.motorState l tag) s = .next (s.answered l tag .motorState n j [])) ∧
    (judge checks = none → exec (.motorState l tag) s = .next (s.answered l tag .motorState n .normalCompletion
      (e8 (u8 b 0) ++ e8 (chanStateCode m.state) ++ e8 (phaseCode m.profile.phase) ++ e8 (if m.saturated then 1 else 0) ++
        es32 m.position ++ es32 ((m.position * 360).tdiv (s.cpr p)) ++ es32 ((m.speed * 360).tdiv (s.cpr p)) ++
        es16 m.duty ++ e16 ((active.map (fun c => c.number)).getD 0) ++
        e8 ((active.map (fun c => moveKindCode c.kind)).getD 255) ++ e8 (m.pair.getD 255) ++
        e16 ((m.gains.map (fun g => g.kp)).getD 0) ++ e16 ((m.gains.map (fun g => g.ki)).getD 0) ++
        e8 (if (m.gains.map (fun g => g.feedforward)).getD false then 1 else 0) ++ e16 m.counter ++
        e8 m.waiting.length ++ (m.waiting.map (fun c => e16 c.number)).flatten)))

/-- R56, R58, with the whole next state. -/
def Obligations.PairsBoundAndFreed : Prop :=
  ∀ (s : State) (l : Link) (tag : Byte) (n : Nat) (b : List Byte),
    (s.Waits l tag .pairBind n b →
      let p := portOf (u8 b 0)
      let q := portOf (u8 b 2)
      let dev := fun x => (s.port x).device
      let mismatch := fun x g => g ≠ 0 ∧ g ≠ (s.port x).generation
      let checks := [(decide (b.length ≠ 6 ∨ u8 b 0 = u8 b 2), Judgement.parameterError),
        (decide (5 < u8 b 0 ∨ 5 < u8 b 2 ∨ (s.port p).state ≠ .active ∨ (s.port q).state ≠ .active), .portError),
        (decide (mismatch p (u8 b 1) ∨ mismatch q (u8 b 3)), .deviceMismatch),
        (decide ((dev p).map (fun d => d.kind) ≠ some .motor ∨ (dev q).map (fun d => d.kind) ≠ some .motor ∨
          (dev p).map (fun d => d.typeNumber) ≠ (dev q).map (fun d => d.typeNumber)), .deviceMismatch),
        ((s.motor p).pair.isSome || (s.motor q).pair.isSome, .portPaired),
        (s.otherHolds l p || s.otherHolds l q, .heldByOtherLink),
        (decide ((s.motor p).state = .running ∨ (s.motor q).state = .running), .busy),
        (decide (s.pair 0 ≠ none ∧ s.pair 1 ≠ none ∧ s.pair 2 ≠ none), .queueFull)]
      let k := if s.pair 0 = none then 0 else if s.pair 1 = none then 1 else 2
      (∀ j, judge checks = some j → exec (.pairBind l tag) s = .next (s.answered l tag .pairBind n j [])) ∧
      (judge checks = none → exec (.pairBind l tag) s = .next ((((((s.setPort p { s.port p with
          holder := some l }).setPort q { s.port q with holder := some l }).setMotor p { s.motor p with
          pair := some k }).setMotor q { s.motor q with pair := some k }).setPair k (some ⟨p, q,
            if u16 b 4 = 0 then s.cpr p / 12 else u16 b 4, l⟩)).answered l tag .pairBind n .normalCompletion (e8 k)))) ∧
    (s.Waits l tag .pairUnbind n b →
      let k := u8 b 0
      (s.pair k = none → exec (.pairUnbind l tag) s = .next (s.answered l tag .pairUnbind n .parameterError [])) ∧
      (∀ q, s.pair k = some q →
        let checks := [(decide (b.length ≠ 1 ∨ 2 < k), Judgement.parameterError),
          (decide (q.holder ≠ l), .heldByOtherLink), (decide ((s.motor q.first).active ≠ none), .busy)]
        (∀ j, judge checks = some j → exec (.pairUnbind l tag) s = .next (s.answered l tag .pairUnbind n j [])) ∧
        (judge checks = none → q.first ≠ q.second → exec (.pairUnbind l tag) s = .next ((((s.setMotor q.first
          { s.motor q.first with pair := none }).setMotor q.second { s.motor q.second with pair := none }).setPair k
            none).answered l tag .pairUnbind n .normalCompletion []))))

/-- R57, R47, R66, R76, on an idle pair and on a running one. The final error of a superseded follower without a target is a free value (notes/assumptions/17); the follower’s target in a DEGREES command without travel is the model’s choice (notes/assumptions/53), and that the follower starts by R66 on its own channel its reading (notes/assumptions/15). -/
def Obligations.PairMoveStarts : Prop :=
  ∀ (s : State) (l : Link) (tag : Byte) (n : Nat) (b : List Byte), s.Waits l tag .pairMove n b →
    (s.pair (u8 b 0) = none → exec (.pairMove l tag) s = .next (s.answered l tag .pairMove n .parameterError [])) ∧
    (∀ q, s.pair (u8 b 0) = some q →
      let m := s.motor q.first
      let last := match m.waiting.getLast? with | some a => some a | none => m.active
      let checks := [(decide (b.length ≠ 13 ∨ 2 < u8 b 0 ∨ (u8 b 1 ≠ 0 ∧ u8 b 1 ≠ 1 ∧ u8 b 1 ≠ 3) ∨ 2 < u8 b 10 ∨
          1 < u8 b 11 ∨ 1 < u8 b 12 ∨ (u8 b 1 = 3 ∧ (s32 b 4 < 1 ∨ 3600000 < s32 b 4)) ∨
          (u8 b 1 ≠ 0 ∧ s8 b 2 = 0 ∧ s8 b 3 = 0)), Judgement.parameterError),
        (decide (q.holder ≠ l), .heldByOtherLink), (decide (s.supply.state = some .cutoff), .supplyLow),
        (decide (u8 b 12 = 1 ∧ m.state = .running ∧ ∃ a, last = some a ∧ (a.kind = .speed ∨ a.kind = .duty)),
          .sequenceError),
        (decide (u8 b 12 = 1 ∧ m.state = .running ∧ 4 ≤ m.waiting.length), .queueFull)]
      let number := if 65535 ≤ m.counter then 1 else m.counter + 1
      let c : Command := ⟨l, number, moveKindOf (u8 b 1), max (-100) (min 100 (s8 b 2)), max (-100) (min 100 (s8 b 3)),
        s32 b 4, (if u16 b 8 = 65535 then 300 else min (u16 b 8) 10000), endActionOf (u8 b 10), stallOf (u8 b 11),
        some (u8 b 0)⟩
      let firstLeads := c.speedB.natAbs ≤ c.speed.natAbs
      let lead := if firstLeads then q.first else q.second
      let follower := if firstLeads then q.second else q.first
      (∀ j, judge checks = some j → exec (.pairMove l tag) s = .next (s.answered l tag .pairMove n j [])) ∧
      (judge checks = none → u8 b 12 = 1 → m.state = .running →
        exec (.pairMove l tag) s = .next ((s.setMotor q.first { m with
          counter := number, waiting := m.waiting ++ [c] }).answered l tag .pairMove n .normalCompletion (e16 number))) ∧
      (∀ x, judge checks = none → (u8 b 12 ≠ 1 ∨ m.state ≠ .running) → s.Bound (u8 b 0) q → s.motorPart q.first = some x →
        let f := s.motor follower
        let leads := (s.motor lead).startEncoder x c .request
        let follows := f.startFollower x .request leads.profile
        let runs := fun (p : Port) => if p = lead then leads else follows
        exec (.pairMove l tag) s = .next ((((s.notifyAll (s.pairEndings (u8 b 0) q .superseded)).setMotor q.first
          { runs q.first with active := some c, counter := number, waiting := [] }).setMotor q.second
            { runs q.second with active := none }).answered l tag .pairMove n .normalCompletion (e16 number)) ∧
        leads.state = .running ∧ follows.state = .running ∧
        leads.profile.vt = (((if firstLeads then c.speed else c.speedB).natAbs : Int) * leads.profile.vmax).tdiv 100 ∧
        follows.profile.start = (if f.state = .holding then (f.holdTarget.getD f.position) * 1000
          else if f.state = .running ∧ (∀ a, f.active = some a → a.kind ≠ .duty) then f.profile.pRef
          else f.position * 1000) ∧
        follows.integral = (if f.state = .holding ∨ (f.state = .running ∧ ∀ a, f.active = some a → a.kind ≠ .duty)
          then f.integral else 0)))

/-- R58 (dissolution), R36, R59, R52, R43, R49. A HALT with HOLD on a pair that is HOLDING holds at the present positions (notes/assumptions/41). The previous u of a channel that enters FREE or BRAKED is 0 by notes/assumptions/42; the outputs a departure clears have no mode (notes/assumptions/44), and its unseeded filter states are 0 (notes/assumptions/74). Each command by which a bound port departs, with all else that it does, is in DepartureOfAPort, PortResetAnswered and SupervisionOfASensor; here are the Motion Unit’s part of it, and a DRIVER FAULT as one of its causes. -/
def Obligations.PairDissolved : Prop :=
  ∀ (s : State) (k : Nat) (q : Pair), s.Bound k q →
    (∀ (l : Link) (tag : Byte) (n : Nat) (b : List Byte),
      let p := portOf (u8 b 0)
      (p = q.first ∨ p = q.second) → u8 b 0 ≤ 5 → (s.port p).state = .active →
      (u8 b 1 = 0 ∨ u8 b 1 = (s.port p).generation) → (s.port p).holder = some l →
      (s.Waits l tag .releasePort n b → b.length = 2 → exec (.releasePort l tag) s =
        .next (((((s.notifyAll (s.pairEndings k q .released)).pairFreed k q).setPort p
          { s.port p with holder := none })).answered l tag .releasePort n .normalCompletion [])) ∧
      (s.Waits l tag .halt n b → b.length = 3 → u8 b 2 ≤ 2 → (s.port p).device.map (fun d => d.kind) = some .motor →
        (s.supply.state ≠ some .cutoff ∨ u8 b 2 ≠ 2) → exec (.halt l tag) s =
          .next (((s.notifyAll (s.pairEndings k q .halted)).pairStopped q (endActionOf (u8 b 2))).answered l tag .halt n
            .normalCompletion
              (e8 ((if (s.motor q.first).active = none then 0 else 1) + (s.motor q.first).waiting.length))))) ∧
    (∀ p, p = q.first ∨ p = q.second →
      s.departMotor p = (((s.notifyAll (s.pairEndings k q .removed)).pairFreed k q).setMotor p { s.motor p with
        state := .free, duty := 0, active := none, waiting := [], integral := 0, holdTarget := none, pair := none
        profile := { (s.motor p).profile with phase := .idle } }) ∧
      (s.hub.held = false → (s.port p).state = .active → ∃ t : State, exec (.driverFault p true) s = .next t ∧
        s.Departed t p (some (k, q)) ∧ (t.port p).state = .fault ∧ (t.port p).fault = some .overload ∧
        t.pair k = none ∧ (∀ y, y = q.first ∨ y = q.second → (t.motor y).state = .free ∧ (t.motor y).active = none ∧
          (t.motor y).waiting = [] ∧ (t.motor y).pair = none ∧ (t.motor y).duty = 0)))

/-- R70, R71, R75, R49, R50, R51, and R57, R75 and R78 for a pair, whose two motors settle and stall together. That these rows act as commands where their condition holds is notes/assumptions/21, and that they change nothing elsewhere notes/assumptions/4. The previous u of a channel that enters FREE or BRAKED is 0 by notes/assumptions/42, the model’s choice. The oldest waiting command’s start after an end is NextCommandStarts; CONTROL PERIOD makes these tests itself (ControlPeriodLaw). -/
def Obligations.CommandsEndByThemselves : Prop :=
  (∀ (s : State) (p : Port), (s.hub.held = true ∨ (s.Unpaired p ∧ (s.motor p).active = none) ∨
      ∃ k q, s.Bound k q ∧ (p = q.first ∨ p = q.second) ∧ (s.motor q.first).active = none) →
    exec (.timeRunEnd p) s = .next s ∧ exec (.settleDone p) s = .next s ∧ exec (.settleTimeout p) s = .next s ∧
      exec (.stallRecognised p) s = .next s) ∧
  (∀ (s : State) (p : Port) (c : Command), s.hub.held = false →
    let m := s.motor p
    s.Unpaired p → m.active = some c →
    let bounded := c.kind = .degrees ∨ c.kind = .position
    let ends := fun (o : EndOutcome) (hold : Int) => (s.notifyAll [s.doneNotice p o c (m.errorAtEnd c)]).setMotor p
      (m.ended c.endAction hold)
    let overTime := c.kind = .time ∧ (c.amount.toNat + 4) / 5 < m.profile.elapsed ∧ m.profile.rampDown = false
    let settled := bounded ∧ m.profile.settling = true ∧ 3 ≤ m.profile.inTol
    let late := bounded ∧ m.profile.settling = true ∧ 80 ≤ m.profile.settleTimer
    let stalled := c.kind ≠ .duty ∧ 100 ≤ m.stallTimer
    (overTime → exec (.timeRunEnd p) s =
      .next (s.setMotor p { m with profile := { m.profile with rampDown := true, phase := .decel } })) ∧
    (¬ overTime → exec (.timeRunEnd p) s = .next s) ∧
    (settled → m.waiting = [] → exec (.settleDone p) s = .next (ends .done m.profile.target)) ∧
    (¬ settled → exec (.settleDone p) s = .next s) ∧
    (late → m.waiting = [] → exec (.settleTimeout p) s = .next (ends .done m.profile.target)) ∧
    (¬ late → exec (.settleTimeout p) s = .next s) ∧
    (stalled → c.stall = .fail → exec (.stallRecognised p) s =
      .next ((s.notifyAll (s.endings p .stalled)).setMotor p (m.ended .coast 0))) ∧
    (stalled → c.stall = .finish → m.waiting = [] →
      exec (.stallRecognised p) s = .next (ends .stallEnd m.position)) ∧
    (¬ stalled → exec (.stallRecognised p) s = .next s)) ∧
  ∀ (s : State) (p : Port) (k : Nat) (q : Pair) (c : Command), s.hub.held = false → s.Bound k q →
    (p = q.first ∨ p = q.second) → (s.motor q.first).active = some c →
    let m := s.motor q.first
    let bounded := c.kind = .degrees ∨ c.kind = .position
    let both := fun (f : Motor → Bool) => f m = true ∧ f (s.motor q.second) = true
    let ends := fun (o : EndOutcome) (hold : Motor → Int) =>
      ((s.notifyAll [s.pairEnd k q o c]).setMotor q.first (m.ended c.endAction (hold m))).setMotor q.second
        ((s.motor q.second).ended c.endAction (hold (s.motor q.second)))
    let settled := bounded ∧ both (fun x => x.profile.settling && decide (3 ≤ x.profile.inTol))
    let late := bounded ∧ m.profile.settling = true ∧ 80 ≤ m.profile.settleTimer
    let stalled := c.kind ≠ .duty ∧ (100 ≤ m.stallTimer ∨ 100 ≤ (s.motor q.second).stallTimer)
    let lead := if c.speedB.natAbs ≤ c.speed.natAbs then q.first else q.second
    let x := s.motor lead
    let overTime := c.kind = .time ∧ (c.amount.toNat + 4) / 5 < x.profile.elapsed ∧ x.profile.rampDown = false
    (overTime → exec (.timeRunEnd p) s =
      .next (s.setMotor lead { x with profile := { x.profile with rampDown := true, phase := .decel } })) ∧
    (¬ overTime → exec (.timeRunEnd p) s = .next s) ∧
    (settled → m.waiting = [] → exec (.settleDone p) s = .next (ends .done (fun x => x.profile.target))) ∧
    (¬ settled → exec (.settleDone p) s = .next s) ∧
    (late → m.waiting = [] → exec (.settleTimeout p) s = .next (ends .done (fun x => x.profile.target))) ∧
    (¬ late → exec (.settleTimeout p) s = .next s) ∧
    (stalled → c.stall = .fail → exec (.stallRecognised p) s =
      .next (((s.notifyAll (s.pairEndings k q .stalled)).setMotor q.first (m.ended .coast 0)).setMotor q.second
        ((s.motor q.second).ended .coast 0))) ∧
    (stalled → c.stall = .finish → m.waiting = [] →
      exec (.stallRecognised p) s = .next (ends .stallEnd (fun x => x.position))) ∧
    (¬ stalled → exec (.stallRecognised p) s = .next s)

/-- R49, R51, R66 (the rows after DONE and after STALL-END), R62, R67, R74; the TIME command’s own end (R70) is given on the operation that CONTROL PERIOD ends it with. That a DEGREES command of amount 0 has no travel is notes/assumptions/15. That SETTLE DONE, SETTLE TIMEOUT and STALL RECOGNISED act as commands is notes/assumptions/21. The target 0 of a SPEED or TIME command, and the Δv and target of a DUTY command’s profile, are the model’s choice (notes/assumptions/78). -/
def Obligations.NextCommandStarts : Prop :=
  ∀ (s : State) (p : Port) (c next : Command) (rest : List Command), s.hub.held = false →
    let m := s.motor p
    s.Unpaired p → m.active = some c → m.waiting = next :: rest →
    let goesOn := fun (o : EndOutcome) (origin : StartFrom) (p0 i0 : Int) (t : State) =>
      t = (s.notifyAll [s.doneNotice p o c (m.errorAtEnd c)]).setMotor p (t.motor p) ∧
      (t.motor p).active = some next ∧ (t.motor p).waiting = rest ∧ (t.motor p).state = .running ∧
      (t.motor p).position = m.position ∧ (t.motor p).stallTimer = 0 ∧ (t.motor p).holdTarget = none ∧
      (t.motor p).profile.v = 0 ∧ (t.motor p).profile.elapsed = 0 ∧ (t.motor p).profile.inTol = 0 ∧
      (t.motor p).profile.settleTimer = 0 ∧ (t.motor p).profile.rampDown = false ∧
      (next.kind = .duty → (t.motor p).profile.phase = .duty ∧ (t.motor p).profile.pRef = m.position * 1000 ∧
        (t.motor p).integral = 0) ∧
      (∀ x, next.kind ≠ .duty → s.motorPart p = some x →
        let distance := nearest (next.amount * x.cpr) 360
        let target := if next.kind = .degrees
            then max (-2000000000) (min 2000000000 (p0.tdiv 1000 + distance * next.speed.sign))
          else if next.kind = .position then distance else 0
        let still := (next.kind = .degrees ∧ (target * 1000 = p0 ∨ next.amount = 0)) ∨
          (next.kind = .position ∧ (target * 1000 = p0 ∨ (target - m.position).natAbs ≤ max 1 (x.cpr / 120)))
        t.motor p = { m.startEncoder x next origin with waiting := rest } ∧
        (t.motor p).integral = i0 ∧ (t.motor p).profile.target = target ∧
        (still → (t.motor p).profile.pRef = target * 1000 ∧ (t.motor p).profile.settling = true ∧
          (t.motor p).profile.phase = .settle) ∧
        (¬ still → (t.motor p).profile.pRef = p0 ∧ (t.motor p).profile.settling = false))
    let done := goesOn .done .afterDone m.profile.pRef m.integral
    let bounded := c.kind = .degrees ∨ c.kind = .position
    (bounded → m.profile.settling = true → 3 ≤ m.profile.inTol → ∃ t : State, exec (.settleDone p) s = .next t ∧ done t) ∧
    (bounded → m.profile.settling = true → 80 ≤ m.profile.settleTimer →
      ∃ t : State, exec (.settleTimeout p) s = .next t ∧ done t) ∧
    (c.kind = .time → m.profile.rampDown = true → m.profile.v = 0 → done (s.timeDone p c)) ∧
    (c.kind ≠ .duty → 100 ≤ m.stallTimer → c.stall = .finish → ∃ t : State, exec (.stallRecognised p) s = .next t ∧
      goesOn .stallEnd .afterStall (m.position * 1000) 0 t)

/-- R65 in its order, with R63, R64, R67, R70 to R78, R49, R51, R81, R42. The premises say that the pair table and the channels agree, as ChannelsStayAgreed keeps them. The two channels of a pair without a command go as channels of their own (notes/assumptions/55); the follower’s target in a waiting DEGREES command without travel that starts is notes/assumptions/53; the order of a pair’s samples is notes/assumptions/43, and where no watch halts a port it shows in no value. R86: each sample passes through both links’ views of its port (`State.sampleTaken`); that the channels go in letter order and PL’s view before TL’s is the model’s choice (notes/assumptions/14). The previous u of a channel that enters FREE or BRAKED is 0 by notes/assumptions/42; that the lag hold has no effect while the lead’s v is 0, and a follower’s start, are notes/assumptions/15; the profile fields that no rule gives a DUTY, SPEED or TIME command that starts are notes/assumptions/78. R42, R30, R169: the bridge, which follows from the records (notes/assumptions/37). -/
def Obligations.ControlPeriodLaw : Prop :=
  (∀ s : State, (∃ t : State, exec .controlPeriod s = .next t) ∧ (∀ p e, ∃ t : State, exec (.encoderEdge p e) s = .next t) ∧
    (s.hub.held = true → exec .controlPeriod s = .next s ∧ ∀ p, s.bridge p = .off ∧
      ∀ e, exec (.encoderEdge p e) s = .next s)) ∧
  ∀ s : State, s.hub.held = false →
    let driven := fun p => (s.port p).state = .active ∧ ((s.port p).device.map (fun d => d.kind) = some .motor ∨
      (s.port p).device.map (fun d => d.kind) = some .plainMotor ∨ (s.port p).device.map (fun d => d.kind) = some .lamp)
    let taken := fun (p : Port) =>
      let m := s.motor p
      let x := max (-2000000000) (min 2000000000 (m.position + m.edges))
      { m with
        position := x, edges := 0, saturated := m.saturated || decide (m.position + m.edges ≠ x)
        history := ⟨x, m.history.h0, m.history.h1, m.history.h2, m.history.h3⟩, speed := (x - m.history.h3) * 50 }
    let ends := fun (p : Port) (m : Motor) (c : Command) (target : Int) (origin : StartFrom) =>
      match m.waiting with
      | [] => m.ended c.endAction target
      | next :: rest => match s.motorPart p with
        | some x => if next.kind = .duty then { m.startDuty next with waiting := rest }
          else { m.startEncoder x next origin with waiting := rest }
        | none => { m.startDuty next with waiting := rest }
    let stands := fun (m : Motor) (x : Int) => { m with profile := { m.profile with pRef := x * 1000, v := 0 } }
    let reference := fun (p : Port) (m : Motor) =>
      match m.state, m.active with
      | .running, some c =>
        let q := m.profile
        let bounded := c.kind = .degrees ∨ c.kind = .position
        if c.kind = .duty then stands m m.position
        else if q.settling = true then
          let count := if ((m.position - q.target).natAbs : Int) ≤ q.tol then q.inTol + 1 else 0
          let m' := { m with profile := { q with inTol := count, settleTimer := q.settleTimer + 1 } }
          if bounded ∧ (3 ≤ count ∨ 80 ≤ q.settleTimer + 1) then ends p m' c q.target .afterDone else m'
        else if c.kind = .time then
          let q' := { q with elapsed := q.elapsed + 1 }
          let q1 := if q.rampDown = true ∨ (c.amount.toNat + 4) / 5 < q.elapsed + 1
            then { q' with rampDown := true }.rampDownAdvance else q'.speedAdvance
          if q1.rampDown = true ∧ q1.v = 0 then ends p { m with profile := q1 } c m.position .afterDone
          else { m with profile := q1 }
        else { m with profile := if bounded then q.boundedAdvance else q.speedAdvance }
      | .running, none => m
      | .holding, _ => stands m (m.holdTarget.getD m.position)
      | _, _ => stands m m.position
    let loop := fun (p : Port) (m : Motor) =>
      let m' := m.control.stallTest
      match m'.active with
      | some c => if c.kind ≠ .duty ∧ 100 ≤ m'.stallTimer then
          (match c.stall with
            | .fail => m'.ended .coast 0
            | .finish => ends p m' c m'.position .afterStall).control
        else m'
      | none => m'
    let output := fun (m : Motor) =>
      { m with duty := if m.state = .holding then s.outputDuty m.profile.prevU
        else if m.state = .running then (match m.active with
          | some c => if c.kind = .duty then s.outputDuty c.amount else s.outputDuty m.profile.prevU
          | none => s.outputDuty m.profile.prevU)
        else 0 }
    let alone := fun (p : Port) => ∀ k q, (s.motor p).pair = some k → s.pair k = some q → (s.motor q.first).active = none
    let runs := fun (k : Nat) (q : Pair) (c : Command) =>
      s.Bound k q ∧ (s.motor q.first).active = some c ∧ driven q.first ∧ driven q.second
    let quiet := ∀ l k w, s.watch l k = some w → w.action = .none
    (∀ p, (¬ driven p → s.bridge p = .off) ∧ ((s.port p).state = .fault → s.bridge p = .off) ∧
      (driven p → s.bridge p = match (s.motor p).state with
        | .free => .off
        | .braked => .brake
        | .holding => .drive (s.motor p).duty
        | .running => .drive (s.motor p).duty)) ∧
    ((∀ p, s.Unpaired p ∨ ∃ k q, s.Bound k q ∧ (p = q.first ∨ p = q.second)) → (∀ k q, s.pair k = some q → s.Bound k q) →
      ∃ t : State, exec .controlPeriod s = .next t ∧
      t.ports = s.ports ∧ t.pairs = s.pairs ∧ t.hub = s.hub ∧
      (∀ p, ¬ driven p → (s.Unpaired p ∨ quiet) → t.motor p = s.motor p) ∧
      (∀ c, (∀ p, c = .port p → ¬ driven p) → t.sample c = s.sample c ∧ (∀ l, t.view l c = s.view l c) ∧
        ∀ l k w, s.watch l k = some w → w.chan = c → t.watch l k = some w) ∧
      (∀ p, driven p → (alone p ∨ ∃ k q c, runs k q c ∧ (p = q.first ∨ p = q.second)) →
        let m := taken p
        (t.motor p).position = m.position ∧ (t.motor p).edges = 0 ∧ (t.motor p).saturated = m.saturated ∧
        (t.motor p).history = m.history ∧ (t.motor p).speed = m.speed ∧ (t.motor p).gains = m.gains ∧
        (t.motor p).counter = m.counter ∧
        (t.motor p).duty.natAbs ≤ 10000 ∧ (s.supply.state = some .low → (t.motor p).duty.natAbs ≤ 7500) ∧
        (quiet → alone p → t.motor p = output (loop p (reference p m))) ∧
        ∃ u : State,
          let x : Sample := ⟨none, nextNumber (s.sample (.port p)).sequence, s.hub.time,
            [(m.position * 360).tdiv (s.cpr p), (m.speed * 360).tdiv (s.cpr p), (u.motor p).duty,
              phaseCode (u.motor p).profile.phase], [false, false, false, false], 5000⟩
          let v := u.sampleTaken (.port p) x
          t.sample (.port p) = x ∧ u.ports = s.ports ∧ u.pairs = s.pairs ∧ u.hub = s.hub ∧
          (∀ l, u.view l (.port p) = s.view l (.port p) ∧ t.view l (.port p) = v.view l (.port p)) ∧
          (∀ l k, (∀ w, s.watch l k = some w → w.chan = .port p) →
            u.watch l k = s.watch l k ∧ t.watch l k = v.watch l k) ∧
          (quiet → u.motor p = t.motor p ∧ ∀ y, alone y →
            (alone p → portCode y ≤ portCode p → u.motor y = t.motor y) ∧
            (portCode p < portCode y → u.motor y = s.motor y))) ∧
      (∀ k q c part, quiet → runs k q c → c.kind ≠ .duty → s.motorPart q.first = some part →
        ((s.motor q.first).profile.settling = (s.motor q.second).profile.settling ∧
          (s.motor q.first).profile.settleTimer = (s.motor q.second).profile.settleTimer) →
        let leads := c.speedB.natAbs ≤ c.speed.natAbs
        let z := c.pairStage q (taken (if leads then q.first else q.second)) (taken (if leads then q.second else q.first))
        let one := if leads then z.1 else z.2.1
        let two := if leads then z.2.1 else z.1
        let bounded := c.kind = .degrees ∨ c.kind = .position
        let hold := fun (m : Motor) => if bounded then m.profile.target else m.position
        let met := if z.2.2 = true then c.pairNext part .afterDone one two (hold one) (hold two) else (one, two)
        let x := met.1.control.stallTest
        let y := met.2.control.stallTest
        let left := if z.2.2 = false ∧ (100 ≤ x.stallTimer ∨ 100 ≤ y.stallTimer) then
            (match c.stall with
              | .fail => ((x.ended .coast 0).control, (y.ended .coast 0).control)
              | .finish =>
                let w := c.pairNext part .afterStall x y x.position y.position
                (w.1.control, w.2.control))
          else (x, y)
        t.motor q.first = output left.1 ∧ t.motor q.second = output left.2)) ∧
    (∀ p e, exec (.encoderEdge p e) s = .next (
      if (s.port p).state = .active ∧ (s.port p).device.map (fun d => d.kind) = some .motor then
        s.setMotor p { s.motor p with edges := (s.motor p).edges + (match e with | .up => 1 | .down => -1 | .skip => 0) }
      else s))

/-- R67, R68: with D = ceil(5w² / 2Δv), R ≤ D is 2Δv(R − 1) < 5w². The reference lands exactly on the target in every case. R69, R70: the other two steps. R76, R77: stage 2 of a pair, on the operation that CONTROL PERIOD takes it with. R72, R73, R75: the control law, the duty and the stall timer. The previous u of a channel that enters FREE or BRAKED is 0 by notes/assumptions/42, the model’s choice; that the lag hold has no effect on a SPEED or TIME command while the lead’s v is 0 is its reading (notes/assumptions/15). -/
def Obligations.ProfileStepsAndControlLaw : Prop :=
  (∀ q : Profile, (q.d = 1 ∨ q.d = -1) → 1 ≤ q.dv → 1 ≤ q.vt → q.target.natAbs ≤ 2000000000 →
     q.pRef.natAbs ≤ 2000000000000 → 0 < (q.target * 1000 - q.pRef) * q.d →
     let w := q.v * q.d
     let r := (q.target * 1000 - q.pRef) * q.d
     let braking := 2 * q.dv * (r - 1) < 5 * w * w
     let step := if w < 0 then (min 0 (w + q.dv), Phase.decel)
       else if braking then (max (w - q.dv) q.dv, .decel)
       else if w = q.vt then (w, .cruise) else if w < q.vt then (min (w + q.dv) q.vt, .accel)
       else (max (w - q.dv) q.vt, .decel)
     let next := max (-2000000000000) (min 2000000000000 (q.pRef + 5 * step.1 * q.d))
     (0 < (q.target * 1000 - next) * q.d →
       q.boundedAdvance = { q with pRef := next, v := step.1 * q.d, phase := step.2 }) ∧
     ((q.target * 1000 - next) * q.d ≤ 0 →
       q.boundedAdvance = { q with pRef := q.target * 1000, v := 0, phase := .settle, settling := true }) ∧
     0 ≤ (q.target * 1000 - q.boundedAdvance.pRef) * q.d ∧
     (0 ≤ w → (q.target * 1000 - q.boundedAdvance.pRef) * q.d < r)) ∧
  (∀ q : Profile,
    let w := q.v * q.d
    let advance := fun (w' : Int) (phase : Phase) => { q with
      pRef := max (-2000000000000) (min 2000000000000 (q.pRef + 5 * w' * q.d)), v := w' * q.d, phase := phase }
    q.speedAdvance = (if w < 0 then advance (min 0 (w + q.dv)) .decel
      else if w = q.vt then advance w .cruise
      else if w < q.vt then advance (min (w + q.dv) q.vt) .accel
      else advance (max (w - q.dv) q.vt) .decel) ∧
    q.rampDownAdvance = advance (if 0 < w then max 0 (w - q.dv) else min 0 (w + q.dv)) .decel) ∧
  (∀ (s : State) (k : Nat) (q : Pair) (c : Command), s.Bound k q → (s.motor q.first).active = some c → c.kind ≠ .duty →
    let firstLeads := c.speedB.natAbs ≤ c.speed.natAbs
    let lead := if firstLeads then q.first else q.second
    let follower := if firstLeads then q.second else q.first
    let sl := if firstLeads then c.speed else c.speedB
    let sf := if firstLeads then c.speedB else c.speed
    let x := s.motor lead
    let y := s.motor follower
    let bounded := c.kind = .degrees ∨ c.kind = .position
    let lags := fun (m : Motor) => q.lagLimit < (m.profile.pRef.tdiv 1000 - m.position).natAbs
    let held := (lags x ∨ lags y) ∧ (bounded ∨ x.profile.v ≠ 0)
    let timed : Profile := if c.kind = .time then { x.profile with
        elapsed := x.profile.elapsed + 1
        rampDown := x.profile.rampDown || decide ((c.amount.toNat + 4) / 5 < x.profile.elapsed + 1) }
      else x.profile
    let stepped := if bounded then timed.boundedAdvance
      else if c.kind = .time ∧ timed.rampDown = true then timed.rampDownAdvance else timed.speedAdvance
    let reference := max (-2000000000000) (min 2000000000000 (y.profile.start +
      (if sl = 0 then 0 else ((stepped.pRef - stepped.start) * sf).tdiv sl)))
    let scaled := if stepped.settling = true then { y.profile with
        pRef := reference.tdiv 1000 * 1000, target := reference.tdiv 1000, v := 0, phase := .settle, settling := true
        inTol := 0, settleTimer := 0 }
      else { y.profile with
        pRef := reference, v := if sl = 0 then 0 else (stepped.v * sf).tdiv sl, phase := stepped.phase }
    let next := (s.setMotor lead { x with profile := stepped }).setMotor follower { y with profile := scaled }
    let ended := c.kind = .time ∧ stepped.rampDown = true ∧ stepped.v = 0
    x.profile.settling = false →
    (held → s.pairReference q c = s.setMotor lead { x with profile := timed }) ∧
    (¬ held → ¬ ended → s.pairReference q c = next) ∧
    (¬ held → ended → (s.motor q.first).waiting = [] →
      s.pairReference q c = (next.notifyAll [next.pairEnd k q .done c]).pairStopped q c.endAction)) ∧
  (∀ (m : Motor) (g : Gains) (s : State), m.gains = some g →
    let runs := m.state = .running ∧ ∀ c, m.active = some c → c.kind ≠ .duty
    (m.state = .holding ∨ runs) →
    let e := m.profile.pRef.tdiv 1000 - m.position
    let held := (10000 ≤ m.profile.prevU ∧ 0 < e) ∨ (m.profile.prevU ≤ -10000 ∧ e < 0)
    let i := if held then m.integral else m.integral + e
    let ff := if g.feedforward then (m.profile.v * 10000).tdiv m.profile.vmax else 0
    let u := ff + g.kp * e + max (-10000) (min 10000 ((g.ki * i).tdiv 100))
    let v : Int := max (s.supply.mean.getD 0) 5400
    let cap : Int := if s.supply.state = some .low then 7500 else 10000
    m.control = { m with integral := i, profile := { m.profile with prevU := u } } ∧
    s.outputDuty u = max (-cap) (min cap ((u * 7200).tdiv v)) ∧
    m.stallTest = { m with stallTimer :=
      if runs ∧ 8000 ≤ m.profile.prevU.natAbs ∧ (m.speed.natAbs : Int) ≤ m.profile.vmax.tdiv 20
      then m.stallTimer + 1 else 0 })

/-! ### Sensor channels and views, brick detectors and watches (chapters 5 and 6) -/

/-- R90, R93, R109, R85, with the settings recomputed by R83 and R84 (what a recomputation gives is in SourceAndFilterArithmetic) and SET INTERVAL by R28. That SET INTERVAL goes out where the interval differs from the one last sent is notes/assumptions/12. The model’s choices: the output of a view turned off has no mode (notes/assumptions/44), and unseeded filter states are 0 (notes/assumptions/74). -/
def Obligations.ViewSetAnswered : Prop :=
  ∀ (s : State) (l : Link) (tag : Byte) (n : Nat) (b : List Byte), s.Waits l tag .viewSet n b →
    let c : Chan := if u8 b 0 = 6 then .internal else .port (portOf (u8 b 0))
    let k := u8 b 11
    let v := s.view l c
    let on := u16 b 2 ≠ 0
    let interval := min (u16 b 2) 60000
    let up := fun (offers : List Nat) (widest x : Nat) => (offers.find? (fun y => decide (x ≤ y))).getD widest
    let checks := [(decide (8 < k ∨ b.length ≠ 12 + 4 * k ∨ 3 < u8 b 4 ∨ (5 < u8 b 6 ∧ u8 b 6 ≠ 255)),
      Judgement.parameterError), (decide (6 < u8 b 0), .portError)] ++ s.chanGuard (u8 b 0) (u8 b 1)
    (∀ j, judge checks = some j → exec (.viewSet l tag) s = .next (s.answered l tag .viewSet n j [])) ∧
    (judge checks = none → ∃ t : State,
      let us := match c with
        | .internal => t.sharedI.interval
        | .port p => if (t.port p).device.map (fun d => d.kind) = some .sensor then (t.port p).interval.getD 0 else 5000
      exec (.viewSet l tag) s = .next (t.answered l tag .viewSet n .normalCompletion
        (e32 us ++ e16 (if on then max 1 (interval * 1000 / us) else 0) ++
          (if c = .internal then e16 t.sharedI.accelRange ++ e16 t.sharedI.gyroRange else [0#8, 0#8, 0#8, 0#8]))) ∧
      t.view l c =
        { interval := interval, filter := filterOf (u8 b 4), strength := max 1 (min 7 (u8 b 5))
          offsets := (List.range 8).map (fun i => if i < k then s32 b (12 + 4 * i) else 0)
          accelRange := if c = .internal then up [2000, 4000, 8000, 16000] 16000 (u16 b 7) else v.accelRange
          gyroRange := if c = .internal then up [250, 500, 1000, 2000] 2000 (u16 b 9) else v.gyroRange
          stampPort := if u8 b 6 = 255 then none else some (portOf (u8 b 6)), counter := 0
          filters := List.replicate 8 ⟨0, 0, false⟩
          output := if on then v.output else .cleared (s.valueCount c)
          fresh := if on then v.fresh else false } ∧
      (∀ j x, (j ≠ l ∨ x ≠ c) → t.view j x = s.view j x) ∧
      (∀ i, i ≤ 7 → t.watch l i = (s.watch l i).map (fun w =>
        if w.chan = c then { w with state := .disarmed, progress := 0, reason := some .view } else w)) ∧
      (∀ j, j ≠ l → t.watches.get j = s.watches.get j) ∧
      t.sharedI = (if c = .internal then t.recomputeI.sharedI else s.sharedI) ∧
      (∀ p, (c ≠ .port p ∨ (s.port p).device.map (fun d => d.kind) ≠ some .sensor) → t.port p = s.port p) ∧
      (∀ p d m x, c = .port p → (s.port p).device = some d → d.kind = .sensor → (s.port p).mode = some m →
        d.modes[m]? = some x →
        let us := t.sensorInterval p x.minInterval
        t.port p = { s.port p with
          interval := some us, sentInterval := some us
          sent := if (s.port p).sentInterval = some us then (s.port p).sent else [.setInterval (us / 1000)] }) ∧
      t = { s with ports := t.ports, views := t.views, watches := t.watches, sharedI := t.sharedI })

/-- R92, R91 and the layout of section 1.9. -/
def Obligations.ReadValuesAnswered : Prop :=
  ∀ (s : State) (l : Link) (tag : Byte) (n : Nat) (b : List Byte), s.Waits l tag .readValues n b →
    let c : Chan := if u8 b 0 = 6 then .internal else .port (portOf (u8 b 0))
    let v := s.view l c
    let o := v.output
    let x := s.sample c
    let checks := [(decide (b.length ≠ 2), Judgement.parameterError), (decide (6 < u8 b 0), .portError)] ++
      s.chanGuard (u8 b 0) (u8 b 1)
    let block := fun (mode : Option Nat) (flags : Nat) (values : List Int) (clipped : List Bool) (seq : Nat)
        (time : Word32) (stamp : List Byte) =>
      e8 (u8 b 0) ++ e8 (mode.getD 255) ++ e8 flags ++ e8 values.length ++ e8 (flagByte clipped) ++ e16 seq ++
        e32 time.toNat ++ stamp ++ (values.map es32).flatten
    let body := if v.interval = 0 then block x.mode 4 x.values x.clipped x.sequence x.time []
      else block o.mode ((if v.fresh then 1 else 0) + 2 * (if o.stamp = none then 0 else 1)) o.values o.clipped o.sequence
        o.time (match o.stamp with | none => [] | some z => e16 z.number ++ e8 (phaseCode z.phase))
    (∀ j, judge checks = some j → exec (.readValues l tag) s = .next (s.answered l tag .readValues n j [])) ∧
    (judge checks = none →
      exec (.readValues l tag) s =
        .next ((s.setView l c { v with fresh := false }).answered l tag .readValues n .normalCompletion body) ∧
      body.length = (if v.interval = 0 then 11 + 4 * x.values.length
        else (if o.stamp = none then 11 else 14) + 4 * o.values.length))

/-- R82, R79, R86 to R89, R107: after the detectors (DetectorsTakeASample), which change their own records and hand their notices to the links alone, the sample passes through both links’ views of port I (`State.sampleTaken`). What one step of each filter is, is in SourceAndFilterArithmetic. PL’s view takes the sample before TL’s (notes/assumptions/14), so TL’s stamp is given where no watch of PL halts a port. -/
def Obligations.PortISampleTaken : Prop :=
  ∀ (s : State) (ax ay az gx gy gz : Int), s.hub.held = false →
    let limit := fun (r x : Int) => max (-r) (min r x)
    let a : Int := s.sharedI.accelRange
    let g : Int := 10 * (s.sharedI.gyroRange : Int)
    let beyond := fun (r x : Int) => decide (r ≤ x ∨ x ≤ -r)
    let x : Sample := ⟨none, nextNumber (s.sample .internal).sequence, s.hub.time,
      [limit a ax, limit a ay, limit a az, limit g gx, limit g gy, limit g gz],
      [beyond a ax, beyond a ay, beyond a az, beyond g gx, beyond g gy, beyond g gz], s.sharedI.interval⟩
    let outputs := fun (l : Link) => (s.view l .internal).interval ≠ 0 ∧ (s.view l .internal).due s.sharedI.interval = true
    (s.hub.state ≠ .ready → exec (.portISample ax ay az gx gy gz) s = .next s) ∧
    (s.hub.state = .ready → ∃ u t : State, exec (.portISample ax ay az gx gy gz) s = .next t ∧
      t = u.sampleTaken .internal x ∧ u = { s with brick := u.brick, brickWork := u.brickWork, links := u.links } ∧
      (s.brickSet.orientation = false → s.brickSet.tap = false → s.brickSet.freeFall = false →
        s.brickSet.motion = false → u = s) ∧
      t.sample .internal = x ∧
      (∀ l, (s.view l .internal).interval = 0 → t.view l .internal = s.view l .internal) ∧
      (∀ l, (s.view l .internal).interval ≠ 0 → ∃ z, t.view l .internal = (s.view l .internal).taken true x z ∧
        ((l = .pl ∨ ∀ k w, s.watch .pl k = some w → w.action = .none) →
          z = (s.view l .internal).stampPort.map s.stamped)) ∧
      (∀ l, ¬ outputs l → t.watches.get l = s.watches.get l) ∧
      ((∀ l, ¬ outputs l) → t.motors = s.motors ∧ t.links = u.links) ∧
      t.ports = s.ports ∧ t.sharedI = s.sharedI ∧ t.brickSet = s.brickSet ∧ t.hub = s.hub ∧
      (∀ p, t.sample (.port p) = s.sample (.port p)))

/-- R83, R84, R80 (the rounding on the whole scaled value, notes/assumptions/30), R87; R62, R80, R87 with section 0.5: `nearest` and the scaled value take a half away from zero. That a view of kind NONE leaves its filter state unseeded is the model’s choice (notes/assumptions/62). -/
def Obligations.SourceAndFilterArithmetic : Prop :=
  (∀ (s : State),
    let x := s.recomputeI.sharedI
    let on := fun (l : Link) (c : Chan) => (s.link l).up = true ∧ (s.view l c).interval ≠ 0
    let detects := s.brickSet.orientation = true ∨ s.brickSet.tap = true ∨ s.brickSet.freeFall = true ∨
      s.brickSet.motion = true
    let serves := fun (i : Nat) => (∀ l, on l .internal → i ≤ (s.view l .internal).interval * 1000) ∧ (detects → i ≤ 5000)
    let accel := fun (r : Nat) => (∃ l, on l .internal ∧ (s.view l .internal).accelRange = r) ∨
      (s.brickSet.tap = true ∧ r = 8000)
    let gyro := fun (r : Nat) => ∃ l, on l .internal ∧ (s.view l .internal).gyroRange = r
    let widest := fun (asks : Nat → Prop) (r dflt : Nat) =>
      (asks r ∧ ∀ y, asks y → y ≤ r) ∨ ((∀ y, ¬ asks y) ∧ r = dflt)
    x.interval ∈ [1250, 2500, 5000, 10000, 20000, 40000] ∧ (serves x.interval ∨ x.interval = 1250) ∧
    (∀ i ∈ [1250, 2500, 5000, 10000, 20000, 40000], serves i → i ≤ x.interval) ∧
    widest accel x.accelRange 8000 ∧ widest gyro x.gyroRange 2000 ∧
    (∀ (p : Port) (minimum : Nat), ∃ shortest : Nat, s.sensorInterval p minimum = max shortest minimum * 1000 ∧
      (∀ l, on l (.port p) → shortest ≤ (s.view l (.port p)).interval) ∧
      ((∃ l, on l (.port p) ∧ (s.view l (.port p)).interval = shortest) ∨
        ((∀ l, ¬ on l (.port p)) ∧ shortest = 100)))) ∧
  (∀ (m : ModeRecord) (raw : Int), m.rawMin < m.rawMax →
    let x := inFormat m.format raw
    let y := max m.rawMin (min m.rawMax x)
    let r := m.rawMax - m.rawMin
    let z := (scaleRaw m raw).1
    (scaleRaw m raw).2 = decide (x < m.rawMin ∨ m.rawMax < x) ∧
    min m.scaledMin m.scaledMax ≤ z ∧ z ≤ max m.scaledMin m.scaledMax ∧
    let exact := m.scaledMin * r + (y - m.rawMin) * (m.scaledMax - m.scaledMin)
    2 * (z * r - exact).natAbs ≤ r ∧
    ∀ k : Int, 0 ≤ k → (2 * exact = (2 * k + 1) * r → z = k + 1) ∧ (2 * exact = -((2 * k + 1) * r) → z = -(k + 1))) ∧
  (∀ a b : Int, 0 < b → 2 * (nearest a b * b - a).natAbs ≤ b ∧
    ∀ k : Int, 0 ≤ k → (2 * a = (2 * k + 1) * b → nearest a b = k + 1) ∧
      (2 * a = -((2 * k + 1) * b) → nearest a b = -(k + 1))) ∧
  (∀ (f : FilterState) (n : Nat) (a : Int),
    let y := if f.seeded then f.y + (256 * a - f.y).tdiv (2 ^ n) else 256 * a
    f.step .none n a = (f, a) ∧ f.step .low n a = (⟨y, f.prev, true⟩, nearest y 256) ∧
    f.step .high n a = (⟨y, f.prev, true⟩, a - nearest y 256) ∧
    f.step .slope n a = (⟨f.y, a, true⟩, if f.seeded then a - f.prev else 0) ∧
    (f.seeded = false → (f.step .low n a).2 = a ∧ (f.step .high n a).2 = 0))

/-- R96 to R101 and R103; the last clause is a sample with several detectors enabled, whose results do not depend on one another and whose notices come in the order of R101. With a view of port I on, watches may add notices of their own after these. -/
def Obligations.DetectorsTakeASample : Prop :=
  ∀ (s : State) (rx ry rz ux uy uz : Int), s.hub.held = false → s.hub.state = .ready →
    let limit := fun (r x : Int) => max (-r) (min r x)
    let ax := limit s.sharedI.accelRange rx
    let ay := limit s.sharedI.accelRange ry
    let az := limit s.sharedI.accelRange rz
    let gx := limit (10 * (s.sharedI.gyroRange : Int)) ux
    let gy := limit (10 * (s.sharedI.gyroRange : Int)) uy
    let gz := limit (10 * (s.sharedI.gyroRange : Int)) uz
    let b := s.brickSet
    let r := s.brick
    let w := s.brickWork
    let now := s.hub.time
    let run := fun (since : Word32) => (now - since).toNat
    let alone := fun (o tp ff mo : Bool) => b.orientation = o ∧ b.tap = tp ∧ b.freeFall = ff ∧ b.motion = mo
    let off := ∀ l, (s.view l .internal).interval = 0
    let largest := fun (x y z : Int) => if y.natAbs ≤ x.natAbs ∧ z.natAbs ≤ x.natAbs then (Axis.x, x)
      else if z.natAbs ≤ y.natAbs then (Axis.y, y) else (Axis.z, z)
    let event := fun (t : State) (r' : BrickState) (kind : BrickKind) (k : Nat) (previous : Face)
        (tap : Option (Axis × Bool)) (time : Word32) =>
      let n := min 65535 (r.counts.get 0 k + 1)
      let tell := fun (u : State) (l : Link) => if (s.subs.get l).toNat.testBit k = true
        then u.notify l (.brickEvent kind r'.orientation previous tap time n) else u
      t.brick = { r' with counts := r.counts.set 0 k n } ∧ (off → t.links = (tell (tell s .pl) .tl).links)
    let silent := fun (t : State) => t.brick = r ∧ (off → t.links = s.links)
    ∃ t : State, exec (.portISample rx ry rz ux uy uz) s = .next t ∧
      (alone false false false false → silent t ∧ t.brickWork = w) ∧
      (alone true false false false →
        let m := largest ax ay az
        let face := match m.1, decide (m.2 < 0) with
          | .x, false => Face.front | .x, true => .back | .y, false => .left | .y, true => .right
          | .z, false => .up | .z, true => .down
        let since := match w.candidate with
          | some (f, from_) => if f = face then from_ else now
          | none => now
        (m.2.natAbs < b.orientThreshold → silent t ∧ t.brickWork = { w with candidate := none }) ∧
        (b.orientThreshold ≤ m.2.natAbs → t.brickWork = { w with candidate := some (face, since) } ∧
          (b.orientDwell ≤ run since ∧ face ≠ r.orientation →
            event t { r with orientation := face } .orientation 0 r.orientation none now) ∧
          (run since < b.orientDwell ∨ face = r.orientation → silent t))) ∧
      (alone false true false false →
        let w0 := { w with tapPrev := some (ax, ay, az) }
        (w.tapPrev = none → silent t ∧ t.brickWork = w0) ∧
        (∀ px py pz, w.tapPrev = some (px, py, pz) →
          let m := largest (ax - px) (ay - py) (az - pz)
          let spike := b.tapThreshold < m.2.natAbs
          let quiet := m.2.natAbs < b.tapThreshold
          let first := fun (w' : DetectorWork) => if spike then { w' with
            tapStage := .quiet, tapAxis := m.1, tapNegative := decide (m.2 < 0), tapTime := now, tapSecond := false
            quietFrom := now } else w'
          let tapped := fun (k : TapKind) => { r with lastTap := ⟨k, w.tapAxis, w.tapNegative, w.tapTime⟩ }
          (w.tapStage = .idle → silent t ∧ t.brickWork = first w0) ∧
          (w.tapStage = .quiet →
            (¬ quiet → silent t ∧ t.brickWork = { w0 with quietFrom := now }) ∧
            (quiet → run w.quietFrom < b.tapQuiet → silent t ∧ t.brickWork = w0) ∧
            (quiet → b.tapQuiet ≤ run w.quietFrom →
              (w.tapSecond = false → silent t ∧ t.brickWork = { w0 with tapStage := .waiting }) ∧
              (w.tapSecond = true → t.brickWork = { w0 with tapStage := .idle, tapSecond := false } ∧
                event t (tapped .double) .doubleTap 2 r.orientation (some (w.tapAxis, w.tapNegative)) w.tapTime))) ∧
          (w.tapStage = .waiting →
            (b.doubleWindow < run w.tapTime → t.brickWork = first { w0 with tapStage := .idle } ∧
              event t (tapped .single) .singleTap 1 r.orientation (some (w.tapAxis, w.tapNegative)) w.tapTime) ∧
            (run w.tapTime ≤ b.doubleWindow → silent t ∧ t.brickWork = (if spike
              then { w0 with tapStage := .quiet, tapSecond := true, quietFrom := now } else w0))))) ∧
      (alone false false true false →
        let below := ax.natAbs < b.fallThreshold ∧ ay.natAbs < b.fallThreshold ∧ az.natAbs < b.fallThreshold
        let above := b.fallThreshold < ax.natAbs ∨ b.fallThreshold < ay.natAbs ∨ b.fallThreshold < az.natAbs
        let since := match w.fallRun with | some from_ => from_ | none => now
        (r.falling = false → below → t.brickWork = { w with fallRun := some since } ∧
          (b.fallDwell ≤ run since → event t { r with falling := true } .fallStart 3 r.orientation none now) ∧
          (run since < b.fallDwell → silent t)) ∧
        (r.falling = false → ¬ below → silent t ∧ t.brickWork = { w with fallRun := none }) ∧
        (r.falling = true → above → t.brickWork = { w with fallRun := none } ∧
          event t { r with falling := false } .fallEnd 4 r.orientation none now) ∧
        (r.falling = true → ¬ above → silent t ∧ t.brickWork = w)) ∧
      (alone false false false true →
        let below := gx.natAbs < b.motionThreshold ∧ gy.natAbs < b.motionThreshold ∧ gz.natAbs < b.motionThreshold
        let above := b.motionThreshold < gx.natAbs ∨ b.motionThreshold < gy.natAbs ∨ b.motionThreshold < gz.natAbs
        let since := match w.stillRun with | some from_ => from_ | none => now
        (above → t.brickWork = { w with stillRun := none } ∧
          (r.moving = true → silent t) ∧
          (r.moving = false → event t { r with moving := true } .moving 5 r.orientation none now)) ∧
        (¬ above → r.moving = false → silent t ∧ t.brickWork = w) ∧
        (r.moving = true → below → t.brickWork = { w with stillRun := some since } ∧
          (b.stillTime ≤ run since → event t { r with moving := false } .still 6 r.orientation none now) ∧
          (run since < b.stillTime → silent t)) ∧
        (r.moving = true → ¬ above → ¬ below → silent t ∧ t.brickWork = { w with stillRun := none })) ∧
      (off →
        let only := fun (u : State) (o tp ff mo : Bool) => { u with
          samples := s.samples
          brickSet := { b with
            orientation := b.orientation && o, tap := b.tap && tp, freeFall := b.freeFall && ff
            motion := b.motion && mo } }
        ∃ t1 t2 t3 t4 : State,
          exec (.portISample rx ry rz ux uy uz) (only s true false false false) = .next t1 ∧
          exec (.portISample rx ry rz ux uy uz) (only t1 false true false false) = .next t2 ∧
          exec (.portISample rx ry rz ux uy uz) (only t2 false false true false) = .next t3 ∧
          exec (.portISample rx ry rz ux uy uz) (only t3 false false false true) = .next t4 ∧
          t = { t4 with brickSet := b })

/-- R102, R95, R103, R104, with the whole next states. -/
def Obligations.BrickRequests : Prop :=
  ∀ (s : State) (l : Link) (tag : Byte) (n : Nat) (b : List Byte),
    (s.Waits l tag .brickDetectSet n b →
      let checks := [(decide (b.length ≠ 20 ∨ 16 ≤ u8 b 1), Judgement.parameterError),
        (decide (1 < u8 b 0), .deviceMismatch),
        (decide (s.holderI ≠ none ∧ s.holderI ≠ some l), .heldByOtherLink)]
      let flag := fun k => decide (u8 b 1 / 2 ^ k % 2 = 1)
      let field := fun i lo hi dflt => if u16 b i = 65535 then dflt else max lo (min hi (u16 b i))
      let x : BrickSettings := ⟨flag 0, flag 1, flag 2, flag 3, field 2 100 16000 800, field 4 0 10000 100,
        field 6 100 16000 1500, field 8 5 1000 30, field 10 0 2000 300, field 12 50 2000 300, field 14 0 1000 60,
        field 16 10 20000 500, field 18 0 60000 2000⟩
      let old := s.brickSet
      let t1 : State := { s with
        holderI := some l, brickSet := x, brickWork := .reset
        brick := { s.brick with
          moving := if old.motion = true ∧ x.motion = false then false else s.brick.moving
          falling := if old.freeFall = true ∧ x.freeFall = false then false else s.brick.falling } }
      let t := if old.orientation = x.orientation ∧ old.tap = x.tap ∧ old.freeFall = x.freeFall ∧ old.motion = x.motion
        then t1 else t1.recomputeI
      (∀ j, judge checks = some j → exec (.brickDetectSet l tag) s = .next (s.answered l tag .brickDetectSet n j [])) ∧
      (judge checks = none → exec (.brickDetectSet l tag) s = .next (t.answered l tag .brickDetectSet n
        .normalCompletion (e32 t.sharedI.interval ++ e16 t.sharedI.accelRange)))) ∧
    (s.Waits l tag .subscribe n b →
      ((b.length ≠ 1 ∨ 128 ≤ u8 b 0) →
        exec (.subscribe l tag) s = .next (s.answered l tag .subscribe n .parameterError [])) ∧
      (∀ mask, b = [mask] → mask.toNat < 128 → exec (.subscribe l tag) s =
        .next ({ s with subs := s.subs.set l mask }.answered l tag .subscribe n .normalCompletion []))) ∧
    (s.Waits l tag .brickState n b →
      let r := s.brick
      let tap := r.lastTap
      let body := e8 (enableFlags s.brickSet) ++ e8 (faceCode r.orientation) ++ e8 (if r.moving then 1 else 0) ++
        e8 (if r.falling then 1 else 0) ++ e8 (tapKindCode tap.kind) ++
        (if tap.kind = .none then [0xFF#8, 0xFF#8, 0#8, 0#8, 0#8, 0#8]
         else e8 (axisCode tap.axis) ++ e8 (if tap.negative then 1 else 0) ++ e32 tap.time.toNat) ++
        e16 (r.counts.get 0 0) ++ e16 (r.counts.get 0 1) ++ e16 (r.counts.get 0 2) ++ e16 (r.counts.get 0 3) ++
        e16 (r.counts.get 0 4) ++ e16 (r.counts.get 0 5) ++ e16 (r.counts.get 0 6) ++ e8 (holderCode s.holderI)
      (b ≠ [] → exec (.brickState l tag) s = .next (s.answered l tag .brickState n .parameterError [])) ∧
      (b = [] → body.length = 26 ∧
        exec (.brickState l tag) s = .next (s.answered l tag .brickState n .normalCompletion body)))

/-- R106, R105, R110. That the target and the end action are ignored and so not checked with action NONE, and level 2 with ABOVE and BELOW, is the model’s reading (notes/assumptions/32); the dwell progress 0 of an EMPTY slot in WATCH STATE is its choice (notes/assumptions/64). -/
def Obligations.WatchRequests : Prop :=
  ∀ (s : State) (l : Link) (tag : Byte) (n : Nat) (b : List Byte),
    (s.Waits l tag .watchSet n b →
      let c : Chan := if u8 b 1 = 6 then .internal else .port (portOf (u8 b 1))
      let act := u8 b 19
      let checks := [(decide (b.length ≠ 22 ∨ 7 < u8 b 0 ∨ 7 < u8 b 3 ∨ 3 < u8 b 4 ∨
          (2 ≤ u8 b 4 ∧ s32 b 9 < s32 b 5) ∨ s32 b 13 < 0 ∨ 1000000000 < s32 b 13 ∨ u8 b 17 = 0 ∨ 1 < u8 b 18 ∨ 2 < act ∨
          (act = 1 ∧ 5 < u8 b 20) ∨ (act = 2 ∧ 2 < u8 b 20) ∨ (act ≠ 0 ∧ 2 < u8 b 21) ∨
          (u8 b 4 = 3 ∧ u8 b 18 = 1 ∧ s32 b 9 - s32 b 5 < 2 * s32 b 13)), Judgement.parameterError),
        (decide (6 < u8 b 1), .portError)] ++ s.chanGuard (u8 b 1) (u8 b 2) ++
        [(decide (s.valueCount c ≤ u8 b 3), .parameterError)]
      let w : Watch := ⟨c, u8 b 3, conditionOf (u8 b 4), s32 b 5, s32 b 9, s32 b 13, u8 b 17, decide (u8 b 18 = 1),
        (if act = 0 then .none else if act = 1 then .haltPort (portOf (u8 b 20)) (endActionOf (u8 b 21))
          else .haltPair (u8 b 20) (endActionOf (u8 b 21))),
        (match c with | .internal => none | .port p => (s.port p).mode), .armed, 0, none, 0, 0⟩
      (∀ j, judge checks = some j → exec (.watchSet l tag) s = .next (s.answered l tag .watchSet n j [])) ∧
      (judge checks = none → exec (.watchSet l tag) s = .next ((s.setWatch l (u8 b 0) (some w)).answered l tag .watchSet n
        .normalCompletion [if (s.view l c).interval = 0 then 0#8 else 1#8]))) ∧
    (s.Waits l tag .watchClear n b →
      (b.length ≠ 1 → exec (.watchClear l tag) s = .next (s.answered l tag .watchClear n .parameterError [])) ∧
      (b.length = 1 →
        let named := fun k => u8 b 0 / 2 ^ k % 2 = 1
        ∃ t : State, exec (.watchClear l tag) s = .next (t.answered l tag .watchClear n .normalCompletion
            (e8 ((List.range 8).filter (fun k => decide (named k ∧ s.watch l k ≠ none))).length)) ∧
          (∀ k, t.watch l k = if k ≤ 7 ∧ named k then none else s.watch l k) ∧
          (∀ j, j ≠ l → t.watches.get j = s.watches.get j) ∧ t = { s with watches := t.watches })) ∧
    (s.Waits l tag .watchState n b →
      let one := fun (w : Option Watch) => match w with
        | none => [0#8, 0#8, 0xFF#8] ++ List.replicate 8 0#8
        | some w => e8 (watchStateCode w.state) ++ e8 (disarmCode w.reason) ++ e8 (chanCode w.chan) ++ e8 w.index ++
          e8 (conditionCode w.condition) ++ e8 w.progress ++ e8 w.dwell ++ e16 w.fires ++ e16 w.skips
      (b ≠ [] → exec (.watchState l tag) s = .next (s.answered l tag .watchState n .parameterError [])) ∧
      (b = [] → exec (.watchState l tag) s = .next (s.answered l tag .watchState n .normalCompletion
        (((List.range 8).map (fun k => one (s.watch l k))).flatten))))

/-- R107, R108, R60. Which samples are outputs, and that an output meets the slots 0 to 7 of its link in this order and another sample none, is `State.viewTaken`, by which PortISampleTaken, IdentificationMessages, SupervisionOfASensor and ControlPeriodLaw take every sample. That WATCH FIRED acts as a command where an entry has reached its dwell is notes/assumptions/21, and that it changes nothing elsewhere notes/assumptions/4. The model’s readings: HOLD on a PLAIN MOTOR or LAMP is BRAKE also in CUTOFF (notes/assumptions/31), and a HOLD halt on a channel already HOLDING holds at the present position (notes/assumptions/41). The previous u of a channel that enters FREE or BRAKED is 0 by notes/assumptions/42, the model’s choice. -/
def Obligations.WatchesFire : Prop :=
  (∀ (s : State) (l : Link) (c : Chan) (k : Nat), (∀ w, s.watch l k = some w → w.chan ≠ c) → s.evalWatch l c k = s) ∧
  ∀ (s : State) (l : Link) (k : Nat) (w : Watch), s.hub.held = false → s.watch l k = some w →
    let out := (s.view l w.chan).output
    let v := out.values.getD w.index 0
    let holds := match w.condition with
      | .above => w.level1 < v
      | .below => v < w.level1
      | .inside => w.level1 ≤ v ∧ v ≤ w.level2
      | .outside => v < w.level1 ∨ w.level2 < v
    let rearms := match w.condition with
      | .above => v ≤ w.level1 - w.hysteresis
      | .below => w.level1 + w.hysteresis ≤ v
      | .inside => v ≤ w.level1 - 1 - w.hysteresis ∨ w.level2 + 1 + w.hysteresis ≤ v
      | .outside => w.level1 + w.hysteresis ≤ v ∧ v ≤ w.level2 - w.hysteresis
    let meets := s.evalWatch l w.chan k
    let counted := fun (n : Nat) => s.setWatch l k (some { w with state := .pending, progress := n })
    let fired := fun (skips : Nat) => s.setWatch l k (some { w with
      fires := min 65535 (w.fires + 1), state := .fired, progress := 0, skips := skips })
    let notice := fun (act result ended : Nat) => NoticeBody.watchFired k w.chan w.index v out.sequence
      (out.clipped.getD w.index false) (min 65535 (w.fires + 1)) act result ended
    let skipped := fun (act result : Nat) => (fired (min 65535 (w.skips + 1))).notify l (notice act result 0)
    let kind := fun (p : Port) => (s.port p).device.map (fun d => d.kind)
    let motor := fun (p : Port) => (s.port p).state = .active ∧
      (kind p = some .motor ∨ kind p = some .plainMotor ∨ kind p = some .lamp)
    let takes := fun (p : Port) (e : EndAction) => if e = .hold
      then (if kind p ≠ some .motor then EndAction.brake else if s.supply.state = some .cutoff then .coast else .hold)
      else e
    let count := fun (p : Port) => (if (s.motor p).active = none then 0 else 1) + (s.motor p).waiting.length
    let single := fun (act : Nat) (p : Port) (e : EndAction) =>
      (((fired w.skips).notify l (notice act 1 (count p))).notifyAll (s.endings p .halted)).setMotor p
        ((s.motor p).ended e (s.motor p).position)
    let double := fun (act j : Nat) (q : Pair) (e : EndAction) =>
      (((fired w.skips).notify l (notice act 1 (count q.first))).notifyAll (s.pairEndings j q .halted)).pairStopped q e
    (w.state = .armed → holds → exec (.watchFired l k) (counted 1) = .next meets) ∧
    (w.state = .pending → holds → exec (.watchFired l k) (counted (w.progress + 1)) = .next meets) ∧
    (w.state = .armed → holds → 1 < w.dwell → meets = counted 1) ∧
    (w.state = .pending → holds → w.progress + 1 < w.dwell → meets = counted (w.progress + 1)) ∧
    (w.state = .armed → ¬ holds → meets = s) ∧
    (w.state = .pending → ¬ holds → meets = s.setWatch l k (some { w with state := .armed, progress := 0 })) ∧
    (w.state = .fired → w.repeats = true → rearms →
      meets = s.setWatch l k (some { w with state := .armed, progress := 0 })) ∧
    (w.state = .fired → (w.repeats = false ∨ ¬ rearms) → meets = s) ∧ (w.state = .disarmed → meets = s) ∧
    (let after := exec (.watchFired l k) s
      let due := (w.state = .armed ∨ w.state = .pending) ∧ w.dwell ≤ w.progress
      (¬ due → after = .next s) ∧
      (due → w.action = .none → after = .next ((fired w.skips).notify l (notice 0 0 0))) ∧
      (∀ p e, due → w.action = .haltPort p e →
        ((s.port p).holder ≠ some l → after = .next (skipped 1 2)) ∧
        ((s.port p).holder = some l → ¬ motor p → after = .next (skipped 1 3)) ∧
        ((s.port p).holder = some l → motor p → s.Unpaired p → after = .next (single 1 p (takes p e))) ∧
        (∀ j q, (s.port p).holder = some l → motor p → s.Bound j q → (p = q.first ∨ p = q.second) →
          after = .next (double 1 j q (takes p e)))) ∧
      (∀ j e, due → w.action = .haltPair j e →
        (s.pair j = none → after = .next (skipped 2 4)) ∧
        (∀ q, s.pair j = some q → q.holder ≠ l → after = .next (skipped 2 2)) ∧
        (∀ q, s.Bound j q → q.holder = l → after = .next (double 2 j q (takes q.first e)))))

/-! ### Report streams (chapter 7) -/

/-- R111, R112, R113. A command sent before the period has run first moves hub time to the expiry (notes/assumptions/2), which this statement leaves out; with the timer stopped it changes nothing (notes/assumptions/4); that the origin moves on one period at an expiry is read from R111 (notes/assumptions/34). -/
def Obligations.RateQueueExpires : Prop :=
  ∀ (s : State) (l : Link) (q : QueueId) (o : Word32), s.hub.held = false →
    let r := (s.sched l).queues.get q
    let enabled := ∃ n, n ≤ 11 ∧ (s.stream l n).enabled = true ∧ (s.stream l n).queue = q
    let run := fun (w : Bool) => s.setSched l { s.sched l with
      queues := (s.sched l).queues.set q { r with origin := some (o + BitVec.ofNat 32 r.period), waiting := w } }
    let after := exec (.rateQueueExpiry l q) s
    (r.origin = some o → r.period ≤ (s.hub.time - o).toNat →
      (¬ enabled → after = .next (run r.waiting)) ∧
      (enabled → r.waiting = false → after = .next (run true)) ∧
      (enabled → r.waiting = true → after = .next ((run true).setLink l { s.link l with
        counts := { (s.link l).counts with
          overruns := (s.link l).counts.overruns.set q
            (min 4294967295 ((s.link l).counts.overruns.get q + 1)) } }))) ∧
    (r.origin = none → after = .next s)

/-- R114, R115, R116, with their frame. -/
def Obligations.StreamRequestsAnswered : Prop :=
  (∀ (s : State) (l : Link) (tag : Byte) (n : Nat) (b : List Byte), s.Waits l tag .rateSet n b →
    let set := fun (r : RateQueue) (field : Nat) =>
      if field = 0 then r else { r with period := max 5 (min 60000 field), origin := some s.hub.time }
    let q := (s.sched l).queues
    let q' : PerQueue RateQueue :=
      ⟨set q.q0 (u16 b 0), set q.q1 (u16 b 2), set q.q2 (u16 b 4), set q.q3 (u16 b 6)⟩
    (b.length ≠ 8 → exec (.rateSet l tag) s = .next (s.answered l tag .rateSet n .parameterError [])) ∧
    (b.length = 8 → exec (.rateSet l tag) s = .next ((s.setSched l { s.sched l with queues := q' }).answered l tag
      .rateSet n .normalCompletion (e16 q'.q0.period ++ e16 q'.q1.period ++ e16 q'.q2.period ++ e16 q'.q3.period)))) ∧
  (∀ (s : State) (l : Link) (tag : Byte) (n : Nat) (b : List Byte),
    let x := s.stream l (u8 b 0)
    let count := fun (t : State) (q : QueueId) =>
      ((List.range 12).filter (fun k => (t.stream l k).enabled && decide ((t.stream l k).queue = q))).length
    let leaves := fun (t : State) (x' : Stream) =>
      ∃ queues, t = s.setSched l { s.sched l with
          streams := (s.sched l).streams.set .undefined (u8 b 0) x', queues := queues } ∧
        ∀ q, queues.get q = if (q = x.queue ∨ q = x'.queue) ∧ count t q = 0
          then { (s.sched l).queues.get q with waiting := false } else (s.sched l).queues.get q
    (s.Waits l tag .streamSet n b →
      let c := u8 b 2
      let fields := (List.range c).map (fun i => u8 b (3 + i))
      let good := b.length = 3 + c ∧ u8 b 0 ≤ 11 ∧ c ≤ 4 ∧ u8 b 1 ≤ 3 ∧ (∀ m ∈ fields, m ≤ 6) ∧ fields.Nodup
      (good → ∃ t : State, exec (.streamSet l tag) s = .next (t.answered l tag .streamSet n .normalCompletion
          (e8 (count t (if c = 0 then .q0 else queueOf (u8 b 1))) ++ e8 (count t x.queue))) ∧
        leaves t (if c = 0 then ⟨false, .q0, [], false⟩
          else ⟨true, queueOf (u8 b 1), fields.map chanOf, x.enabled⟩)) ∧
      (¬ good → exec (.streamSet l tag) s = .next (s.answered l tag .streamSet n .parameterError []))) ∧
    (s.Waits l tag .streamEnable n b →
      let good := b.length = 2 ∧ u8 b 0 ≤ 11 ∧ u8 b 1 ≤ 1
      (good → (u8 b 1 = 0 ∨ x.defined = true) → ∃ t : State,
        exec (.streamEnable l tag) s = .next (t.answered l tag .streamEnable n .normalCompletion
          (e8 (count t x.queue))) ∧
        leaves t { x with enabled := decide (u8 b 1 = 1) }) ∧
      (good → u8 b 1 = 1 → x.defined = false →
        exec (.streamEnable l tag) s = .next (s.answered l tag .streamEnable n .sequenceError [])) ∧
      (¬ good → exec (.streamEnable l tag) s = .next (s.answered l tag .streamEnable n .parameterError []))))

/-- R117, R118 with the member block of section 1.9; each block reads the view and then clears its fresh flag, so a channel in a second stream of the service is delivered there without it. ArbiterOrder says when the service begins. -/
def Obligations.ServiceAssembled : Prop :=
  ∀ (s : State) (l : Link) (q : QueueId),
    let numbers := (List.range 12).filter (fun n => (s.stream l n).enabled && decide ((s.stream l n).queue = q))
    let members := fun (n : Nat) => (s.stream l n).members
    let active := fun (c : Chan) => match c with | .internal => True | .port p => (s.port p).state = .active
    let layout := fun (c : Chan) (mode flags : Nat) (values : List Int) (clipped : List Bool) (seq : Nat)
        (time : Word32) (stamp : List Byte) =>
      e8 (chanCode c) ++ e8 mode ++ e8 flags ++ e8 values.length ++ e8 (flagByte clipped) ++ e16 seq ++ e32 time.toNat ++
        stamp ++ (values.map es32).flatten
    let r := (s.sched l).queues.get q
    let sent := fun (n : Nat) (c : Chan) => decide (∃ k ∈ numbers, k < n ∧ c ∈ members k)
    (∀ n ∈ numbers, (members n).Nodup) → ∃ (t : State) (block : Chan → Bool → List Byte), s.beginService l q = t ∧
      (t.sched l) = { s.sched l with
        queues := (s.sched l).queues.set q { r with waiting := false }
        service := some ⟨q, numbers.map (fun n => ⟨n, e8 (queueCode q) ++ e8 (members n).length ++ e32 s.hub.time.toNat ++
          ((members n).map (fun c => block c (sent n c))).flatten⟩)⟩ } ∧
      (∀ c again, (¬ active c → block c again = [BitVec.ofNat 8 (chanCode c), 0xFF#8, 0#8, 1#8] ++ List.replicate 11 0#8) ∧
        (active c → (s.view l c).interval = 0 → block c again =
          (let x := s.sample c
          layout c (x.mode.getD 255) 4 x.values x.clipped x.sequence x.time [])) ∧
        (active c → (s.view l c).interval ≠ 0 → block c again =
          (let o := (s.view l c).output
          let fresh := (s.view l c).fresh && !again
          layout c (o.mode.getD 255) ((if fresh then 1 else 0) + 2 * (if o.stamp = none then 0 else 1)) o.values
            o.clipped o.sequence o.time (match o.stamp with | none => [] | some z => e16 z.number ++ e8 (phaseCode z.phase))))) ∧
      (∀ c, t.view l c = if c ∈ (numbers.map members).flatten ∧ (match c with
          | .internal => true | .port p => decide ((s.port p).state = .active)) = true
        then { s.view l c with fresh := false } else s.view l c) ∧
      (∀ k, k ≠ l → t.views.get k = s.views.get k ∧ t.sched k = s.sched k) ∧
      t = { s with views := t.views, scheds := t.scheds }

/-! ### Sound engine (chapter 8) -/

/-- R126, R123, R124, with their frame; R133, R143: the pin of a clip that the tone steals from is dropped. What NumberedBy says of a queue above 8, which no run has (StoresStayAgreed), is the two numbers the counter passes first. -/
def Obligations.PlayToneAnswered : Prop :=
  ∀ (s : State) (l : Link) (tag : Byte) (n : Nat) (b : List Byte), s.Waits l tag .playTone n b →
    let full := allVoices.all (fun v => (s.voice v).any (fun y => decide (u8 b 0 ≤ y.sound.priority))) &&
      decide (8 ≤ s.sound.queue.length)
    let checks := [(decide (b.length ≠ 9 ∨ 7 < u8 b 0 ∨ 1 < u8 b 4 ∨ u32 b 5 < 1 ∨ 60000 < u32 b 5),
      Judgement.parameterError), (decide (s.supply.state = some .cutoff), .supplyLow), (full, .queueFull)]
    (∀ j, judge checks = some j → exec (.playTone l tag) s = .next (s.answered l tag .playTone n j [])) ∧
    (judge checks = none → ∃ (t : State) (number : Nat) (out : Option VoiceId) (gone : List (Link × NoticeBody)),
      let x : Sound := ⟨number, l, u8 b 0, min 100 (u8 b 1),
        .tone (max 20 (min 8000 (u16 b 2))) (if u8 b 4 = 0 then .square else .triangle) (16 * u32 b 5) 0⟩
      exec (.playTone l tag) s = .next t ∧ s.NumberedBy number ∧ s.Placed t x out gone ∧
      t.links = ((s.notifyAll gone).answered l tag .playTone n .normalCompletion
        (e16 number ++ e8 (match out with | none => 255 | some v => voiceCode v))).links ∧
      t.sound.counter = number ∧ t.sound.volumes = s.sound.volumes ∧ t.sound.speaker = s.sound.speaker ∧
      s.SoundOnly t ∧ (gone = [] → t.assets = s.assets ∧ t.media = s.media) ∧
      (∀ v y, gone ≠ [] → out = some v → s.voice v = some y → s.PinDropped t y.sound))

/-- R127, R123, R124, R129, R143, with their frame; where the sound steals a voice, the pin of the sound stolen from is dropped after the new one is set (R133). -/
def Obligations.PlayClipAnswered : Prop :=
  ∀ (s : State) (l : Link) (tag : Byte) (n : Nat) (b : List Byte), s.Waits l tag .playClip n b →
    let full := allVoices.all (fun v => (s.voice v).any (fun y => decide (u8 b 2 ≤ y.sound.priority))) &&
      decide (8 ≤ s.sound.queue.length)
    let early := [(decide (b.length ≠ 9 ∨ 1023 < u16 b 0 ∨ 7 < u8 b 2), Judgement.parameterError),
      (decide (s.supply.state = some .cutoff), .supplyLow), (decide (s.media.store = some .offline), .mediaError)]
    let off := u32 b 4
    (∀ j, judge early = some j → exec (.playClip l tag) s = .next (s.answered l tag .playClip n j [])) ∧
    (judge early = none → (∀ h V, ¬ s.Reaches (u16 b 0) h V) →
      exec (.playClip l tag) s = .next (s.answered l tag .playClip n .noSuchAsset [])) ∧
    (∀ h V, judge early = none → s.Reaches (u16 b 0) h V →
      let wide := V.image.format = .s16at8k ∨ V.image.format = .s16at16k
      let late := [(decide (V.image.kind ≠ .sound), Judgement.parameterError),
        (decide (V.image.length ≤ off ∨ (wide ∧ off % 2 = 1)), .parameterError), (full, .queueFull)]
      (∀ j, judge late = some j → exec (.playClip l tag) s = .next (s.answered l tag .playClip n j [])) ∧
      (judge late = none → ∃ (t : State) (number : Nat) (out : Option VoiceId) (gone : List (Link × NoticeBody)),
        let x : Sound := ⟨number, l, u8 b 2, min 100 (u8 b 3),
          .clip (u16 b 0) h V.serial V.image.number V.image.length V.image.format off (u8 b 8) 0 off⟩
        exec (.playClip l tag) s = .next t ∧ s.NumberedBy number ∧ s.Placed t x out gone ∧
        t.links = ((s.notifyAll gone).answered l tag .playClip n .normalCompletion
          (e16 number ++ e8 (match out with | none => 255 | some v => voiceCode v) ++ e16 V.image.number)).links ∧
        (∀ v y r k, out = some v → t.voice v = some y → y.refill = some r →
          (V.image.extents.map (fun e => (List.range e.2).map (fun i => e.1 + i))).flatten[off / 131072]? = some k →
          r.block = k) ∧
        t.sound.counter = number ∧ t.sound.volumes = s.sound.volumes ∧ s.SoundOnly t ∧
        let e : DirEntry := { s.entry h with content := .present { V with pins := V.pins + 1 }, read := true }
        let pinned : State := { s with assets := { s.assets with directory := s.assets.directory.set .absent h e } }
        (gone = [] → t.assets = pinned.assets ∧ t.media = s.media) ∧
        (∀ v y, gone ≠ [] → out = some v → s.voice v = some y → pinned.PinDropped t y.sound)))

/-- R134, R135, R136 with R133, R125, and R143 for the pins that the stopped clips drop. The cap byte outside NORMAL and LOW is a free value (notes/assumptions/19). -/
def Obligations.SoundRequestsAnswered : Prop :=
  ∀ (s : State) (l : Link) (tag : Byte) (n : Nat) (b : List Byte),
    (s.Waits l tag .soundStop n b →
      let number := u16 b 0
      let named := fun (x : Sound) => decide (x.link = l ∧ (number = 0 ∨ x.number = number))
      let bad := b.length ≠ 2 ∨ (number ≠ 0 ∧ ∃ x ∈ s.sounds, x.number = number ∧ x.link ≠ l)
      let stay := s.sound.queue.filter (fun x => !named x)
      let freed := allVoices.filter (fun v => (s.voice v).all (fun y => named y.sound))
      let notices :=
        allVoices.filterMap (fun v => (s.voice v).bind (fun y =>
          if named y.sound then some (l, soundNotice y.sound .stopped (some v)) else none)) ++
        (s.sound.queue.filter named).map (fun x => (l, soundNotice x .stopped none))
      (bad → exec (.soundStop l tag) s = .next (s.answered l tag .soundStop n .parameterError [])) ∧
      (¬ bad → ∃ t : State, exec (.soundStop l tag) s = .next (t.answered l tag .soundStop n .normalCompletion
          (e8 notices.length)) ∧
        t.links = (s.notifyAll notices).links ∧ t.sound.queue = stay.drop freed.length ∧
        (∀ v, v ∉ freed → t.voice v = s.voice v) ∧
        (∀ (i : Nat) (v : VoiceId), freed[i]? = some v → (t.voice v).map (fun y => y.sound) = stay[i]?) ∧
        s.SoundOnly t ∧
        (s.RefreshLive → s.PinsDropped t (allVoices.filterMap (fun v => (s.voice v).bind (fun y =>
          if named y.sound then some y.sound else none)) ++ s.sound.queue.filter named)))) ∧
    (s.Waits l tag .volumeSet n b →
      (b.length ≠ 1 → exec (.volumeSet l tag) s = .next (s.answered l tag .volumeSet n .parameterError [])) ∧
      (b.length = 1 → exec (.volumeSet l tag) s = .next ({ s with sound := { s.sound with
        volumes := s.sound.volumes.set l (min 100 (u8 b 0)) } }.answered l tag .volumeSet n .normalCompletion
          (e8 (min 100 (u8 b 0)))))) ∧
    (s.Waits l tag .soundState n b →
      let kind := fun (x : Sound) => match x.part with | .tone .. => 0 | .clip .. => 1
      let loops := fun (x : Sound) => match x.part with | .tone .. => 0 | .clip _ _ _ _ _ _ _ _ done _ => done
      let voice := fun (v : VoiceId) => match s.voice v with
        | none => [0#8, 0#8, 0#8, 0#8, 0xFF#8, 0#8, 0#8, 0#8]
        | some y => e8 (match y.stage with | .priming => 1 | .playing => 2 | .starving => 3) ++ e16 y.sound.number ++
            e8 (linkCode y.sound.link) ++ e8 (kind y.sound) ++ e8 y.sound.priority ++ e8 y.sound.volume ++
            e8 (loops y.sound)
      (b.length ≠ 0 → exec (.soundState l tag) s = .next (s.answered l tag .soundState n .parameterError [])) ∧
      (b.length = 0 → ∃ cap : Byte, exec (.soundState l tag) s = .next (s.answered l tag .soundState n .normalCompletion
          (voice .v0 ++ voice .v1 ++ voice .v2 ++ voice .v3 ++ e8 s.sound.queue.length ++
            (s.sound.queue.map (fun x => e16 x.number ++ e8 (linkCode x.link) ++ e8 (kind x) ++ e8 x.priority)).flatten ++
            e8 s.sound.volumes.pl ++ e8 s.sound.volumes.tl ++ [cap])) ∧
        (s.supply.state = some .normal → cap = 100#8) ∧ (s.supply.state = some .low → cap = 50#8)))

/-- R128 to R133: what the speaker carries, and what the sample leaves of every voice: the page that a sample completes, the refill asked for, a pass that begins anew, and the tones, clips and timers that end with it. A clip of one page or one that begins in its last page does not refill ahead, and completed loops stop at 255 (notes/assumptions/22). -/
def Obligations.OutputSampleMixes : Prop :=
  ∀ s : State, s.hub.held = false →
    let width := fun (f : SoundFormat) => if f = .s16at8k ∨ f = .s16at16k then 2 else 1
    let stop := fun (f : SoundFormat) (length : Nat) => length - length % width f
    let tone := fun (w : Waveform) (φ : Nat) => match w with
      | .square => if φ < 8000 then (16000 : Int) else -16000
      | .triangle => if φ < 4000 then 4 * (φ : Int) else if φ < 12000 then 32000 - 4 * (φ : Int)
          else 4 * (φ : Int) - 64000
    let clip := fun (f : SoundFormat) (bytes : List Byte) (pos : Nat) =>
      if width f = 2 then signed 65536 (u16 bytes (pos % 2048)) else ((u8 bytes (pos % 2048) : Int) - 128) * 256
    let buffer := fun (y : Voice) => if y.cur then y.buffer1 else y.buffer0
    let sample := fun (y : Voice) => match y.sound.part with
      | .tone _ w _ φ => tone w φ
      | .clip _ _ _ _ length f _ _ _ pos => match y.again, buffer y with
        | some x, _ => x
        | none, some p => if pos < stop f length then clip f p.bytes pos else 0
        | none, none => 0
    let gives := fun (v : VoiceId) => match s.voice v with
      | some y => if y.stage = .playing
          then (sample y * (y.sound.volume : Int) * (s.sound.volumes.get y.sound.link : Int)).tdiv 10000 else 0
      | none => 0
    let given := fun (y : Voice) => match y.sound.part with
      | .tone f w k φ => { y with sound := { y.sound with part := .tone f w (k - 1) ((φ + f) % 16000) } }
      | .clip a h n m length f off loops done pos => match y.again, buffer y with
        | some _, _ => { y with again := none }
        | none, none => if pos < stop f length then { y with stage := .starving, timer := 1600 } else y
        | none, some p => if stop f length ≤ pos then y else
            let z : Voice := { y with
              sound := { y.sound with part := .clip a h n m length f off loops done (pos + width f) }
              again := if f = .u8at8k ∨ f = .s16at8k then some (clip f p.bytes pos) else none }
            if stop f length ≤ pos + width f ∨ (pos + width f) % 2048 = 0 then { z with
              cur := !y.cur, buffer0 := if y.cur then y.buffer0 else none, buffer1 := if y.cur then none else y.buffer1 }
            else z
    let passed := fun (y : Voice) => match y.sound.part with
      | .tone .. => none
      | .clip a h n m length f off loops done pos =>
        if y.stage = .playing ∧ y.again = none ∧ stop f length ≤ pos then
          let goes := loops = 0 ∨ min 255 (done + 1) < loops
          some (decide goes, SoundPart.clip a h n m length f off loops (min 255 (done + 1)) (if goes then off else pos))
        else none
    let ends := fun (y : Voice) => if y.stage = .playing then (match (given y).sound.part, passed (given y) with
        | .tone _ _ k _, _ => if k = 0 then some ((given y).sound, EndOutcome.done) else none
        | .clip .., some (false, part) => some ({ y.sound with part := part }, .done)
        | .clip .., _ => none)
      else if y.timer ≤ 1 then some (y.sound, .starved) else none
    let ended := ([.v0, .v1, .v2, .v3] : List VoiceId).filterMap (fun v =>
      ((s.voice v).bind ends).map (fun e => (v, e.1, e.2)))
    let kept := ∀ r ∈ s.assets.retired, 0 < r.version.pins ∧ s.plays r.holder r.version.serial ≤ r.version.pins
    let cap : Int := if s.supply.state = some .low then 50 else 100
    (s.hub.state ≠ .ready → exec .outputSample s = .next { s with sound := { s.sound with speaker := 0 } }) ∧
    (s.hub.state = .ready → ∃ t : State, exec .outputSample s = .next t ∧
      t.sound.speaker = max (-32767) (min 32767 (((gives .v0 + gives .v1 + gives .v2 + gives .v3) * cap).tdiv 100)) ∧
      (∀ v y, s.voice v = some y → ends y = none →
        (y.stage ≠ .playing → t.voice v = some { y with timer := y.timer - 1 }) ∧
        (y.stage = .playing → ∃ r,
          let z := given y
          let asked : Voice := { z with refill := s.refillOf z }
          let after : Voice := match passed z with
            | some (true, part) => { asked with sound := { z.sound with part := part } }
            | _ => asked
          t.voice v = some { after with refill := r } ∧ (kept → r = s.refillOf after))) ∧
      (∀ v, s.voice v = none → t.voice v = none) ∧
      (∀ (i : Nat) v x o, ended[i]? = some (v, x, o) → (t.voice v).map (fun y => y.sound) = s.sound.queue[i]?) ∧
      t.sound.queue = s.sound.queue.drop ended.length ∧
      t.links = (s.notifyAll (ended.map (fun e => (e.2.1.link, soundNotice e.2.1 e.2.2 (some e.1))))).links ∧
      (ended = [] → t.assets = s.assets ∧ t.media = s.media) ∧
      (∀ v x o, ended = [(v, x, o)] → s.PinDropped t x) ∧
      (∀ e ∈ ended, ∀ q, t.media.op = some q → q.work ≠ .refill e.1) ∧
      t.sound.volumes = s.sound.volumes ∧ t.sound.counter = s.sound.counter ∧ s.SoundOnly t)

/-- R128, R130, R131 and R133, and R143: the end drops the clip’s pin, and the last pin of a retired version takes the version off the list and leaves its blocks FREE-DIRTY. A pass that begins anew asks the refill that `Voice.wants` names (notes/assumptions/22). These rows act as commands where their condition holds, SOUND STARVED whatever its timer (notes/assumptions/21), and else change nothing (notes/assumptions/4). -/
def Obligations.SoundsEnd : Prop :=
  ∀ (s : State) (v : VoiceId), s.hub.held = false →
    (∀ y, s.voice v = some y → y.stage = .playing → ∀ f w k φ, y.sound.part = .tone f w k φ →
      (k = 0 → ∃ t : State, exec (.toneEnd v) s = .next t ∧ s.SoundEnded t v y.sound .done) ∧
      (k ≠ 0 → exec (.toneEnd v) s = .next s)) ∧
    (∀ y, s.voice v = some y →
      (y.stage ≠ .playing → ∃ t : State, exec (.soundStarved v) s = .next t ∧ s.SoundEnded t v y.sound .starved) ∧
      (y.stage = .playing → exec (.soundStarved v) s = .next s)) ∧
    (∀ y, s.voice v = some y → y.stage = .playing → y.again = none →
      ∀ a h n m length f off loops done pos, y.sound.part = .clip a h n m length f off loops done pos →
      let stop := length - length % (if f = .s16at8k ∨ f = .s16at16k then 2 else 1)
      let count := min 255 (done + 1)
      let x := fun (p : Nat) => { y.sound with part := .clip a h n m length f off loops count p }
      (pos < stop → exec (.clipPassEnd v) s = .next s) ∧
      (stop ≤ pos → (loops = 0 ∨ count < loops) → exec (.clipPassEnd v) s = .next (s.setVoice v (some { y with
        sound := x off, refill := s.refillOf { y with sound := x off } }))) ∧
      (stop ≤ pos → ¬ (loops = 0 ∨ count < loops) → ∃ t : State, exec (.clipPassEnd v) s = .next t ∧
        s.SoundEnded t v (x pos) .done)) ∧
    (∀ y, s.voice v = some y →
      ((y.stage ≠ .playing ∨ y.sound.part.isClip = true) → exec (.toneEnd v) s = .next s) ∧
      ((y.stage ≠ .playing ∨ y.sound.part.isClip = false ∨ y.again ≠ none) → exec (.clipPassEnd v) s = .next s)) ∧
    (s.voice v = none → exec (.toneEnd v) s = .next s ∧ exec (.clipPassEnd v) s = .next s ∧
      exec (.soundStarved v) s = .next s)

/-! ### Asset map (chapter 9) -/

/-- R145, R146, R150 with the lookup of R139, the combined protection of R140 and the cache of R142. What a failed probe reports of a number above 1023, and its factory flag, are notes/assumptions/27; each page of an ASSET READ passes through the cache by notes/assumptions/34. -/
def Obligations.AssetReadsAnswered : Prop :=
  ∀ (s : State) (l : Link) (tag : Byte) (n : Nat) (b : List Byte),
    let a := u16 b 0
    let e := s.entry a
    let target := match e.content with | .aliasOf x => x | _ => 0xFFFF
    let own := fun (k : Nat) => protectionCode (s.entry k).protection
    let combined := match e.content with
      | .aliasOf x => match (s.entry x).content with | .present _ => max (own a) (own x) | _ => own a
      | _ => own a
    let marks := (if e.changed then 1 else 0) + (if e.read then 2 else 0)
    let blocks := fun (V : Version) => (V.image.extents.map (fun x => (List.range x.2).map (fun i => x.1 + i))).flatten
    let cached := fun (k : Nat) => s.assets.cache.find? (fun c => decide (c.asset = a) && decide (c.logical = k))
    let off := u32 b 2
    (s.Waits l tag .assetInfo n b →
      let body := fun (version : List Byte) => e8 (match e.content with | .absent => 0 | .present _ => 1 | .aliasOf _ => 2) ++
        e16 target ++ e8 (own a) ++ e8 combined ++ e8 marks ++ e16 e.lastVersion ++ version
      (b.length ≠ 2 ∨ 1023 < a → exec (.assetInfo l tag) s = .next (s.answered l tag .assetInfo n .parameterError [])) ∧
      (b.length = 2 → a ≤ 1023 → s.media.store = some .offline →
        exec (.assetInfo l tag) s = .next (s.answered l tag .assetInfo n .mediaError [])) ∧
      (b.length = 2 → a ≤ 1023 → s.media.store ≠ some .offline →
        (∀ h V, s.Reaches a h V → exec (.assetInfo l tag) s = .next (s.answered l tag .assetInfo n .normalCompletion
          (body ([1#8] ++ e16 V.image.number ++ e8 (assetKindCode V.image.kind) ++ e8 (formatCode V.image.format) ++
            e32 V.image.length ++ e8 V.image.extents.length ++ e8 V.pins)))) ∧
        ((∀ h V, ¬ s.Reaches a h V) → exec (.assetInfo l tag) s = .next (s.answered l tag .assetInfo n .normalCompletion
          (body [0#8, 0#8, 0#8, 0xFF#8, 0#8, 0#8, 0#8, 0#8, 0#8, 0#8, 0#8]))))) ∧
    (s.Waits l tag .assetRead n b →
      let early := [(decide (b.length ≠ 8 ∨ 1023 < a ∨ u16 b 6 < 1 ∨ 512 < u16 b 6), Judgement.parameterError),
        (decide (s.media.store = some .offline), .mediaError)]
      (∀ j, judge early = some j → exec (.assetRead l tag) s = .next (s.answered l tag .assetRead n j [])) ∧
      (judge early = none → (∀ h V, ¬ s.Reaches a h V) →
        exec (.assetRead l tag) s = .next (s.answered l tag .assetRead n .noSuchAsset [])) ∧
      (∀ h V, judge early = none → s.Reaches a h V →
        (V.image.length ≤ off → exec (.assetRead l tag) s = .next (s.answered l tag .assetRead n .parameterError [])) ∧
        (off < V.image.length → ∃ (t : State) (pages : List ReadPage) (hit : Bool),
          let count := min (u16 b 6) (V.image.length - off)
          exec (.assetRead l tag) s = .next t ∧
          pages.length = (off + count - 1) / 2048 - off / 2048 + 1 ∧
          (∀ p, pages.head? = some p → p.page = off / 2048 % 64 ∧ p.data = none ∧
            match cached (off / 131072) with
            | some c => hit = true ∧ p.block = c.block
            | none => hit = false ∧ ∀ k, (blocks V)[off / 131072]? = some k → p.block = k) ∧
          (let look := fun (cache : List CacheEntry) (k : Nat) =>
              match cache.find? (fun c => decide (c.asset = a) && decide (c.logical = k)) with
              | some c => (c :: cache.filter (fun x => decide (¬ (x.asset = a ∧ x.logical = k))), c.block)
              | none => (⟨a, k, ((blocks V)[k]?).getD 0, decide (a ≤ 127)⟩ :: cache.take 15, ((blocks V)[k]?).getD 0)
          let i := off / 2048
          let j := (off + count - 1) / 2048
          let x := look s.assets.cache (i / 64)
          let y := look x.1 (j / 64)
          pages = ⟨x.2, i % 64, none⟩ :: (if j = i then [] else [⟨y.2, j % 64, none⟩]) ∧
            t.assets.cache = if j = i then x.1 else y.1) ∧
          t.assets.reads = s.assets.reads ++ [⟨⟨l, n⟩, .asset a off (u16 b 6), h, V.image.number, count, hit, pages⟩] ∧
          t.media = { s.media with class3 := s.media.class3 ++ pages.mapIdx (fun i p =>
            (⟨.read, p.block, p.page, .readJob ⟨l, n⟩ i⟩ : FlashOp)) } ∧
          t.entry h = { s.entry h with read := true } ∧ (∀ k, k ≠ h → t.entry k = s.entry k) ∧
          t = { s.taken l n with media := t.media, assets := t.assets } ∧
          t.assets.lock = s.assets.lock ∧ t.assets.change = s.assets.change ∧ t.assets.retired = s.assets.retired))) ∧
    (s.Waits l tag .probePage n b →
      let small := decide (a ≤ 1023)
      let record := fun (j : Judgement) (flags : Nat) => e8 (judgementCode j) ++ e16 a ++
        e16 (if small then target else 0xFFFF) ++ [0#8, 0#8, 0#8, 0#8, 0#8] ++ e8 (if small then combined else 0) ++
        e8 (if small = false ∨ e.content = .absent then 0 else marks) ++ e8 flags
      let fails := fun (j : Judgement) (flags : Nat) =>
        exec (.probePage l tag) s = .next (s.answered l tag .probePage n j (record j flags))
      (b.length ≠ 6 → exec (.probePage l tag) s = .next (s.answered l tag .probePage n .parameterError [])) ∧
      (b.length = 6 → s.media.store = some .offline → fails .mediaError 0) ∧
      (b.length = 6 → s.media.store ≠ some .offline → 1023 < a → fails .parameterError 0) ∧
      (b.length = 6 → s.media.store ≠ some .offline → a ≤ 1023 →
        ((∀ h V, ¬ s.Reaches a h V) → fails .noSuchAsset 0) ∧
        (∀ h V, s.Reaches a h V → V.image.length ≤ off → fails .parameterError (if h ≤ 127 then 2 else 0)) ∧
        (∀ h V, s.Reaches a h V → off < V.image.length →
          let k := off / 131072
          let asked := fun (block : Nat) (hit : Bool) (cache : List CacheEntry) =>
            exec (.probePage l tag) s = .next { s.taken l n with
              assets := { s.assets with
                cache := cache
                reads := s.assets.reads ++ [⟨⟨l, n⟩, .probe a off, h, V.image.number, 1, hit,
                  [⟨block, off / 2048 % 64, none⟩]⟩] }
              media := { s.media with
                class3 := s.media.class3 ++ [⟨.read, block, off / 2048 % 64, .readJob ⟨l, n⟩ 0⟩] } }
          (∀ c, cached k = some c → asked c.block true
            (c :: s.assets.cache.filter (fun x => decide (¬ (x.asset = a ∧ x.logical = k))))) ∧
          (cached k = none → ∀ block, (blocks V)[k]? = some block →
            asked block false (⟨a, k, block, decide (a ≤ 127)⟩ :: s.assets.cache.take 15)))))

/-- R144, R147, R148, R149, R141, R140, and R163 for the BUSY while a format is under way. An equal PROTECT and a MARKS CLEAR of factory numbers are answered after the BUSY checks (notes/assumptions/34); a commit awaits its record from the handing over of its COMMIT on (notes/assumptions/27). -/
def Obligations.DirectoryChangesAnswered : Prop :=
  ∀ (s : State) (l : Link) (tag : Byte) (n : Nat) (b : List Byte),
    let a := u16 b 0
    let e := s.entry a
    let locked := (decide (s.assets.lock ≠ none ∧ s.assets.lock ≠ some l), Judgement.heldByOtherLink)
    let ready := (decide (s.media.store ≠ some .ready), Judgement.mediaError)
    let factory := (decide (a ≤ 127), Judgement.writeProtected)
    let awaited := s.assets.change.isSome || decide (∃ x ∈ s.media.session.toList, ∃ c ∈ x.closing.toList, c.committing = true)
    let open_ := decide (∃ x ∈ s.media.session.toList, x.asset = a)
    let format := (s.media.format.isSome, Judgement.busy)
    let waits := fun (r : CatRecord) (numbers : List Nat) (o : Host.Outcome State Fault Refusal) =>
      ∃ t : State, o = .next t ∧ t = { s.taken l n with
          assets := { s.assets with change := some ⟨⟨l, n⟩, r, numbers⟩ }, media := t.media } ∧
        t.media.records = s.media.records ++ [⟨r, .change, false⟩] ∧ t.media.blocks = s.media.blocks ∧
        (∀ ring, s.media.ring = some ring → s.media.records = [] → s.media.appending = false → s.media.compaction = none →
          s.media.mustCompact = false → t.media.class2 = s.media.class2 ++ [⟨.program, ring, s.media.pagesUsed, .record r⟩])
    (s.Waits l tag .assetDelete n b →
      let checks := [(decide (b.length ≠ 2 ∨ 1023 < a), Judgement.parameterError), locked, ready, factory,
        (decide (e.content = .absent), .noSuchAsset), (decide (e.protection ≠ .opened), .writeProtected),
        (awaited || open_, .busy), format]
      (∀ j, judge checks = some j → exec (.assetDelete l tag) s = .next (s.answered l tag .assetDelete n j [])) ∧
      (judge checks = none → waits (.delete a) [] (exec (.assetDelete l tag) s))) ∧
    (s.Waits l tag .assetAlias n b →
      let x := u16 b 2
      let checks := [(decide (b.length ≠ 4 ∨ 1023 < a ∨ 1023 < x ∨ a = x), Judgement.parameterError), locked, ready, factory,
        ((match (s.entry x).content with | .aliasOf _ => true | _ => false), .parameterError),
        (decide ((s.entry x).content = .absent), .noSuchAsset), (decide (e.protection ≠ .opened), .writeProtected),
        ((match e.content with | .present V => decide (0 < V.pins) | _ => false), .assetInUse),
        (awaited || open_, .busy), format]
      (∀ j, judge checks = some j → exec (.assetAlias l tag) s = .next (s.answered l tag .assetAlias n j [])) ∧
      (judge checks = none → waits (.redirect a x) [] (exec (.assetAlias l tag) s))) ∧
    (s.Waits l tag .assetProtect n b →
      let p := protectionOf (u8 b 2)
      let checks := [(decide (b.length ≠ 3 ∨ 1023 < a ∨ 2 < u8 b 2), Judgement.parameterError), locked, ready, factory,
        (decide (e.content = .absent), .noSuchAsset), (decide (e.protection = .fixed ∧ p ≠ .fixed), .writeProtected),
        (awaited || open_, .busy), format]
      (∀ j, judge checks = some j → exec (.assetProtect l tag) s = .next (s.answered l tag .assetProtect n j [])) ∧
      (judge checks = none → e.protection = p →
        exec (.assetProtect l tag) s = .next (s.answered l tag .assetProtect n .normalCompletion [])) ∧
      (judge checks = none → e.protection ≠ p → waits (.protect a p) [] (exec (.assetProtect l tag) s))) ∧
    (s.Waits l tag .marksRead n b →
      let start := u16 b 1
      let all := (List.range 1024).filter (fun k =>
        decide (start ≤ k) && (if u8 b 0 = 1 then (s.entry k).read else (s.entry k).changed))
      let checks := [(decide (b.length ≠ 3 ∨ 1 < u8 b 0 ∨ 1023 < start), Judgement.parameterError),
        (decide (s.media.store = some .offline), .mediaError)]
      (∀ j, judge checks = some j → exec (.marksRead l tag) s = .next (s.answered l tag .marksRead n j [])) ∧
      (judge checks = none → exec (.marksRead l tag) s = .next (s.answered l tag .marksRead n .normalCompletion
        (e16 (min 256 all.length) ++ e16 (all.getD 256 0xFFFF) ++ ((all.take 256).map e16).flatten)))) ∧
    (s.Waits l tag .marksClear n b →
      let numbers := (List.range (u8 b 0)).map (fun i => u16 b (1 + 2 * i))
      let checks := [(decide (b.length ≠ 1 + 2 * u8 b 0 ∨ u8 b 0 = 0 ∨ ∃ k ∈ numbers, 1023 < k), Judgement.parameterError),
        locked, ready, (awaited, .busy), format]
      (∀ j, judge checks = some j → exec (.marksClear l tag) s = .next (s.answered l tag .marksClear n j [])) ∧
      (judge checks = none → (∀ k ∈ numbers, k ≤ 127) → ∃ t : State,
        exec (.marksClear l tag) s = .next (t.answered l tag .marksClear n .normalCompletion []) ∧
        (∀ k, t.entry k = if k ∈ numbers then { s.entry k with changed := false, read := false } else s.entry k) ∧
        t = { s with assets := { s.assets with directory := t.assets.directory } }) ∧
      (judge checks = none → (∃ k ∈ numbers, 128 ≤ k) → ∃ user : List Nat, user.Nodup ∧
        (∀ k, k ∈ user ↔ (k ∈ numbers ∧ 128 ≤ k)) ∧ waits (.marksClear user) numbers (exec (.marksClear l tag) s))) ∧
    (s.Waits l tag .storeLock n b →
      let checks := [(decide (b.length ≠ 1 ∨ 1 < u8 b 0), Judgement.parameterError), locked, ready,
        (decide (u8 b 0 = 0 ∧ s.assets.lock = none), .sequenceError), format]
      (∀ j, judge checks = some j → exec (.storeLock l tag) s = .next (s.answered l tag .storeLock n j [])) ∧
      (judge checks = none → exec (.storeLock l tag) s = .next ({ s with assets := { s.assets with
        lock := if u8 b 0 = 1 then some l else none } }.answered l tag .storeLock n .normalCompletion [])))

/-! ### Flash media, write sessions and the catalogue (chapter 10) -/

/-- R155, R156, R158 steps 1 to 3, R159, with the store lock and the combined protection of R140 and the BUSY of R163 while a format is under way. In what order WRITE CANCEL hands over several awaited responses, its own last, is the model’s choice (notes/assumptions/68). The claims on class 2, on the record handed over and on the other blocks leave out a refresh copy whose old block the session reserves or gives up, which no run has (VersionsStayAgreed has the old block LIVE). -/
def Obligations.WriteSessionRequests : Prop :=
  ∀ (s : State) (l : Link) (tag : Byte) (n : Nat) (b : List Byte),
    let x := s.media.session
    let ready := (decide (s.media.store ≠ some .ready), Judgement.mediaError)
    let none_ := (!(x.any (fun y => decide (y.link = l))), Judgement.sequenceError)
    let closing := (x.any (fun y => y.closing.isSome), Judgement.busy)
    (s.Waits l tag .writeOpen n b →
      let a := u16 b 0
      let e := s.entry a
      let asset := match e.content with | .aliasOf k => k | _ => a
      let chain := match e.content with
        | .aliasOf k => (match (s.entry k).content with | .aliasOf _ => true | _ => false)
        | _ => false
      let guarded := decide (e.protection ≠ .opened) || (match e.content with
        | .aliasOf k => (match (s.entry k).content with | .present _ => decide ((s.entry k).protection ≠ .opened) | _ => false)
        | _ => false)
      let changing := match s.assets.change with
        | none => false
        | some c => match c.record with
          | .delete k => decide (k = asset)
          | .redirect k _ => decide (k = asset)
          | .protect k _ => decide (k = asset)
          | _ => decide (asset ∈ c.numbers)
      let count := (u32 b 4 + 131071) / 131072
      let free := fun (k : Nat) => k < 1024 ∧ ((s.block k).state = .freeClean ∨ (s.block k).state = .freeDirty) ∧
        ∀ r, s.media.refresh = some r → r.dest ≠ k
      let rank := fun (k : Nat) => if (s.block k).state = .freeClean then 0 else 1
      let before := fun (j k : Nat) => rank j < rank k ∨ (rank j = rank k ∧
        ((s.block j).erases < (s.block k).erases ∨ ((s.block j).erases = (s.block k).erases ∧ j < k)))
      let checks := [(decide (b.length ≠ 8 ∨ 1023 < a ∨ 3 < u8 b 2 ∨ (u8 b 2 = 1 ∧ u8 b 3 = 0) ∨ (u8 b 2 ≠ 1 ∧ u8 b 3 ≠ 0) ∨
          4 < u8 b 3 ∨ u32 b 4 = 0 ∨ 8388608 < u32 b 4), Judgement.parameterError),
        (decide (s.assets.lock ≠ none ∧ s.assets.lock ≠ some l), .heldByOtherLink), ready,
        (decide (a ≤ 127 ∨ asset ≤ 127) || guarded, .writeProtected), (chain, .noSuchAsset),
        (decide (s.supply.state = some .low ∨ s.supply.state = some .cutoff), .supplyLow), (x.isSome || changing, .busy)]
      let after := exec (.writeOpen l tag) s
      (∀ j, judge checks = some j → after = .next (s.answered l tag .writeOpen n j [])) ∧
      (judge checks = none → ((∃ bs : List Nat, bs.Nodup ∧ bs.length = count ∧ ∀ k ∈ bs, free k) →
        (s.media.format ≠ none → after = .next (s.answered l tag .writeOpen n .busy [])) ∧
        (s.media.format = none → ∃ (t : State) (bs : List Nat), after = .next (t.answered l tag .writeOpen n
            .normalCompletion (e16 asset ++ e8 count)) ∧
          bs.length = count ∧ (∀ k ∈ bs, free k) ∧ bs.Pairwise before ∧
          (∀ k, free k → k ∉ bs → ∀ j ∈ bs, before j k) ∧
          (let dirty := bs.filter (fun k => decide ((s.block k).state = .freeDirty))
          t.media.session = some ⟨l, asset, assetKindOf (u8 b 2), formatOf (u8 b 3), u32 b 4, bs, dirty, 0, [], none, [], []⟩ ∧
          ((∀ r, s.media.refresh = some r → (s.block r.old).state = .live) →
            t.media.class2 = s.media.class2 ++ (dirty.filter (fun k =>
              decide (s.media.op.map (fun o => o.work) ≠ some (.dirtyErase k)))).map (fun k =>
                (⟨.erase, k, 0, .sessionErase k⟩ : FlashOp)))) ∧
          (∀ k ∈ bs, t.block k = { s.block k with state := .session }) ∧
          ((∀ r, s.media.refresh = some r → (s.block r.old).state = .live) → ∀ k, k ∉ bs → t.block k = s.block k) ∧
          t = { s with media := t.media })) ∧
        ((¬ ∃ bs : List Nat, bs.Nodup ∧ bs.length = count ∧ ∀ k ∈ bs, free k) →
          after = .next (s.answered l tag .writeOpen n .storeFull [])))) ∧
    (s.Waits l tag .writeChunk n b →
      let bytes := b.drop 4
      let checks := [(decide (b.length < 5 ∨ 516 < b.length), Judgement.parameterError), ready, none_, closing,
        (!(x.any (fun y => decide (u32 b 0 = y.written ∧ y.written + bytes.length ≤ y.declared))), .sequenceError)]
      (∀ j, judge checks = some j → exec (.writeChunk l tag) s = .next (s.answered l tag .writeChunk n j [])) ∧
      (∀ y, judge checks = none → x = some y →
        let all := y.buffer ++ bytes
        let start := y.written - y.buffer.length
        (all.length < 2048 → exec (.writeChunk l tag) s = .next ({ s with media := { s.media with
          session := some { y with written := y.written + bytes.length, buffer := all } } }.answered l tag .writeChunk n
            .normalCompletion [])) ∧
        (2048 ≤ all.length → exec (.writeChunk l tag) s = .next { s.taken l n with media := { s.media with
          session := some { y with written := y.written + bytes.length, buffer := all.drop 2048 }
          class2 := s.media.class2 ++ [⟨.program, 0, start / 2048 % 64, .sessionPage (start / 131072)
            ⟨start / 2048 % 64, all.take 2048, some ⟨l, n⟩⟩⟩] } }))) ∧
    (s.Waits l tag .writeClose n b →
      let checks := [(decide (b.length ≠ 0), Judgement.parameterError), ready, none_, closing,
        (x.any (fun y => decide (y.written = 0)), .sequenceError)]
      (∀ j, judge checks = some j → exec (.writeClose l tag) s = .next (s.answered l tag .writeClose n j [])) ∧
      (∀ y, judge checks = none → x = some y →
        let start := y.written - y.buffer.length
        let programs := fun (o : FlashOp) => match o.work with
          | .sessionPage .. => true
          | .copyRead .. => true
          | .copyProgram .. => true
          | _ => false
        (y.buffer ≠ [] → exec (.writeClose l tag) s = .next { s.taken l n with media := { s.media with
          session := some { y with closing := some ⟨⟨l, n⟩, false⟩, buffer := [] }
          class2 := s.media.class2 ++ [⟨.program, 0, start / 2048 % 64, .sessionPage (start / 131072)
            ⟨start / 2048 % 64, y.buffer ++ List.replicate (2048 - y.buffer.length) 0xFF#8, none⟩⟩] } }) ∧
        (y.buffer = [] → (y.repairs ≠ [] ∨ ∃ o ∈ s.media.op.toList ++ s.media.class2, programs o = true) →
          exec (.writeClose l tag) s = .next { s.taken l n with media := { s.media with
            session := some { y with closing := some ⟨⟨l, n⟩, false⟩ } } }) ∧
        (y.buffer = [] → y.repairs = [] → (∀ o ∈ s.media.op.toList ++ s.media.class2, programs o = false) →
          ∃ t : State, exec (.writeClose l tag) s = .next t ∧ (s.taken l n).CommitHandedOver t y ⟨l, n⟩))) ∧
    (s.Waits l tag .writeCancel n b →
      let checks := [(decide (b.length ≠ 0), Judgement.parameterError), none_, closing]
      (∀ j, judge checks = some j → exec (.writeCancel l tag) s = .next (s.answered l tag .writeCancel n j [])) ∧
      (∀ y, judge checks = none → x = some y →
        let tickets := (s.media.op.toList ++ s.media.class2).filterMap (fun o => match o.work with
            | .sessionPage _ w => w.ticket
            | _ => none) ++ (y.repairs.map (fun r => r.todo.filterMap (fun w => w.ticket))).flatten
        ∃ t : State, exec (.writeCancel l tag) s = .next t ∧ t.media.session = none ∧
          t.links = ((tickets.foldl (fun (u : State) (k : Ticket) => u.refuse k .sequenceError) (s.taken l n)).complete ⟨l, n⟩ []).links ∧
          (∀ o ∈ t.media.class2 ++ t.media.class4, o ∈ s.media.class2 ++ s.media.class4 ∧ match o.work with
            | .sessionPage .. => False
            | .sessionErase _ => False
            | .copyRead .. => False
            | .copyProgram .. => False
            | _ => True) ∧
          t = { s with media := t.media, links := t.links } ∧
          ((∀ r, s.media.refresh = some r → (s.block r.old).state = .live) → ∀ k, t.block k = { s.block k with
            state := if k ∈ y.reserved ∧ (s.block k).state = .session then .freeDirty else (s.block k).state })))

/-- R162 (STORE STATE), R163 at acceptance, R137; R146 and R150 for the reads and probes of user versions, which start again in the order of notes/assumptions/65, their failures answered behind the ended session’s responses (notes/assumptions/70). Where start-up built no block table the spares are chosen on that of the reset (notes/assumptions/72). The waiting catalogue records are dropped with the work that the format overtakes (notes/assumptions/25); with fewer than 24 blocks to choose from it takes as many as there are (notes/assumptions/50). -/
def Obligations.StoreStateAndFormat : Prop :=
  ∀ (s : State) (l : Link) (tag : Byte) (n : Nat) (b : List Byte),
    (s.Waits l tag .storeState n b →
      let count := fun (x : BlockState) => e16 ((List.range 1024).filter (fun k => decide ((s.block k).state = x))).length
      (b.length ≠ 0 → exec (.storeState l tag) s = .next (s.answered l tag .storeState n .parameterError [])) ∧
      (b.length = 0 → s.media.store = some .offline → exec (.storeState l tag) s =
        .next (s.answered l tag .storeState n .normalCompletion
          (List.replicate 21 0#8 ++ [0xFF#8] ++ List.replicate 5 0#8))) ∧
      (∀ st, b.length = 0 → s.media.store = some st → st ≠ .offline → exec (.storeState l tag) s =
        .next (s.answered l tag .storeState n .normalCompletion
          ((if st = .ready then [1#8] else [2#8]) ++ count .freeClean ++ count .freeDirty ++ count .live ++ count .retired ++
            count .session ++ count .catalogue ++ count .factory ++ count .spare ++ count .bad ++
            e8 s.assets.retired.length ++ e8 (match s.media.session with | none => 0 | some x => linkCode x.link) ++
            e8 (s.media.ring.getD 255) ++ e32 s.media.sequence ++ e8 s.media.pagesUsed)))) ∧
    (s.Waits l tag .formatUser n b →
      let awaited := s.assets.change.isSome || decide (∃ x ∈ s.media.session.toList, ∃ c ∈ x.closing.toList, c.committing = true)
      let checks := [(decide (b.length ≠ 0), Judgement.parameterError), (decide (l = .tl), .linkNotPermitted),
        (decide (s.assets.lock = some .tl), .heldByOtherLink), (decide (s.supply.state = some .cutoff), .supplyLow),
        (awaited, .busy), (s.media.format.isSome, .busy)]
      let user := fun (x : Sound) => match x.part with | .tone .. => False | .clip _ h .. => 128 ≤ h
      (∀ j, judge checks = some j → exec (.formatUser l tag) s = .next (s.answered l tag .formatUser n j [])) ∧
      (judge checks = none → ∃ (t : State) (chosen : List Nat), exec (.formatUser l tag) s = .next t ∧
        (∀ k, t.entry k = if k < 128 then s.entry k else ⟨.absent, .opened, 0, false, false⟩) ∧
        (∀ x ∈ t.sounds, ¬ user x) ∧ t.media.session = none ∧ t.media.refresh = none ∧ t.media.refreshList = [] ∧
        t.media.records = [] ∧ t.media.store = s.media.store ∧ t.media.format = some ⟨⟨l, n⟩, chosen⟩ ∧
        (∀ c ∈ t.assets.cache, c.factory = true) ∧
        (∃ u v : State, u.ReadsRestarted v (s.assets.reads.filter (fun j => decide (128 ≤ j.holder))) ∧
          (∀ k, u.entry k = t.entry k) ∧ u.assets.cache = s.assets.cache.filter (fun c => c.factory) ∧
          u.assets.reads = s.assets.reads ∧ u.media.class3 = s.media.class3 ∧
          ((∀ x ∈ s.sounds, ¬ user x) → s.media.session = none → u.links = (s.taken l n).links) ∧
          t.assets = v.assets ∧ t.media.class3 = v.media.class3 ∧ t.links = v.links) ∧
        ((∀ x ∈ s.sounds, ¬ user x) → s.media.session = none → s.media.refresh = none →
          let able := fun (k : Nat) => k < 1024 ∧ (s.block k).state ≠ .catalogue ∧ (s.block k).state ≠ .factory ∧
            (s.block k).state ≠ .bad
          let before := fun (j k : Nat) =>
            (s.block j).erases < (s.block k).erases ∨ ((s.block j).erases = (s.block k).erases ∧ j < k)
          (∀ k ∈ chosen, able k) ∧ chosen.Pairwise before ∧ (∀ k, able k → k ∉ chosen → ∀ j ∈ chosen, before j k) ∧
          (chosen.length = 24 ∨ (chosen.length < 24 ∧ ∀ k, able k → k ∈ chosen)) ∧
          (∀ k, t.block k = { s.block k with 
            state := if k ∈ chosen then .spare
              else if able k ∧ (s.block k).state ≠ .freeClean then .freeDirty else (s.block k).state }) ∧
          (chosen ≠ [] → t.media.class2 = s.media.class2.filter (fun o => match o.work with
              | .record _ => false
              | .ringErase => false
              | .snapshotPage .. => false
              | _ => true) ++ chosen.map (fun k => (⟨.erase, k, 0, .spareErase k⟩ : FlashOp))))))

/-- R152, R151, R154, R160 for the block and page of a record, and R157 for those of a session’s page and of a copy. An append whose records have all been withdrawn is withdrawn first (notes/assumptions/24); REFRESH START postpones one pinned block, and all blocks are taken up again where all are postponed (notes/assumptions/26); a start with nothing to start changes nothing (notes/assumptions/4). -/
def Obligations.FlashArbiterAndBackground : Prop :=
  ∀ s : State, s.hub.held = false →
    let after := exec .flashArbiterChoose s
    let m : Media := if s.media.records = [] then { s.media with
        class2 := s.media.class2.filter (fun o => match o.work with | .record _ => false | _ => true)
        appending := false }
      else s.media
    let order : List VoiceId := match s.sound.lastServed with
      | none => [.v0, .v1, .v2, .v3]
      | some .v0 => [.v1, .v2, .v3, .v0]
      | some .v1 => [.v2, .v3, .v0, .v1]
      | some .v2 => [.v3, .v0, .v1, .v2]
      | some .v3 => [.v0, .v1, .v2, .v3]
    let asks := fun (v : VoiceId) => (s.voice v).bind (fun y => y.refill)
    let plain := fun (o : FlashOp) => o.kind ≠ .program ∨ match o.work with
      | .sessionPage .. => False
      | .copyProgram .. => False
      | .record _ => False
      | _ => True
    let runs := s.hub.state = .ready ∧ s.media.store = some .ready ∧ s.supply.state ≠ some .cutoff
    let erasing := ∃ o ∈ s.media.op.toList ++ s.media.class4, ∃ k, o.work = .dirtyErase k
    let least := fun (st : BlockState) (k : Nat) =>
      let free := fun (j : Nat) => j < 1024 ∧ (s.block j).state = st ∧ ∀ r, s.media.refresh = some r → r.dest ≠ j
      free k ∧ ∀ j, free j → (s.block k).erases < (s.block j).erases ∨ ((s.block k).erases = (s.block j).erases ∧ k ≤ j)
    let list := if s.media.refreshList.all (fun i => i.postponed)
      then s.media.refreshList.map (fun i => { i with postponed := false }) else s.media.refreshList
    let blocks := fun (v : Version) => (v.image.extents.map (fun e => (List.range e.2).map (fun i => e.1 + i))).flatten
    let pinned := fun (k : Nat) => (∃ c ∈ s.assets.directory.cells, ∃ v, c.2.content = .present v ∧ 0 < v.pins ∧ k ∈ blocks v) ∨
      (∃ r ∈ s.assets.retired, 0 < r.version.pins ∧ k ∈ blocks r.version)
    (s.media.op ≠ none → after = .next s) ∧
    (s.media.op = none →
      (∀ v r, order.find? (fun w => (asks w).isSome) = some v → asks v = some r → after = .next { s with
        sound := { s.sound with lastServed := some v }
        media := { m with op := some ⟨.read, r.block, r.flashPage, .refill v⟩ } }) ∧
      ((∀ v, asks v = none) →
        (∀ o rest, m.class2 = o :: rest → plain o →
          after = .next { s with media := { m with class2 := rest, op := some o } }) ∧
        (∀ k p r rest x more ring, m.class2 = ⟨.program, k, p, .record r⟩ :: rest → s.media.records = x :: more →
          s.media.ring = some ring → after = .next { s with media := { m with
            class2 := rest, records := { x with begun := true } :: more
            op := some ⟨.program, ring, s.media.pagesUsed, .record x.record⟩ } }) ∧
        (∀ k p place w rest y block, m.class2 = ⟨.program, k, p, .sessionPage place w⟩ :: rest → s.media.session = some y →
          y.reserved[place]? = some block → after = .next { s with media := { m with
            class2 := rest, op := some ⟨.program, block, w.page, .sessionPage place w⟩ } }) ∧
        (∀ k p place page d rest y block, m.class2 = ⟨.program, k, p, .copyProgram place page d⟩ :: rest →
          s.media.session = some y → y.reserved[place]? = some block → after = .next { s with media := { m with
            class2 := rest, op := some ⟨.program, block, page, .copyProgram place page d⟩ } }) ∧
        (∀ o rest, m.class2 = [] → m.class3 = o :: rest → plain o →
          after = .next { s with media := { m with class3 := rest, op := some o } }) ∧
        (∀ o rest, m.class2 = [] → m.class3 = [] → m.class4 = o :: rest → plain o →
          after = .next { s with media := { m with class4 := rest, op := some o } }) ∧
        (m.class2 = [] → m.class3 = [] → m.class4 = [] → after = .next { s with media := m }))) ∧
    ((¬ runs ∨ erasing ∨ ∀ k, ¬ least .freeDirty k) → exec .backgroundEraseStart s = .next s) ∧
    (∀ k, runs → ¬ erasing → least .freeDirty k → exec .backgroundEraseStart s = .next { s with
      media := { s.media with class4 := s.media.class4 ++ [⟨.erase, k, 0, .dirtyErase k⟩] } }) ∧
    ((¬ runs ∨ s.media.refresh ≠ none ∨ s.media.refreshList = []) → exec .refreshStart s = .next s) ∧
    (∀ i, runs → s.media.refresh = none → list.find? (fun i => !i.postponed) = some i →
      (pinned i.block → exec .refreshStart s = .next { s with media := { s.media with
        refreshList := list.map (fun x => if x.block = i.block then { x with postponed := true } else x) } }) ∧
      (¬ pinned i.block → (∀ k, ¬ least .freeClean k) → exec .refreshStart s = .next s) ∧
      (∀ k, ¬ pinned i.block → least .freeClean k → exec .refreshStart s = .next { s with media := { s.media with
        refresh := some ⟨i.block, k, 0⟩, refreshList := list
        class4 := s.media.class4 ++ [⟨.read, i.block, 0, .refreshRead 0⟩] } }))

/-- R152, R153, R146, R150, R154 (the copy’s reads), R129, R130, R151, R157, R160 (the BAD record, the snapshot) and R163 (the spares’ erases). What the erase in progress puts into flash is `State.flashContent`. A completion that does not match the operation in progress changes nothing (notes/assumptions/4). When the snapshot is taken, what its lists are and that its bytes are free: notes/assumptions/20; the sequence that follows the highest: notes/assumptions/48. R155: the erases of reserved blocks. The model’s choices: the moment a probe’s record shows (notes/assumptions/46), MEDIA ERROR at the first page that fails (notes/assumptions/47), the refill asked for when another completes (notes/assumptions/57), and that the copy’s own read abandons a refresh (notes/assumptions/58); that a copy’s page in a session which cannot be read fails the session, and that an operation of an ended session goes on for no one, is notes/assumptions/23, and the order and judgement of the responses of a session so ended notes/assumptions/68 and 71, and the order in which a failed block’s pages are copied notes/assumptions/79. A format’s snapshot begins at block 0 where no ring block is in use (notes/assumptions/25), and its ring erases, pages and verifies go in class 2 (notes/assumptions/24). -/
def Obligations.FlashOperationsEnd : Prop :=
  ∀ s : State, s.hub.held = false →
    let kindIs := fun (k : OpKind) => s.media.op.any (fun o => decide (o.kind = k))
    (∀ r, kindIs .read = false → exec (.pageReadComplete r) s = .next s ∧ exec (.refillComplete r) s = .next s) ∧
    (∀ ok, (kindIs .program = false → exec (.programComplete ok) s = .next s) ∧
      (kindIs .erase = false → exec (.eraseComplete ok) s = .next s)) ∧
    (∀ c, kindIs .verify = false → exec (.verifyComplete c) s = .next s) ∧
    (∀ (o : FlashOp) (r : PageRead), s.media.op = some o → o.kind = .read →
      let good := ∀ x ∈ r.sectors, x ≠ none
      let worn := (∃ k, 3 ≤ k ∧ some k ∈ r.sectors) ∧ (s.block o.block).state = .live ∧
        (∀ i ∈ s.media.refreshList, i.block ≠ o.block) ∧ s.media.refreshList.length < 8
      let lists := fun (t : State) => t.media.op = none ∧
        (worn → t.media.refreshList = s.media.refreshList ++ [⟨o.block, false⟩]) ∧
        (¬ worn → t.media.refreshList = s.media.refreshList)
      (∀ tk slot a off want h version count hit pages, o.work = .readJob tk slot → slot < pages.length →
        s.assets.reads.find? (fun j => decide (j.ticket = tk)) = some ⟨tk, .asset a off want, h, version, count, hit, pages⟩ →
        let filled := pages.modify slot (fun p => { p with data := some r.data })
        let bytes := (filled.map (fun p => p.data.getD [])).flatten
        let gone := fun (t : State) => t.assets.reads = s.assets.reads.filter (fun j => decide (j.ticket ≠ tk)) ∧
          t.media.class3 = s.media.class3.filter (fun x => match x.work with | .readJob k _ => decide (k ≠ tk) | _ => true)
        ∃ t : State, exec (.pageReadComplete r) s = .next t ∧ lists t ∧
          (¬ good → t.links = (s.refuse tk .mediaError).links ∧ gone t) ∧
          (good → (∀ p ∈ filled, p.data ≠ none) → gone t ∧
            t.links = (s.complete tk (e16 version ++ e16 count ++ (bytes.drop (off % 2048)).take count)).links) ∧
          (good → (∃ p ∈ filled, p.data = none) → t.links = s.links ∧ t.media.class3 = s.media.class3 ∧
            t.assets.reads = s.assets.reads.map (fun j => if j.ticket = tk
              then ⟨tk, .asset a off want, h, version, count, hit, filled⟩ else j)) ∧
          t = { s with
            links := t.links, assets := { s.assets with reads := t.assets.reads }
            media := { s.media with op := none, refreshList := t.media.refreshList, class3 := t.media.class3 } }) ∧
      (∀ tk a off h version count hit page, o.work = .readJob tk 0 → a ≤ 1023 →
        s.assets.reads.find? (fun j => decide (j.ticket = tk)) = some ⟨tk, .probe a off, h, version, count, hit, [page]⟩ →
        let e := s.entry a
        let own := fun (k : Nat) => protectionCode (s.entry k).protection
        let record := fun (j : Judgement) (n block inBlock : Nat) => e8 (judgementCode j) ++ e16 a ++
          e16 (match e.content with | .aliasOf x => x | _ => 0xFFFF) ++ e16 n ++ e16 block ++ e8 inBlock ++
          e8 (match e.content with
            | .aliasOf x => match (s.entry x).content with | .present _ => max (own a) (own x) | _ => own a
            | _ => own a) ++
          e8 (if e.content = .absent then 0 else (if e.changed then 1 else 0) + (if e.read then 2 else 0)) ++
          e8 ((if hit then 1 else 0) + (if h ≤ 127 then 2 else 0))
        ∃ t : State, exec (.pageReadComplete r) s = .next t ∧ lists t ∧
          t.assets.reads = s.assets.reads.filter (fun j => decide (j.ticket ≠ tk)) ∧
          (good → t.links = (s.complete tk (record .normalCompletion version page.block page.page)).links) ∧
          (¬ good → t.links = (s.respond tk .mediaError (record .mediaError 0 0 0)).links) ∧
          t = { s with links := t.links, assets := { s.assets with reads := t.assets.reads }, media := t.media }) ∧
      (∀ k x, o.work = .refreshRead k → s.media.refresh = some x →
        (good → ∃ t : State, exec (.pageReadComplete r) s = .next t ∧ lists t ∧ t = { s with media := { s.media with
          op := none, refreshList := t.media.refreshList
          class4 := s.media.class4 ++ [⟨.program, x.dest, k, .refreshProgram k r.data⟩] } }) ∧
        (¬ good → o.block = x.old → ∃ t : State, exec (.pageReadComplete r) s = .next t ∧ t.media.op = none ∧
          s.RefreshDropped t x .freeDirty)) ∧
      (∀ place page y, o.work = .copyRead place page → s.media.session = some y →
        (good → ∃ t : State, exec (.pageReadComplete r) s = .next t ∧ lists t ∧ t = { s with media := { s.media with
          op := none, refreshList := t.media.refreshList
          class2 := s.media.class2 ++ [⟨.program, 0, page, .copyProgram place page r.data⟩] } }) ∧
        (¬ good → ∃ t : State, exec (.pageReadComplete r) s = .next t ∧ t.media.op = none ∧ t.media.session = none ∧
          (let st := s.media.store.getD .offline
          let failed := NoticeBody.storeEvent .failed st st (some y.asset) 0
          let owed : List Ticket := s.media.class2.filterMap (fun x => match x.work with
              | .sessionPage _ w => w.ticket
              | _ => none) ++ (y.repairs.map (fun x => x.todo.filterMap (fun w => w.ticket))).flatten ++
            (y.closing.map (fun x => x.ticket)).toList
          t.links = (((owed.foldl (fun (u : State) k => u.refuse k .mediaError) s).notify .pl failed).notify .tl
            failed).links) ∧
          ((∀ x, s.media.refresh = some x → (s.block x.old).state = .live) → ∀ j, t.block j = { s.block j with
            state := if j ∈ y.reserved ∧ (s.block j).state = .session then .freeDirty else (s.block j).state }) ∧
          t = { s with media := t.media, links := t.links })) ∧
      (∀ v y f, o.work = .refill v → s.voice v = some y → y.refill = some f →
        (good → ∃ t : State, exec (.refillComplete r) s = .next t ∧ lists t ∧
          (let held := if y.cur then y.buffer1 else y.buffer0
          let z : Voice := { y with
            buffer0 := if f.second then y.buffer0 else some ⟨f.page, r.data⟩
            buffer1 := if f.second then some ⟨f.page, r.data⟩ else y.buffer1
            refill := none, stage := .playing, timer := 0, cur := if held = none then f.second else y.cur }
          t.voice v = some { z with refill := s.refillOf z }) ∧
          (∀ w, w ≠ v → t.voice w = s.voice w) ∧ t.links = s.links ∧ s.SoundOnly t) ∧
        (¬ good → ∃ t : State, exec (.refillComplete r) s = .next t ∧ s.SoundEnded t v y.sound .mediaError))) ∧
    (∀ o, s.media.op = some o → o.kind = .program →
      (∀ k w, o.work = .sessionPage k w → exec (.programComplete true) s = .next { s with media := { s.media with
        op := none, class2 := s.media.class2 ++ [{ o with kind := .verify }] } }) ∧
      (∀ r, o.work = .record r → exec (.programComplete true) s = .next { s with media := { s.media with
        op := none, class2 := s.media.class2 ++ [{ o with kind := .verify }] } }) ∧
      (∀ k p d, o.work = .copyProgram k p d → exec (.programComplete true) s = .next { s with media := { s.media with
        op := none, class2 := s.media.class2 ++ [{ o with kind := .verify }] } }) ∧
      (∀ i x, o.work = .snapshotPage i x →
        ((s.media.format ≠ none ∨ s.media.records ≠ []) → exec (.programComplete true) s = .next { s with
          media := { s.media with op := none, class2 := s.media.class2 ++ [{ o with kind := .verify }] } }) ∧
        (s.media.format = none → s.media.records = [] → exec (.programComplete true) s = .next { s with
          media := { s.media with op := none, class4 := s.media.class4 ++ [{ o with kind := .verify }] } })) ∧
      (∀ p d, o.work = .refreshProgram p d → exec (.programComplete true) s = .next { s with media := { s.media with
        op := none, class4 := s.media.class4 ++ [{ o with kind := .verify }] } })) ∧
    (∀ o, s.media.op = some o → o.work = .orphan →
      let ended : State := { s with media := { s.media with op := none } }
      (∀ r, o.kind = .read → ∃ list : List RefreshItem,
        exec (.pageReadComplete r) s = .next { ended with media := { ended.media with refreshList := list } } ∧
        exec (.refillComplete r) s = .next { ended with media := { ended.media with refreshList := list } }) ∧
      (o.kind = .program → exec (.programComplete true) s = .next ended) ∧
      (∀ c, o.kind = .verify → (∀ x ∈ c, ∃ k, x = some k ∧ k < 3) → exec (.verifyComplete c) s = .next ended) ∧
      (o.kind = .program → (∀ y, s.media.session = some y → o.block ∉ y.reserved) → s.media.format = none →
        s.media.refresh = none → (s.block o.block).state ∉ [BlockState.catalogue, .factory, .bad] →
        ∃ t : State, exec (.programComplete false) s = .next t ∧ t.media.op = none ∧
          (∀ j, t.block j = { s.block j with state := if j = o.block then .bad else (s.block j).state }) ∧
          t.media.records = s.media.records ++ (if s.media.ring = none then [] else [⟨.bad o.block, .bookkeeping, false⟩]) ∧
          t = { s with media := t.media })) ∧
    (∀ o, s.media.op = some o → o.kind = .program → exec (.programComplete false) s =
      exec (.verifyComplete [none]) { s with media := { s.media with op := some { o with kind := .verify } } }) ∧
    (∀ o, s.media.op = some o → o.kind = .erase → (s.block o.block).erases < 4294967295 →
      let counted := s.setBlock o.block { s.block o.block with erases := (s.block o.block).erases + 1 }
      s.flashContent = some (.header ((s.block o.block).erases + 1)) ∧
      (∀ ok, ∃ t : State, exec (.eraseComplete ok) s = .next t ∧
        (t.block o.block).erases = (s.block o.block).erases + 1) ∧
      (o.work = .ringErase → exec (.eraseComplete false) s = exec (.verifyComplete [none]) { counted with
        media := { counted.media with op := some ⟨.verify, o.block, 0, .snapshotPage 0 (.body [])⟩ } }) ∧
      (∀ y, s.media.session = some y →
        (o.work = .sessionErase o.block ∨ (o.work = .dirtyErase o.block ∧ (s.block o.block).state = .session)) →
        exec (.eraseComplete true) s = .next { counted with media := { counted.media with
          op := none, session := some { y with unerased := y.unerased.filter (fun j => decide (j ≠ o.block)) } } } ∧
        (∀ place, y.reserved.findIdx? (fun j => j == o.block) = some place →
          exec (.eraseComplete false) s = exec (.verifyComplete [none]) { counted with
            media := { counted.media with op := some ⟨.verify, o.block, 0, .copyProgram place 0 []⟩ } })) ∧
      (∀ f, o.work = .spareErase o.block → s.media.format = some f →
        let left := f.toErase.filter (fun j => decide (j ≠ o.block))
        let target := match s.media.ring with | some n => (n + 1) % 8 | none => 0
        (left ≠ [] → exec (.eraseComplete true) s = .next { counted with media := { counted.media with
          op := none, format := some { f with toErase := left } } }) ∧
        (left = [] → s.media.compaction = none → exec (.eraseComplete true) s = .next { counted with
          media := { counted.media with
            op := none, format := some { f with toErase := [] }, compaction := some ⟨none, target, 1, none⟩
            class2 := s.media.class2 ++ [⟨.erase, target, 0, .ringErase⟩] } }) ∧
        (∀ n, o.block ∈ f.toErase → s.media.session = none → s.media.refresh = none →
          let able := fun (j : Nat) => j < 1024 ∧ j ≠ o.block ∧
            (s.block j).state ∉ [BlockState.catalogue, .factory, .bad, .spare]
          able n → (∀ j, able j → (s.block n).erases < (s.block j).erases ∨
            ((s.block n).erases = (s.block j).erases ∧ n ≤ j)) →
          ∃ t : State, exec (.eraseComplete false) s = .next t ∧
            (∀ j, t.block j = { counted.block j with
              state := if j = o.block then .bad else if j = n then .spare else (s.block j).state }) ∧
            t.media.format = some { f with toErase := left ++ [n] } ∧
            t.media.class2 = s.media.class2.filter (fun q => decide (q.work ≠ .spareErase o.block)) ++
              [⟨.erase, n, 0, .spareErase n⟩] ∧
            (∀ q ∈ t.media.class4, q.work ≠ .dirtyErase n) ∧ t = { s with media := t.media }))) ∧
    (∀ k p, s.media.op = some ⟨.erase, k, p, .dirtyErase k⟩ → (s.block k).state = .freeDirty →
      (s.block k).erases < 4294967295 → s.media.refresh = none →
      (∃ t : State, exec (.eraseComplete true) s = .next t ∧ t.block k = ⟨.freeClean, (s.block k).erases + 1⟩ ∧
        t.media.op = none ∧ (∀ j, j ≠ k → t.block j = s.block j) ∧ t = { s with media := t.media }) ∧
      ((∀ y, s.media.session = some y → k ∉ y.reserved) → s.media.format = none →
        ∃ t : State, exec (.eraseComplete false) s = .next t ∧ t.block k = ⟨.bad, (s.block k).erases + 1⟩ ∧
          t.media.op = none ∧ (∀ j, j ≠ k → t.block j = s.block j) ∧ t = { s with media := t.media } ∧
          t.media.records = s.media.records ++ (if s.media.ring = none then [] else [⟨.bad k, .bookkeeping, false⟩]))) ∧
    (∀ k p x, s.media.op = some ⟨.erase, k, p, .ringErase⟩ → s.media.compaction = some x →
      let inState := fun (st : BlockState) =>
        (List.range 1024).filter (fun j => decide ((s.block j).state = st))
      let packed : List EntryImage :=
        (s.assets.directory.cells.filter (fun e => decide (128 ≤ e.1))).map (fun e => ⟨e.1, match e.2.content with
          | .absent => .absent
          | .present v => .present v.image
          | .aliasOf n => .aliasOf n, e.2.protection, e.2.changed, e.2.lastVersion⟩)
      let image : SnapshotImage := ⟨if s.media.sequence < 4294967295 then s.media.sequence + 1
        else (Config.sequencePastMax s.media.sequence).toNat, packed, inState .spare, inState .bad⟩
      let header : FlashOp := ⟨.program, x.target, 0, .snapshotPage 0 (.body (Config.snapshotPageBytes image 0))⟩
      let forced := s.media.format ≠ none ∨ s.media.records ≠ []
      ∃ t : State, exec (.eraseComplete true) s = .next t ∧ t.media.op = none ∧
        t.media.compaction = some { x with page := some (0, image) } ∧
        (forced → t.media.class2 = s.media.class2 ++ [header] ∧ t.media.class4 = s.media.class4) ∧
        (¬ forced → t.media.class4 = s.media.class4 ++ [header] ∧ t.media.class2 = s.media.class2) ∧
        (∀ j, j ≠ k → t.block j = s.block j) ∧ (t.block k).state = (s.block k).state ∧ t = { s with media := t.media })

/-- R153 (verification), R144, R147 to R149, R141, R143, R158 step 4, R154 steps 2 to 4, R156, R157, R160 (records, snapshots, compaction failure) and R163 (how a format ends; STATE CHANGED where it leaves OFFLINE is notes/assumptions/25); R146 and R150: the reads of a superseded version start again, in the order of notes/assumptions/65, one that fails answered before the request of the act (notes/assumptions/70); R158 steps 1 to 3 (`State.CommitHandedOver`). The directory changes and the commit are stated where no refresh is under way, the failed page where no refresh, no format and no earlier repair is and no COMMIT has been handed over. A snapshot’s number of pages and its bytes are free values (notes/assumptions/20); its steps are in class 2 for a format too (notes/assumptions/24). A page that passes in a block replaced meanwhile is answered there and copied afterwards: notes/assumptions/69; the order of the responses of a session that fails: notes/assumptions/68, and that each is MEDIA ERROR, notes/assumptions/71; the order in which a failed block’s pages are copied: notes/assumptions/79. The serial of the new version is the model’s own (notes/assumptions/22). -/
def Obligations.VerifiesComplete : Prop :=
  ∀ (s : State) (c : List (Option Nat)) (o : FlashOp), s.hub.held = false → s.media.op = some o → o.kind = .verify →
    let passes := ∀ x ∈ c, ∃ k, x = some k ∧ k < 3
    let after := exec (.verifyComplete c) s
    let blocks := fun (v : VersionImage) => (v.extents.map (fun e => (List.range e.2).map (fun i => e.1 + i))).flatten
    let keeps := s.assets.cache.filter (fun x => x.factory)
    let replaced := fun (t : State) (k : Nat) (old : Content) (live : List Nat) =>
      let st := fun (j : Nat) => if j ∈ live then BlockState.live else (match old with
        | .present v => if j ∈ blocks v.image then (if v.pins = 0 then .freeDirty else .retired) else (s.block j).state
        | _ => (s.block j).state)
      (∀ j, t.block j = { s.block j with state := st j }) ∧
      t.assets.retired = s.assets.retired ++ (match old with
        | .present v => if v.pins = 0 then [] else [(⟨k, v⟩ : Retired)]
        | _ => [])
    let superseded := fun (k : Nat) => match (s.entry k).content with
      | .present v => s.assets.reads.filter (fun j => decide (j.holder = k ∧ j.version = v.image.number))
      | _ => []
    let restarts := fun (u v t : State) (list : List ReadJob) =>
      u.links = s.links ∧ (∀ j, u.entry j = t.entry j) ∧ u.assets.cache = keeps ∧ u.assets.reads = s.assets.reads ∧
      u.media.op = none ∧ u.media.class3 = s.media.class3 ∧ u.ReadsRestarted v list ∧
      t.assets = v.assets ∧ t.media.class3 = v.media.class3
    (∀ r x more, passes → o.work = .record r → s.media.records = x :: more → s.media.refresh = none →
      (∀ ch, x.asker = .change → s.assets.change = some ch →
        let applied := fun (t : State) (k : Nat) (e : DirEntry) (list : List ReadJob) =>
          (∃ u v : State, restarts u v t list ∧ t.links = (v.complete ch.ticket []).links) ∧
          after = .next t ∧ t.assets.change = none ∧
          t.media.records = more ∧ t.media.pagesUsed = s.media.pagesUsed + 1 ∧
          t.entry k = e ∧ ∀ j, j ≠ k → t.entry j = s.entry j
        (∀ k, ch.record = .delete k → ∃ t : State, applied t k { s.entry k with
            content := .absent, protection := .opened, changed := true } (superseded k) ∧
          replaced t k (s.entry k).content []) ∧
        (∀ k target, ch.record = .redirect k target → ∃ t : State, applied t k { s.entry k with
            content := .aliasOf target, protection := .opened, changed := true } (superseded k) ∧
          replaced t k (s.entry k).content []) ∧
        (∀ k p, ch.record = .protect k p → ∃ t : State, applied t k { s.entry k with
            protection := p, changed := true } [] ∧ replaced t k .absent []) ∧
        (∀ ns, ch.record = .marksClear ns → ∃ t : State, after = .next t ∧ t.links = (s.complete ch.ticket []).links ∧
          t.assets.change = none ∧ t.assets.cache = s.assets.cache ∧ t.assets.retired = s.assets.retired ∧
          t.assets.reads = s.assets.reads ∧ t.media.class3 = s.media.class3 ∧
          t.media.records = more ∧ t.media.pagesUsed = s.media.pagesUsed + 1 ∧ (∀ j, t.block j = s.block j) ∧
          ∀ k, t.entry k = if k ∈ ch.numbers then { s.entry k with changed := false, read := false } else s.entry k)) ∧
      (∀ k v y cl, x.asker = .commit → x.record = .commit k v → s.media.session = some y → y.closing = some cl → ∃ t : State,
        after = .next t ∧
        t.entry k = { s.entry k with content := .present ⟨v, 0, s.assets.commits + 1⟩, lastVersion := v.number, changed := true } ∧
        (∀ j, j ≠ k → t.entry j = s.entry j) ∧ replaced t k (s.entry k).content (blocks v) ∧
        t.media.session = none ∧ t.media.records = more ∧
        ∀ st, s.media.store = some st → ∃ u w : State, restarts u w t (superseded k) ∧
          let event := NoticeBody.storeEvent .committed st st (some k) v.number
          t.links = (((w.notify .pl event).notify .tl event).complete cl.ticket (e16 v.number)).links)) ∧
    (∀ r x more ring, passes → o.work = .record r → s.media.records = x :: more → s.media.pagesUsed = 63 →
      s.media.ring = some ring → s.media.compaction = none → s.media.format = none →
      (s.media.refresh = none ∨ x.asker = .remap ∨ x.asker = .bookkeeping) → ∃ t : State, after = .next t ∧
      t.media.pagesUsed = 64 ∧ t.media.mustCompact = true ∧ t.media.records = more ∧
      let erase : FlashOp := ⟨.erase, (ring + 1) % 8, 0, .ringErase⟩
      if s.media.store = some .ready ∨ more ≠ [] then
        t.media.compaction = some ⟨some ring, (ring + 1) % 8, 1, none⟩ ∧
        (more ≠ [] → erase ∈ t.media.class2) ∧ (more = [] → erase ∈ t.media.class4)
      else t.media.compaction = none) ∧
    (∀ r x more old new, passes → o.work = .record r → s.media.records = x :: more → x.asker = .remap →
      x.record = .remap old new → s.media.refresh = some ⟨old, new, 64⟩ → old ≠ new →
      s.assets.directory.wf .absent = true → ∃ t : State,
      after = .next t ∧ t.media.refresh = none ∧ t.media.records = more ∧
      t.media.refreshList = s.media.refreshList.filter (fun i => decide (i.block ≠ old)) ∧
      (∀ j, t.block j = { s.block j with
        state := if j = old then .freeDirty else if j = new then .live else (s.block j).state }) ∧
      t.assets.cache = s.assets.cache.filter (fun e => e.factory && decide (e.block ≠ old)) ∧ t.links = s.links ∧
      (∀ k v, (s.entry k).content = .present v → old ∈ blocks v.image → ∃ extents : List (Nat × Nat),
        t.entry k = { s.entry k with content := .present { v with image := { v.image with extents := extents } } } ∧
        (extents.map (fun e => (List.range e.2).map (fun i => e.1 + i))).flatten =
          (blocks v.image).map (fun j => if j = old then new else j) ∧
        (∀ e ∈ extents, 1 ≤ e.2) ∧
        ∀ (i : Nat) (e f : Nat × Nat), extents[i]? = some e → extents[i + 1]? = some f → e.1 + e.2 ≠ f.1) ∧
      ∀ k, (∀ v, (s.entry k).content = .present v → old ∉ blocks v.image) → t.entry k = s.entry k) ∧
    (∀ p d x, passes → o.work = .refreshProgram p d → s.media.refresh = some x →
      let pinned := (∃ c ∈ s.assets.directory.cells, ∃ v, c.2.content = .present v ∧ 0 < v.pins ∧ x.old ∈ blocks v.image) ∨
        (∃ r ∈ s.assets.retired, 0 < r.version.pins ∧ x.old ∈ blocks r.version.image)
      (p + 1 < 64 → after = .next { s with media := { s.media with
        op := none, refresh := some { x with page := p + 1 }
        class4 := s.media.class4 ++ [⟨.read, x.old, p + 1, .refreshRead (p + 1)⟩] } }) ∧
      (p + 1 = 64 → pinned → ∃ t : State, after = .next t ∧
        t.media.refreshList = (s.media.refreshList.map (fun i => if i.block = x.old
          then { i with postponed := true } else i)).filter (fun i => decide (i.block ≠ x.dest)) ∧
        (∀ j, t.block j = { s.block j with state := if j = x.dest then .freeDirty else (s.block j).state }) ∧
        t = { s with media := { s.media with
          op := none, refresh := none, refreshList := t.media.refreshList, blocks := t.media.blocks } }) ∧
      (∀ h v, p + 1 = 64 → ¬ pinned → s.assets.directory.wf .absent = true → (s.entry h).content = .present v →
        x.old ∈ blocks v.image → (∀ k w, (s.entry k).content = .present w → x.old ∈ blocks w.image → k = h) →
        let list := (blocks v.image).map (fun j => if j = x.old then x.dest else j)
        let extents := (List.range list.length).filter (fun i => decide (i = 0 ∨ list.getD (i - 1) 0 + 1 ≠ list.getD i 0))
        (64 < extents.length → ∃ t : State, after = .next t ∧ t.media.op = none ∧ s.RefreshDropped t x .freeDirty) ∧
        (extents.length ≤ 64 → ∃ t : State, after = .next t ∧ t.media.refresh = some { x with page := 64 } ∧
          t.media.records = s.media.records ++ [⟨.remap x.old x.dest, .remap, false⟩] ∧
          t.media.blocks = s.media.blocks ∧ t.media.refreshList = s.media.refreshList ∧ t = { s with media := t.media }))) ∧
    (∀ p d x ring, ¬ passes → o.work = .refreshProgram p d → s.media.refresh = some x → x.dest ≠ x.old →
      s.media.ring = some ring → s.media.format = none →
      let least := fun (st : BlockState) (k : Nat) =>
        let free := fun (j : Nat) => j < 1024 ∧ j ≠ x.dest ∧ (s.block j).state = st
        free k ∧ ∀ j, free j → (s.block k).erases < (s.block j).erases ∨ ((s.block k).erases = (s.block j).erases ∧ k ≤ j)
      (∀ k spare, (if spare = true then least .spare k else least .freeClean k ∧ ∀ j, ¬ least .spare j) → k ≠ x.old →
        ∃ t : State, after = .next t ∧ t.media.refresh = some ⟨x.old, k, 0⟩ ∧
          (∀ j, t.block j = { s.block j with
            state := if j = k then .freeClean else if j = x.dest then .bad else (s.block j).state }) ∧
          t.media.records = s.media.records ++ [⟨.bad x.dest, .bookkeeping, false⟩] ++
            (if spare = true then [⟨.spareTaken k, .bookkeeping, false⟩] else []) ∧
          (⟨.read, x.old, 0, .refreshRead 0⟩ : FlashOp) ∈ t.media.class4 ∧ t = { s with media := t.media }) ∧
      ((∀ j, ¬ least .spare j ∧ ¬ least .freeClean j) → ∃ t : State, after = .next t ∧ t.media.refresh = none ∧
        (t.block x.dest).state = .bad ∧ (⟨.bad x.dest, .bookkeeping, false⟩ : PendingRecord) ∈ t.media.records ∧ (∀ i ∈ t.media.refreshList, i.block ≠ x.old ∧ i.block ≠ x.dest) ∧
        (s.media.store = some .ready → t.media.store = some .readOnly))) ∧
    (∀ i body x j image, passes → o.work = .snapshotPage i body → s.media.compaction = some x → x.page = some (j, image) →
      let pages := 2 + min 14 (Config.entryPages image)
      let content := fun (k : Nat) => if k + 1 < pages then SnapshotPage.body (Config.snapshotPageBytes image k)
        else .finish (crc16 ((List.range (pages - 1)).map (Config.snapshotPageBytes image)).flatten)
      let next : FlashOp := ⟨.program, x.target, i + 1, .snapshotPage (i + 1) (content (i + 1))⟩
      let paged : Media := { s.media with op := none, compaction := some { x with page := some (i + 1, image) } }
      let written : Media := { s.media with
        op := none, compaction := none, ring := some x.target, sequence := image.sequence, pagesUsed := pages
        mustCompact := false }
      (i + 1 < pages →
        ((s.media.format ≠ none ∨ s.media.records ≠ []) →
          after = .next { s with media := { paged with class2 := s.media.class2 ++ [next] } }) ∧
        (s.media.format = none → s.media.records = [] →
          after = .next { s with media := { paged with class4 := s.media.class4 ++ [next] } })) ∧
      (pages ≤ i + 1 → s.media.format = none →
        (s.media.records = [] → after = .next { s with media := written }) ∧
        (∀ y more, s.media.records = y :: more → s.media.appending = false → after = .next { s with media := { written with
          appending := true
          class2 := s.media.class2 ++ [⟨.program, x.target, pages, .record y.record⟩] } })) ∧
      (∀ f, pages ≤ i + 1 → s.media.format = some f → s.media.records = [] →
        let event := NoticeBody.storeEvent .formatted .ready (s.media.store.getD .offline) none 0
        ∃ t : State, after = .next t ∧
          t.links = (((s.notify .pl event).notify .tl event).complete f.ticket []).links ∧
          t = { s with links := t.links, media := { written with store := some .ready, format := none } })) ∧
    (∀ i body x, ¬ passes → o.work = .snapshotPage i body → s.media.compaction = some x →
      let limit := if x.source.isSome then 7 else 8
      let target := (x.target + 1) % 8
      let erase : FlashOp := ⟨.erase, target, 0, .ringErase⟩
      let moved : Media := { s.media with op := none, compaction := some ⟨x.source, target, x.tried + 1, none⟩ }
      (x.tried < limit → (s.media.format ≠ none ∨ s.media.records ≠ []) →
        after = .next { s with media := { moved with class2 := s.media.class2 ++ [erase] } }) ∧
      (x.tried < limit → s.media.format = none → s.media.records = [] →
        after = .next { s with media := { moved with class4 := s.media.class4 ++ [erase] } }) ∧
      (limit ≤ x.tried → s.media.format = none → ∃ t : State, after = .next t ∧ t.media.records = [] ∧
        t.media.compaction = none ∧ t.media.ring = s.media.ring ∧
        (s.media.store = some .ready → t.media.store = some .readOnly ∧ t.media.session = none ∧
          let event := NoticeBody.storeEvent .stateChanged .readOnly .ready none 0
          (s.media.records = [] → s.media.session = none →
            t.links = ((s.notify .pl event).notify .tl event).links) ∧
          (∀ y ch, s.media.records = [y] → y.asker = .change → s.assets.change = some ch → s.media.session = none →
            t.assets = { s.assets with change := none } ∧
            t.links = (((s.refuse ch.ticket .mediaError).notify .pl event).notify .tl event).links) ∧
          (∀ y z cl, s.media.records = [y] → y.asker = .commit → s.media.session = some z → z.closing = some cl →
            z.repairs = [] → (∀ q ∈ s.media.class2, match q.work with | .sessionPage .. => False | _ => True) →
            let failed := NoticeBody.storeEvent .failed .readOnly .ready (some z.asset) 0
            t.links = (((s.refuse cl.ticket .mediaError).notify .pl failed).notify .tl failed).links))) ∧
      (∀ f, limit ≤ x.tried → s.media.format = some f → ∃ t : State, after = .next t ∧
        t.media.store = some .offline ∧ t.media.ring = none ∧ t.media.format = none ∧ t.media.compaction = none ∧
        t.assets = { s.assets with cache := [] } ∧
        (let event := NoticeBody.storeEvent .stateChanged .offline (s.media.store.getD .offline) none 0
        t.links = (if s.media.store.getD .offline = .offline then s.refuse f.ticket .mediaError
          else ((s.notify .pl event).notify .tl event).refuse f.ticket .mediaError).links) ∧
        t = { s with links := t.links, assets := t.assets, media := t.media })) ∧
    (∀ r ring, ¬ passes → o.work = .record r → s.media.ring = some ring → s.media.compaction = none →
      (s.media.store = some .ready ∨ (s.media.records ≠ [] ∧ s.media.format = none)) → ∃ t : State,
      after = .next t ∧ t.media.mustCompact = true ∧ t.media.records = s.media.records ∧
      t.media.compaction = some ⟨some ring, (ring + 1) % 8, 1, none⟩ ∧
      (⟨.erase, (ring + 1) % 8, 0, .ringErase⟩ : FlashOp) ∈ t.media.class2 ++ t.media.class4 ∧
      t = { s with media := t.media }) ∧
    let copies := fun (place : Nat) (q : FlashOp) => match q.work with
      | .copyRead k _ => decide (k = place)
      | .copyProgram k _ _ => decide (k = place)
      | _ => false
    let programs := ∃ q ∈ s.media.class2, match q.work with
      | .sessionPage .. => True
      | .copyRead .. => True
      | .copyProgram .. => True
      | _ => False
    let goesOn := fun (u : State) (y : Session) (left : Prop) =>
      ((∀ cl, y.closing = some cl → cl.committing = false → left) → after = .next u) ∧
      (∀ cl, y.closing = some cl → cl.committing = false → ¬ left →
        ∃ t : State, after = .next t ∧ u.CommitHandedOver t y cl.ticket)
    (∀ place w y block, passes → o.work = .sessionPage place w → s.media.session = some y →
      y.reserved[place]? = some block →
      let paged : Session := { y with pages := y.pages ++ [⟨place, w.page, o.block⟩] }
      let told := fun (u : State) => match w.ticket with | some tk => u.complete tk [] | none => u
      (o.block = block → goesOn (told { s with media := { s.media with op := none, session := some paged } }) paged
        (y.repairs ≠ [] ∨ programs)) ∧
      (∀ q, o.block ≠ block → paged.pages.find? (fun q => decide (q.place = place ∧ q.block ≠ block)) = some q →
        after = .next (told { s with media := { s.media with
          op := none
          session := some { paged with
            repairs := if ∃ r ∈ y.repairs, r.place = place then y.repairs else y.repairs ++ [⟨place, []⟩] }
          class2 := s.media.class2 ++ if s.media.class2.any (copies place) then []
            else [⟨.read, q.block, q.page, .copyRead place q.page⟩] } }))) ∧
    (∀ place page d y r, passes → o.work = .copyProgram place page d → s.media.session = some y →
      y.repairs.find? (fun q => decide (q.place = place)) = some r →
      (∀ x ∈ s.media.class2, copies place x = false) →
      let pages := y.pages.map (fun q => if q.place = place ∧ q.page = page then { q with block := o.block } else q)
      match pages.find? (fun q => decide (q.place = place ∧ q.block ≠ y.reserved.getD place 0)) with
      | some q => after = .next { s with media := { s.media with
          op := none, session := some { y with pages := pages }
          class2 := s.media.class2 ++ [⟨.read, q.block, q.page, .copyRead place q.page⟩] } }
      | none =>
        let z : Session := { y with pages := pages, repairs := y.repairs.filter (fun q => decide (q.place ≠ place)) }
        goesOn { s with media := { s.media with
          op := none, session := some z
          class2 := s.media.class2 ++ r.todo.map (fun w =>
            (⟨.program, 0, w.page, .sessionPage place w⟩ : FlashOp)) } } z (z.repairs ≠ [] ∨ r.todo ≠ [] ∨ programs)) ∧
    (∀ place y ring todo old, ¬ passes → ((∃ w, o.work = .sessionPage place w ∧ todo = [w]) ∨
        (∃ page d, o.work = .copyProgram place page d ∧ todo = [])) → s.media.session = some y →
      ((y.repairs = [] ∧ old = []) ∨ y.repairs = [⟨place, old⟩]) →
      y.reserved[place]? = some o.block → (s.block o.block).state = .session → s.media.ring = some ring →
      s.media.format = none → s.media.refresh = none → (∀ cl, y.closing = some cl → cl.committing = false) →
      (∀ x ∈ s.media.class2, copies place x = false) →
      let least := fun (st : BlockState) (k : Nat) => k < 1024 ∧ (s.block k).state = st ∧ ∀ j, j < 1024 →
        (s.block j).state = st → (s.block k).erases < (s.block j).erases ∨ ((s.block k).erases = (s.block j).erases ∧ k ≤ j)
      let bad : PendingRecord := ⟨.bad o.block, .bookkeeping, false⟩
      let written := y.pages.find? (fun q => decide (q.place = place))
      (∀ k spare, (if spare = true then least .spare k else least .freeClean k ∧ ∀ j, ¬ least .spare j) →
        (∀ q ∈ y.pages, q.block ≠ k) → ∃ t : State, after = .next t ∧
          (∀ j, t.block j = { s.block j with
            state := if j = k then .session else if j = o.block then .bad else (s.block j).state }) ∧
          t.media.records = s.media.records ++ [bad] ++
            (if spare = true then [⟨.spareTaken k, .bookkeeping, false⟩] else []) ∧
          t.media.session = some { y with
            reserved := y.reserved.set place k, unerased := y.unerased.filter (fun j => decide (j ≠ o.block))
            repairs := if written = none then [] else [⟨place, old ++ todo⟩] } ∧
          (match written with
            | none => ∀ w ∈ old ++ todo, (⟨.program, 0, w.page, .sessionPage place w⟩ : FlashOp) ∈ t.media.class2
            | some q => (⟨.read, q.block, q.page, .copyRead place q.page⟩ : FlashOp) ∈ t.media.class2) ∧
          (∀ x ∈ t.media.class2, x.work ≠ .sessionErase o.block) ∧ t = { s with media := t.media }) ∧
      ((∀ j, ¬ least .spare j ∧ ¬ least .freeClean j) → s.media.store = some .ready →
        (∀ x ∈ s.media.records, x.asker = .commit → x.begun = false) → ∃ t : State, after = .next t ∧
          t.media.store = some .readOnly ∧ t.media.session = none ∧
          (∀ j, t.block j = { s.block j with state := if j = o.block then .bad
            else if j ∈ y.reserved ∧ (s.block j).state = .session then .freeDirty else (s.block j).state }) ∧
          (let failed := NoticeBody.storeEvent .failed .readOnly .ready (some y.asset) 0
          let owed : List Ticket := s.media.class2.filterMap (fun x => match x.work with
              | .sessionPage _ w => w.ticket
              | _ => none) ++ (old ++ todo).filterMap (fun w => w.ticket) ++
            (y.closing.map (fun x => x.ticket)).toList
          t.links = (((owed.foldl (fun (u : State) k => u.refuse k .mediaError) s).notify .pl failed).notify .tl
            failed).links) ∧
          t = { s with media := t.media, links := t.links }))

/-! ### Supply, start-up and hub reset (chapter 11), and the invariants of every step -/

/-- R166, R169 and the reset rules of the chapters; that links, channels, stores and versions agree at reset is the base of LinksStaySound, ChannelsStayAgreed, StoresStayAgreed and VersionsStayAgreed. The model’s choices: a release without an assertion and a second assertion change nothing (notes/assumptions/4); what RESET ASSERTED leaves, and that the input lines and the waiting commands are kept (notes/assumptions/8); that POWER ON ends an assertion of RESET (notes/assumptions/60); the supply change time 0 (notes/assumptions/29); the empty queue (notes/assumptions/35). The state that POWER ON and RESET RELEASED give is the whole of `State.reset`, with the further values that the model chose for it (notes/assumptions/12, 28, 34, 42, 44, 45, 74 and 78). -/
def Obligations.ResetAndPower : Prop :=
  (∀ r : State, r = State.reset → r.pending = [] ∧ r.hub = ⟨false, .starting, 1, 0, ⟨none, 0, [], []⟩, [], false⟩ ∧
    r.LinksSound ∧ r.ChannelsAgree ∧ r.StoresAgree ∧ r.VersionsAgree ∧
    (∀ l, (r.link l).up = false ∧ (r.link l).counts = .zero) ∧
    (∀ p, (r.port p).state = .empty ∧ (r.port p).holder = none ∧ (r.port p).generation = 0 ∧ (r.port p).line = .closed ∧
      (r.port p).device = none) ∧
    (∀ p, (r.motor p).state = .free ∧ (r.motor p).duty = 0 ∧ (r.motor p).active = none ∧ (r.motor p).waiting = [] ∧
      (r.motor p).pair = none) ∧
    (∀ l c, (r.view l c).interval = 0 ∧ (r.view l c).fresh = false) ∧ (∀ l k, r.watch l k = none ∧ r.subs.get l = 0) ∧
    (∀ v, r.voice v = none) ∧ r.sound.queue = [] ∧ r.sound.counter = 0 ∧ (∀ l, r.sound.volumes.get l = 80) ∧
    r.sound.speaker = 0 ∧ (∀ n, r.entry n = ⟨.absent, .opened, 0, false, false⟩) ∧ r.assets.retired = [] ∧
    r.assets.cache = [] ∧ r.assets.lock = none ∧ r.media.session = none ∧ r.media.refreshList = [] ∧
    r.media.store = none ∧ r.supply = ⟨[], none, none, 0⟩) ∧
  ∀ s : State,
    let fresh : State := { State.reset with pins := s.pins, pending := s.pending }
    exec .powerOn s = .next fresh ∧
    (s.hub.held = true → exec .resetReleased s = .next fresh ∧ exec .resetAsserted s = .next s) ∧
    (s.hub.held = false → exec .resetReleased s = .next s ∧ ∃ t : State, exec .resetAsserted s = .next t ∧
      t.hub = { s.hub with held := true } ∧ t.pins = s.pins ∧ t.pending = s.pending ∧
      (∀ l, t.link l = { LinkUnit.reset with counts := (s.link l).counts, nextSerial := (s.link l).nextSerial }) ∧
      (∀ p, (t.motor p).state = .free ∧ (t.motor p).duty = 0 ∧ (t.port p).line = .closed ∧ (t.port p).holder = none) ∧
      t.holderI = none ∧ t.sound.speaker = 0 ∧ t.media.op = none ∧ t.attention = false ∧ ∀ p, t.bridge p = .off)

/-- R166, R167, R151, R161. A step’s command outside its step changes nothing (notes/assumptions/4); the parameter words of FLASH (notes/assumptions/13); blocks 0 to 8 keep CATALOGUE and FACTORY whatever the scan says of their marks (notes/assumptions/28). The block states after replay are stated where the ring block holds no record. -/
def Obligations.StartUpSteps : Prop :=
  ∀ s : State, s.hub.held = false →
    let inStep := fun (n : Nat) => s.hub.state = .starting ∧ s.hub.step = n
    let failed := fun (a : Area) (minor : Nat) (ps : List Nat) =>
      let flags := if a ∈ s.hub.fail.failed then s.hub.fail.failed else s.hub.fail.failed ++ [a]
      if s.hub.fail.major = none then (⟨some a, minor, ps, flags⟩ : FailRecord) else { s.hub.fail with failed := flags }
    let blocks := fun (v : VersionImage) => (v.extents.map (fun e => (List.range e.2).map (fun i => e.1 + i))).flatten
    let enters := fun (t : State) (fail : FailRecord) =>
      t.hub = { s.hub with state := .ready, step := 0, fail := fail } ∧ t.supply = s.supply ∧
      t.sample .internal = ⟨none, 0, 0, List.replicate 6 0, List.replicate 6 false, t.sharedI.interval⟩ ∧
      (∀ p, (p ∈ s.hub.driverFaults → (t.port p).state = .fault ∧ (t.port p).fault = some .overload) ∧
        (p ∉ s.hub.driverFaults → s.pins.detect.get p = .openCircuit → (t.port p).state = (s.port p).state) ∧
        (p ∉ s.hub.driverFaults → s.pins.detect.get p ≠ .openCircuit → s.pins.fault.get p = false →
          (t.port p).state = .settling ∧ (t.port p).detect = s.pins.detect.get p))
    (∀ r, ¬ inStep 1 → exec (.memoryTest r) s = .next s) ∧
    (inStep 1 → exec (.memoryTest .pass) s = .next { s with hub := { s.hub with step := 2 } } ∧
      (∀ a e r, exec (.memoryTest (.patternFault a e r)) s = .next { s with hub := { s.hub with
        fail := failed .memory 1 [a, e, r], state := .failed, step := 0 } }) ∧
      (∀ a e r, exec (.memoryTest (.addressFault a e r)) s = .next { s with hub := { s.hub with
        fail := failed .memory 2 [a, e, r], state := .failed, step := 0 } })) ∧
    (¬ inStep 2 → exec .driverCheck s = .next s) ∧
    (inStep 2 →
      let f := s.pins.fault
      let ports := [Port.a, .b, .c, .d, .e, .f].filter (fun p => f.get p)
      let bit := fun (b : Bool) (n : Nat) => if b then n else 0
      let mask := bit f.a 1 + bit f.b 2 + bit f.c 4 + bit f.d 8 + bit f.e 16 + bit f.f 32
      exec .driverCheck s = .next { s with hub := { s.hub with
        fail := if ports = [] then s.hub.fail else failed .driver 1 [mask], driverFaults := ports, step := 3 } }) ∧
    (∀ x, ¬ inStep 4 → exec (.flashIdentification x) s = .next s) ∧
    (inStep 4 →
      (∀ n, ∃ t : State, exec (.flashIdentification (.notIdentified n)) s = .next t ∧ enters t (failed .flash 1 [n]) ∧
        t.media = { s.media with store := some .offline } ∧ t.assets = s.assets) ∧
      (∀ n b, ∃ t : State, exec (.flashIdentification (.unreadable n b)) s = .next t ∧ enters t (failed .flash 2 [n, b]) ∧
        t.media = { s.media with store := some .offline } ∧ t.assets = s.assets) ∧
      (∀ scan, ∃ t : State, exec (.flashIdentification (.scanned scan)) s = .next t ∧
        t = { s with hub := { s.hub with step := 5 }, media := { s.media with blocks := t.media.blocks } } ∧
        ∀ b x, b < 1024 → scan[b]? = some x →
          (t.block b).state = (if b ≤ 7 then .catalogue else if b = 8 then .factory else if x.bad then .bad else .freeDirty) ∧
          (∀ c, x.count = some c → (t.block b).erases = c) ∧
          (∀ y c, x.count = none → y ∈ scan → y.count = some c → (∀ z ∈ scan, ∀ d, z.count = some d → d ≤ c) →
            (t.block b).erases = c))) ∧
    (∀ x, ¬ inStep 5 → exec (.factoryIndexRead x) s = .next s) ∧
    (inStep 5 →
      (∀ p, exec (.factoryIndexRead (.unreadable p)) s = .next { s with hub := { s.hub with
        fail := failed .factoryIndex 1 [p], step := 6 } }) ∧
      (∀ p, exec (.factoryIndexRead (.checkFailed p)) s = .next { s with hub := { s.hub with
        fail := failed .factoryIndex 2 [p], step := 6 } }) ∧
      (∀ entries, (entries.map (fun e => e.1)).Nodup → s.media.refresh = none →
        ∃ t : State, exec (.factoryIndexRead (.index entries)) s = .next t ∧
          t = { s with hub := { s.hub with step := 6 }, assets := t.assets, media := t.media } ∧
          (∀ e ∈ entries, t.entry e.1 = ⟨.present ⟨e.2, 0, 0⟩, .fixed, e.2.number, false, false⟩) ∧
          (∀ k, k ∉ entries.map (fun e => e.1) → t.entry k = s.entry k) ∧
          (∀ b, t.block b = { s.block b with
            state := if ∃ e ∈ entries, b ∈ blocks e.2 then .factory else (s.block b).state }))) ∧
    (∀ ring, ¬ inStep 6 → exec (.catalogueReplay ring) s = .next s) ∧
    (∀ ring, inStep 6 →
      ((∀ r ∈ ring, r.complete = true → r.sequence = none) → ∃ (t : State) (high : Nat),
        exec (.catalogueReplay ring) s = .next t ∧ enters t (failed .catalogue 1 [high]) ∧
        t.media.store = some .offline ∧ t.assets = s.assets ∧
        (∀ r ∈ ring, ∀ n, r.sequence = some n → n ≤ high) ∧ (high = 0 ∨ ∃ r ∈ ring, r.sequence = some high)) ∧
      (∀ (k n : Nat) (r : RingImage), ring[k]? = some r → r.complete = true → r.sequence = some n →
        (∀ (j m : Nat) (x : RingImage), ring[j]? = some x → j ≠ k → x.complete = true → x.sequence = some m → m < n) →
        ∃ (t : State) (d : Table DirEntry), exec (.catalogueReplay ring) s = .next t ∧ enters t s.hub.fail ∧
          t.media.store = some .ready ∧ t.media.ring = some k ∧ t.media.sequence = n ∧
          t.media.pagesUsed = (if r.torn then 64 else r.snapshotPages + r.records.length) ∧
          t.assets = { s.assets with directory := r.records.foldl (applyRecord 0) d } ∧
          ((r.entries.map (fun e => e.number)).Nodup → ∀ e ∈ r.entries, d.get .absent e.number =
            ⟨match e.content with | .absent => .absent | .present v => .present ⟨v, 0, 0⟩ | .aliasOf x => .aliasOf x,
              e.protection, e.lastVersion, e.changed, false⟩) ∧
          (∀ j, j ∉ r.entries.map (fun e => e.number) → d.get .absent j = s.entry j) ∧
          (r.records = [] → (r.entries.map (fun e => e.number)).Nodup → (∀ c ∈ s.assets.directory.cells, c.1 < 128) →
            ∀ b, b < 1024 → t.block b = { s.block b with
              state := if b ≤ 7 then .catalogue
                else if (s.block b).state = .factory then .factory
                else if (s.block b).state = .bad ∨ b ∈ r.bads then .bad
                else if b ∈ r.spares then .spare
                else if ∃ e ∈ r.entries, 128 ≤ e.number ∧ (match e.content with
                    | .present v => decide (b ∈ blocks v)
                    | _ => false) = true then .live
                else .freeDirty })))

/-- R164, R165, with the announcements of R61, R137 and R159. That the ends of motion come before those of sounds, and the ports in letter order, is notes/assumptions/14; in what order the responses of a session are handed over, notes/assumptions/68. R154: the refresh that the entry to CUTOFF abandons. -/
def Obligations.SupplyReadingTaken : Prop :=
  ∀ (s : State) (mv : Nat), s.hub.held = false →
    let measures := (s.hub.state = .starting ∧ 3 ≤ s.hub.step) ∨ s.hub.state = .ready
    let readings := if s.supply.readings.length < 8 then s.supply.readings ++ [mv] else s.supply.readings.tail ++ [mv]
    let mean := readings.sum / 8
    let first := if mean < 5400 then SupplyState.cutoff else if mean < 6000 then .low else .normal
    let after := exec (.supplyReading mv) s
    (¬ measures → after = .next s) ∧
    (measures → s.supply.readings.length ≤ 8 →
      (readings.length < 8 → after = .next { s with supply := { s.supply with readings := readings, mean := none } }) ∧
      (readings.length = 8 → s.supply.state = none → after = .next { s with
        supply := { s.supply with readings := readings, mean := some mean, state := some first }
        hub := { s.hub with step := if s.hub.step = 3 then 4 else s.hub.step } }) ∧
      (∀ old, readings.length = 8 → s.supply.state = some old →
        let new := match old with
          | .normal => first
          | .low => if mean < 5400 then .cutoff else if mean ≤ 6300 then .low else .normal
          | .cutoff => .cutoff
        let x := NoticeBody.supplyChanged new old mean
        let told : State := (({ s with supply := ⟨readings, some mean, some new, s.hub.time⟩ }).notify .pl x).notify .tl x
        (new = old → after = .next { s with supply := { s.supply with readings := readings, mean := some mean } }) ∧
        (new ≠ old → new ≠ .cutoff → after = .next told) ∧
        (new ≠ old → new = .cutoff → ∃ t : State, after = .next t ∧ t.supply = told.supply ∧
          (∀ p, (t.motor p).state = .free ∧ (t.motor p).active = none ∧ (t.motor p).waiting = [] ∧ (t.motor p).duty = 0) ∧
          t.sounds = [] ∧ t.hub = s.hub ∧ t.ports = s.ports ∧ t.pairs = s.pairs ∧ t.views = s.views ∧
          ((∀ r ∈ s.media.records, r.asker = .commit → r.begun = false) → t.media.session = none) ∧
          (∀ o ∈ t.media.class4, o ∈ s.media.class2 ++ s.media.class4 ∧ ∀ k, o.work ≠ .dirtyErase k) ∧
          t.media.refresh = none ∧
          (∀ x, s.media.refresh = some x → (t.block x.dest).state = .freeDirty ∧
            (∀ o ∈ t.media.class4, o.refreshes = false) ∧
            (∀ i ∈ t.media.refreshList, i.block ≠ x.old ∧ i.block ≠ x.dest) ∧
            ∀ r ∈ t.media.records, r.asker = .remap → r.begun = true) ∧
          ((∀ p, ∃ bound, s.Binding p bound) →
            let later := fun (p : Port) (q : Pair) =>
              (p = q.first ∧ portCode q.second < portCode p) ∨ (p = q.second ∧ portCode q.first < portCode p)
            let motions := (([.a, .b, .c, .d, .e, .f] : List Port).map (fun p => match (s.motor p).pair with
              | none => s.endings p .supply
              | some k => match s.pair k with
                | none => []
                | some q => if later p q then [] else s.pairEndings k q .supply)).flatten
            let sounds := ([.v0, .v1, .v2, .v3] : List VoiceId).filterMap (fun v => (s.voice v).map (fun y =>
                (y.sound.link, soundNotice y.sound .supply (some v)))) ++
              s.sound.queue.map (fun x => (x.link, soundNotice x .supply none))
            let owed : List Ticket := match s.media.session with
              | none => []
              | some y => if ∃ r ∈ s.media.records, r.asker = .commit ∧ r.begun = true then [] else
                (s.media.op.toList ++ s.media.class2).filterMap (fun o => match o.work with
                    | .sessionPage _ w => w.ticket
                    | _ => none) ++ (y.repairs.map (fun r => r.todo.filterMap (fun w => w.ticket))).flatten ++
                  (y.closing.map (fun c => c.ticket)).toList
            t.links = (owed.foldl (fun (u : State) k => u.refuse k .supplyLow)
              (told.notifyAll (motions ++ sounds))).links))))

/-- R168, R170, R169. Parameter words beyond four do not occur. The input lines and the waiting commands are kept (notes/assumptions/8). -/
def Obligations.HubRequestsAnswered : Prop :=
  ∀ (s : State) (l : Link) (tag : Byte) (n : Nat) (b : List Byte),
    let fresh : State := { State.reset with pins := s.pins, pending := s.pending }
    (s.Waits l tag .hubStatus n b →
      let f := s.hub.fail
      let word := fun (i : Nat) => e32 (f.params.getD i 0)
      let bit := fun (a : Area) (k : Nat) => if a ∈ f.failed then k else 0
      let body := e8 (match s.hub.state with | .starting => 0 | .ready => 1 | .failed => 2) ++
        e8 (if s.hub.state = .starting then s.hub.step else 0) ++
        e8 (match f.major with
          | none => 0 | some .memory => 1 | some .driver => 2 | some .flash => 3 | some .catalogue => 4
          | some .factoryIndex => 5) ++
        e8 f.minor ++ e8 f.params.length ++ word 0 ++ word 1 ++ word 2 ++ word 3 ++
        e8 (bit .memory 1 + bit .driver 2 + bit .flash 4 + bit .catalogue 8 + bit .factoryIndex 16) ++
        e8 (match s.supply.state with | none => 255 | some .normal => 0 | some .low => 1 | some .cutoff => 2) ++
        e16 (s.supply.mean.getD 0) ++
        e8 (match s.media.store with | none => 255 | some .offline => 0 | some .ready => 1 | some .readOnly => 2) ++
        e32 s.hub.time.toNat
      (b.length ≠ 0 → exec (.hubStatus l tag) s = .next (s.answered l tag .hubStatus n .parameterError [])) ∧
      (b.length = 0 → body.length = 30 ∧
        exec (.hubStatus l tag) s = .next (s.answered l tag .hubStatus n .normalCompletion body))) ∧
    (s.Waits l tag .hubReset n b →
      (b.length ≠ 0 → exec (.hubReset l tag) s = .next (s.answered l tag .hubReset n .parameterError [])) ∧
      (b.length = 0 → l = .tl → exec (.hubReset l tag) s = .next (s.answered l tag .hubReset n .linkNotPermitted [])) ∧
      (b.length = 0 → l = .pl → exec (.hubReset l tag) s =
        .next ({ s with hub := { s.hub with resetPending := true } }.answered l tag .hubReset n .normalCompletion []))) ∧
    (s.hub.resetPending = true →
      (∀ serial bytes, (s.link .pl).tx = some ⟨.response serial .hubReset .normalCompletion, bytes⟩ →
        exec (.frameSent .pl) s = .next fresh) ∧
      (s.hub.held = false → (s.link .pl).up = true → exec (.linkDown .pl) s =
        .next { fresh with pins := { s.pins with enable := s.pins.enable.set .pl false } }))

/-- R3, R7 to R11, R14 over every command of the hub. ResetAndPower says that the links are sound at reset. -/
def Obligations.LinksStaySound : Prop :=
  ∀ s t : State, s.LinksSound → step s = .next t → t.LinksSound

/-- R24, R31, R34, R36, R40, R42, R43, R45, R52, R56, R57, R61 over every command of the hub. While RESET is asserted the records stand as they were and are not used (notes/assumptions/8), so nothing is claimed of them; ResetAndPower says that they agree at reset, where the release brings them. -/
def Obligations.ChannelsStayAgreed : Prop :=
  ∀ s t : State, (s.hub.held = false → s.ChannelsAgree) → step s = .next t → t.hub.held = false → t.ChannelsAgree

/-- R124, R125, R133, R140, R142, R143, R153 over every command of the hub, with the erase counts of R151. ResetAndPower says that sounds and store agree at reset; VersionsStayAgreed keeps pins, cache entries and block states with them. -/
def Obligations.StoresStayAgreed : Prop :=
  (∀ s t : State, s.StoresAgree → step s = .next t → t.StoresAgree) ∧
  ∀ (i : Instr) (s t : State) (b : Nat), b < 1024 → exec i s = .next t →
    (t.block b).erases = (s.block b).erases ∨ t.media = State.reset.media ∨
    ((∃ x, i = .flashIdentification x) ∧ s.hub.state = .starting ∧ s.hub.step = 4) ∨
    ∃ ok o, i = .eraseComplete ok ∧ s.media.op = some o ∧ o.kind = .erase ∧ o.block = b ∧
      ((s.block b).erases < 4294967295 → (t.block b).erases = (s.block b).erases + 1)

/-- R123, R142, R143, R151, R153, R154, R158 and R166 over every command of the hub whose operands are in the ranges the manual gives them. ResetAndPower says that all agrees at reset. Versions are told apart by the model’s serial of their commit (notes/assumptions/22). -/
def Obligations.VersionsStayAgreed : Prop :=
  ∀ s t : State, s.VersionsAgree → (∀ c rest, s.pending = c :: rest → c.wf = true) → step s = .next t → t.VersionsAgree
end

