-- ==== Sys2Proof/Laws/State.lean ====
section
/-! SUPPORT. One lemma per field per update of the state, and the laws of the record families: what was written is
read, and every other record is unchanged. -/

namespace Sys2Proof.Machine

/-! ### The record families -/

@[simp] theorem PerLink.get_set_self {α : Type} (t : PerLink α) (i : Link) (x : α) : (t.set i x).get i = x := by
  cases i <;> rfl

@[simp] theorem PerLink.get_set_ne {α : Type} (t : PerLink α) {i j : Link} (x : α) (h : j ≠ i) :
    (t.set i x).get j = t.get j := by
  cases i <;> cases j <;> first | rfl | exact absurd rfl h

theorem PerLink.get_set {α : Type} (t : PerLink α) (i j : Link) (x : α) :
    (t.set i x).get j = if j = i then x else t.get j := by
  by_cases h : j = i
  · subst h; simp
  · simp [h]

@[simp] theorem PerLink.set_set {α : Type} (t : PerLink α) (i : Link) (x y : α) : (t.set i x).set i y = t.set i y := by
  cases i <;> simp [PerLink.set]

@[simp] theorem PerLink.set_get {α : Type} (t : PerLink α) (i : Link) : t.set i (t.get i) = t := by
  cases i <;> simp [PerLink.set, PerLink.get]

theorem PerLink.ext_get {α : Type} {t u : PerLink α} (h : ∀ i, t.get i = u.get i) : t = u := by
  cases t; cases u; simpa [PerLink.get] using And.intro (h .pl) (h .tl)

@[simp] theorem PerPort.get_set_self {α : Type} (t : PerPort α) (i : Port) (x : α) : (t.set i x).get i = x := by
  cases i <;> rfl

@[simp] theorem PerPort.get_set_ne {α : Type} (t : PerPort α) {i j : Port} (x : α) (h : j ≠ i) :
    (t.set i x).get j = t.get j := by
  cases i <;> cases j <;> first | rfl | exact absurd rfl h

theorem PerPort.get_set {α : Type} (t : PerPort α) (i j : Port) (x : α) :
    (t.set i x).get j = if j = i then x else t.get j := by
  by_cases h : j = i
  · subst h; simp
  · simp [h]

@[simp] theorem PerPort.set_set {α : Type} (t : PerPort α) (i : Port) (x y : α) : (t.set i x).set i y = t.set i y := by
  cases i <;> simp [PerPort.set]

@[simp] theorem PerPort.set_get {α : Type} (t : PerPort α) (i : Port) : t.set i (t.get i) = t := by
  cases i <;> simp [PerPort.set, PerPort.get]

theorem PerPort.ext_get {α : Type} {t u : PerPort α} (h : ∀ i, t.get i = u.get i) : t = u := by
  cases t; cases u
  simp only [PerPort.mk.injEq]
  exact ⟨h .a, h .b, h .c, h .d, h .e, h .f⟩

@[simp] theorem PerChan.get_set_self {α : Type} (t : PerChan α) (i : Chan) (x : α) : (t.set i x).get i = x := by
  cases i <;> simp [PerChan.get, PerChan.set]

@[simp] theorem PerChan.get_set_ne {α : Type} (t : PerChan α) {i j : Chan} (x : α) (h : j ≠ i) :
    (t.set i x).get j = t.get j := by
  cases i <;> cases j <;> simp_all [PerChan.get, PerChan.set]

theorem PerChan.get_set {α : Type} (t : PerChan α) (i j : Chan) (x : α) :
    (t.set i x).get j = if j = i then x else t.get j := by
  by_cases h : j = i
  · subst h; simp
  · simp [h]

@[simp] theorem PerChan.set_set {α : Type} (t : PerChan α) (i : Chan) (x y : α) : (t.set i x).set i y = t.set i y := by
  cases i <;> simp [PerChan.set]

@[simp] theorem PerChan.set_get {α : Type} (t : PerChan α) (i : Chan) : t.set i (t.get i) = t := by
  cases i <;> simp [PerChan.set, PerChan.get]

theorem PerChan.ext_get {α : Type} {t u : PerChan α} (h : ∀ i, t.get i = u.get i) : t = u := by
  cases t; cases u
  simp only [PerChan.mk.injEq]
  exact ⟨PerPort.ext_get (fun p => h (.port p)), h .internal⟩

@[simp] theorem PerVoice.get_set_self {α : Type} (t : PerVoice α) (i : VoiceId) (x : α) : (t.set i x).get i = x := by
  cases i <;> rfl

@[simp] theorem PerVoice.get_set_ne {α : Type} (t : PerVoice α) {i j : VoiceId} (x : α) (h : j ≠ i) :
    (t.set i x).get j = t.get j := by
  cases i <;> cases j <;> first | rfl | exact absurd rfl h

theorem PerVoice.get_set {α : Type} (t : PerVoice α) (i j : VoiceId) (x : α) :
    (t.set i x).get j = if j = i then x else t.get j := by
  by_cases h : j = i
  · subst h; simp
  · simp [h]

@[simp] theorem PerVoice.set_set {α : Type} (t : PerVoice α) (i : VoiceId) (x y : α) : (t.set i x).set i y = t.set i y := by
  cases i <;> simp [PerVoice.set]

@[simp] theorem PerVoice.set_get {α : Type} (t : PerVoice α) (i : VoiceId) : t.set i (t.get i) = t := by
  cases i <;> simp [PerVoice.set, PerVoice.get]

theorem PerVoice.ext_get {α : Type} {t u : PerVoice α} (h : ∀ i, t.get i = u.get i) : t = u := by
  cases t; cases u
  simp only [PerVoice.mk.injEq]
  exact ⟨h .v0, h .v1, h .v2, h .v3⟩

@[simp] theorem PerQueue.get_set_self {α : Type} (t : PerQueue α) (i : QueueId) (x : α) : (t.set i x).get i = x := by
  cases i <;> rfl

@[simp] theorem PerQueue.get_set_ne {α : Type} (t : PerQueue α) {i j : QueueId} (x : α) (h : j ≠ i) :
    (t.set i x).get j = t.get j := by
  cases i <;> cases j <;> first | rfl | exact absurd rfl h

theorem PerQueue.get_set {α : Type} (t : PerQueue α) (i j : QueueId) (x : α) :
    (t.set i x).get j = if j = i then x else t.get j := by
  by_cases h : j = i
  · subst h; simp
  · simp [h]

@[simp] theorem PerQueue.set_set {α : Type} (t : PerQueue α) (i : QueueId) (x y : α) : (t.set i x).set i y = t.set i y := by
  cases i <;> simp [PerQueue.set]

@[simp] theorem PerQueue.set_get {α : Type} (t : PerQueue α) (i : QueueId) : t.set i (t.get i) = t := by
  cases i <;> simp [PerQueue.set, PerQueue.get]

theorem PerQueue.ext_get {α : Type} {t u : PerQueue α} (h : ∀ i, t.get i = u.get i) : t = u := by
  cases t; cases u
  simp only [PerQueue.mk.injEq]
  exact ⟨h .q0, h .q1, h .q2, h .q3⟩

/-! ### `setLink` -/

@[simp] theorem State.setLink_pending (s : State) (l : Link) (u : LinkUnit) :
    (s.setLink l u).pending = s.pending := rfl
@[simp] theorem State.setLink_hub (s : State) (l : Link) (u : LinkUnit) :
    (s.setLink l u).hub = s.hub := rfl
@[simp] theorem State.setLink_pins (s : State) (l : Link) (u : LinkUnit) :
    (s.setLink l u).pins = s.pins := rfl
@[simp] theorem State.setLink_links (s : State) (l : Link) (u : LinkUnit) :
    (s.setLink l u).links = s.links.set l u := rfl
@[simp] theorem State.setLink_ports (s : State) (l : Link) (u : LinkUnit) :
    (s.setLink l u).ports = s.ports := rfl
@[simp] theorem State.setLink_holderI (s : State) (l : Link) (u : LinkUnit) :
    (s.setLink l u).holderI = s.holderI := rfl
@[simp] theorem State.setLink_motors (s : State) (l : Link) (u : LinkUnit) :
    (s.setLink l u).motors = s.motors := rfl
@[simp] theorem State.setLink_pairs (s : State) (l : Link) (u : LinkUnit) :
    (s.setLink l u).pairs = s.pairs := rfl
@[simp] theorem State.setLink_samples (s : State) (l : Link) (u : LinkUnit) :
    (s.setLink l u).samples = s.samples := rfl
@[simp] theorem State.setLink_views (s : State) (l : Link) (u : LinkUnit) :
    (s.setLink l u).views = s.views := rfl
@[simp] theorem State.setLink_sharedI (s : State) (l : Link) (u : LinkUnit) :
    (s.setLink l u).sharedI = s.sharedI := rfl
@[simp] theorem State.setLink_brick (s : State) (l : Link) (u : LinkUnit) :
    (s.setLink l u).brick = s.brick := rfl
@[simp] theorem State.setLink_brickSet (s : State) (l : Link) (u : LinkUnit) :
    (s.setLink l u).brickSet = s.brickSet := rfl
@[simp] theorem State.setLink_brickWork (s : State) (l : Link) (u : LinkUnit) :
    (s.setLink l u).brickWork = s.brickWork := rfl
@[simp] theorem State.setLink_subs (s : State) (l : Link) (u : LinkUnit) :
    (s.setLink l u).subs = s.subs := rfl
@[simp] theorem State.setLink_watches (s : State) (l : Link) (u : LinkUnit) :
    (s.setLink l u).watches = s.watches := rfl
@[simp] theorem State.setLink_scheds (s : State) (l : Link) (u : LinkUnit) :
    (s.setLink l u).scheds = s.scheds := rfl
@[simp] theorem State.setLink_sound (s : State) (l : Link) (u : LinkUnit) :
    (s.setLink l u).sound = s.sound := rfl
@[simp] theorem State.setLink_assets (s : State) (l : Link) (u : LinkUnit) :
    (s.setLink l u).assets = s.assets := rfl
@[simp] theorem State.setLink_media (s : State) (l : Link) (u : LinkUnit) :
    (s.setLink l u).media = s.media := rfl
@[simp] theorem State.setLink_supply (s : State) (l : Link) (u : LinkUnit) :
    (s.setLink l u).supply = s.supply := rfl
@[simp] theorem State.setLink_port (s : State) (l : Link) (u : LinkUnit) (k : Port) :
    (s.setLink l u).port k = s.port k := rfl
@[simp] theorem State.setLink_motor (s : State) (l : Link) (u : LinkUnit) (k : Port) :
    (s.setLink l u).motor k = s.motor k := rfl
@[simp] theorem State.setLink_pair (s : State) (l : Link) (u : LinkUnit) (k : Nat) :
    (s.setLink l u).pair k = s.pair k := rfl
@[simp] theorem State.setLink_sample (s : State) (l : Link) (u : LinkUnit) (k : Chan) :
    (s.setLink l u).sample k = s.sample k := rfl
@[simp] theorem State.setLink_view (s : State) (l : Link) (u : LinkUnit) (j : Link) (k : Chan) :
    (s.setLink l u).view j k = s.view j k := rfl
@[simp] theorem State.setLink_watch (s : State) (l : Link) (u : LinkUnit) (j : Link) (k : Nat) :
    (s.setLink l u).watch j k = s.watch j k := rfl
@[simp] theorem State.setLink_sched (s : State) (l : Link) (u : LinkUnit) (k : Link) :
    (s.setLink l u).sched k = s.sched k := rfl
@[simp] theorem State.setLink_voice (s : State) (l : Link) (u : LinkUnit) (k : VoiceId) :
    (s.setLink l u).voice k = s.voice k := rfl
@[simp] theorem State.setLink_entry (s : State) (l : Link) (u : LinkUnit) (k : Nat) :
    (s.setLink l u).entry k = s.entry k := rfl
@[simp] theorem State.setLink_block (s : State) (l : Link) (u : LinkUnit) (k : Nat) :
    (s.setLink l u).block k = s.block k := rfl
@[simp] theorem State.setLink_now (s : State) (l : Link) (u : LinkUnit) :
    (s.setLink l u).now = s.now := rfl

/-! ### `setPort` -/

@[simp] theorem State.setPort_pending (s : State) (p : Port) (r : PortRec) :
    (s.setPort p r).pending = s.pending := rfl
@[simp] theorem State.setPort_hub (s : State) (p : Port) (r : PortRec) :
    (s.setPort p r).hub = s.hub := rfl
@[simp] theorem State.setPort_pins (s : State) (p : Port) (r : PortRec) :
    (s.setPort p r).pins = s.pins := rfl
@[simp] theorem State.setPort_links (s : State) (p : Port) (r : PortRec) :
    (s.setPort p r).links = s.links := rfl
@[simp] theorem State.setPort_ports (s : State) (p : Port) (r : PortRec) :
    (s.setPort p r).ports = s.ports.set p r := rfl
@[simp] theorem State.setPort_holderI (s : State) (p : Port) (r : PortRec) :
    (s.setPort p r).holderI = s.holderI := rfl
@[simp] theorem State.setPort_motors (s : State) (p : Port) (r : PortRec) :
    (s.setPort p r).motors = s.motors := rfl
@[simp] theorem State.setPort_pairs (s : State) (p : Port) (r : PortRec) :
    (s.setPort p r).pairs = s.pairs := rfl
@[simp] theorem State.setPort_samples (s : State) (p : Port) (r : PortRec) :
    (s.setPort p r).samples = s.samples := rfl
@[simp] theorem State.setPort_views (s : State) (p : Port) (r : PortRec) :
    (s.setPort p r).views = s.views := rfl
@[simp] theorem State.setPort_sharedI (s : State) (p : Port) (r : PortRec) :
    (s.setPort p r).sharedI = s.sharedI := rfl
@[simp] theorem State.setPort_brick (s : State) (p : Port) (r : PortRec) :
    (s.setPort p r).brick = s.brick := rfl
@[simp] theorem State.setPort_brickSet (s : State) (p : Port) (r : PortRec) :
    (s.setPort p r).brickSet = s.brickSet := rfl
@[simp] theorem State.setPort_brickWork (s : State) (p : Port) (r : PortRec) :
    (s.setPort p r).brickWork = s.brickWork := rfl
@[simp] theorem State.setPort_subs (s : State) (p : Port) (r : PortRec) :
    (s.setPort p r).subs = s.subs := rfl
@[simp] theorem State.setPort_watches (s : State) (p : Port) (r : PortRec) :
    (s.setPort p r).watches = s.watches := rfl
@[simp] theorem State.setPort_scheds (s : State) (p : Port) (r : PortRec) :
    (s.setPort p r).scheds = s.scheds := rfl
@[simp] theorem State.setPort_sound (s : State) (p : Port) (r : PortRec) :
    (s.setPort p r).sound = s.sound := rfl
@[simp] theorem State.setPort_assets (s : State) (p : Port) (r : PortRec) :
    (s.setPort p r).assets = s.assets := rfl
@[simp] theorem State.setPort_media (s : State) (p : Port) (r : PortRec) :
    (s.setPort p r).media = s.media := rfl
@[simp] theorem State.setPort_supply (s : State) (p : Port) (r : PortRec) :
    (s.setPort p r).supply = s.supply := rfl
@[simp] theorem State.setPort_link (s : State) (p : Port) (r : PortRec) (k : Link) :
    (s.setPort p r).link k = s.link k := rfl
@[simp] theorem State.setPort_motor (s : State) (p : Port) (r : PortRec) (k : Port) :
    (s.setPort p r).motor k = s.motor k := rfl
@[simp] theorem State.setPort_pair (s : State) (p : Port) (r : PortRec) (k : Nat) :
    (s.setPort p r).pair k = s.pair k := rfl
@[simp] theorem State.setPort_sample (s : State) (p : Port) (r : PortRec) (k : Chan) :
    (s.setPort p r).sample k = s.sample k := rfl
@[simp] theorem State.setPort_view (s : State) (p : Port) (r : PortRec) (j : Link) (k : Chan) :
    (s.setPort p r).view j k = s.view j k := rfl
@[simp] theorem State.setPort_watch (s : State) (p : Port) (r : PortRec) (j : Link) (k : Nat) :
    (s.setPort p r).watch j k = s.watch j k := rfl
@[simp] theorem State.setPort_sched (s : State) (p : Port) (r : PortRec) (k : Link) :
    (s.setPort p r).sched k = s.sched k := rfl
@[simp] theorem State.setPort_voice (s : State) (p : Port) (r : PortRec) (k : VoiceId) :
    (s.setPort p r).voice k = s.voice k := rfl
@[simp] theorem State.setPort_entry (s : State) (p : Port) (r : PortRec) (k : Nat) :
    (s.setPort p r).entry k = s.entry k := rfl
@[simp] theorem State.setPort_block (s : State) (p : Port) (r : PortRec) (k : Nat) :
    (s.setPort p r).block k = s.block k := rfl
@[simp] theorem State.setPort_now (s : State) (p : Port) (r : PortRec) :
    (s.setPort p r).now = s.now := rfl

/-! ### `setMotor` -/

@[simp] theorem State.setMotor_pending (s : State) (p : Port) (m : Motor) :
    (s.setMotor p m).pending = s.pending := rfl
@[simp] theorem State.setMotor_hub (s : State) (p : Port) (m : Motor) :
    (s.setMotor p m).hub = s.hub := rfl
@[simp] theorem State.setMotor_pins (s : State) (p : Port) (m : Motor) :
    (s.setMotor p m).pins = s.pins := rfl
@[simp] theorem State.setMotor_links (s : State) (p : Port) (m : Motor) :
    (s.setMotor p m).links = s.links := rfl
@[simp] theorem State.setMotor_ports (s : State) (p : Port) (m : Motor) :
    (s.setMotor p m).ports = s.ports := rfl
@[simp] theorem State.setMotor_holderI (s : State) (p : Port) (m : Motor) :
    (s.setMotor p m).holderI = s.holderI := rfl
@[simp] theorem State.setMotor_motors (s : State) (p : Port) (m : Motor) :
    (s.setMotor p m).motors = s.motors.set p m := rfl
@[simp] theorem State.setMotor_pairs (s : State) (p : Port) (m : Motor) :
    (s.setMotor p m).pairs = s.pairs := rfl
@[simp] theorem State.setMotor_samples (s : State) (p : Port) (m : Motor) :
    (s.setMotor p m).samples = s.samples := rfl
@[simp] theorem State.setMotor_views (s : State) (p : Port) (m : Motor) :
    (s.setMotor p m).views = s.views := rfl
@[simp] theorem State.setMotor_sharedI (s : State) (p : Port) (m : Motor) :
    (s.setMotor p m).sharedI = s.sharedI := rfl
@[simp] theorem State.setMotor_brick (s : State) (p : Port) (m : Motor) :
    (s.setMotor p m).brick = s.brick := rfl
@[simp] theorem State.setMotor_brickSet (s : State) (p : Port) (m : Motor) :
    (s.setMotor p m).brickSet = s.brickSet := rfl
@[simp] theorem State.setMotor_brickWork (s : State) (p : Port) (m : Motor) :
    (s.setMotor p m).brickWork = s.brickWork := rfl
@[simp] theorem State.setMotor_subs (s : State) (p : Port) (m : Motor) :
    (s.setMotor p m).subs = s.subs := rfl
@[simp] theorem State.setMotor_watches (s : State) (p : Port) (m : Motor) :
    (s.setMotor p m).watches = s.watches := rfl
@[simp] theorem State.setMotor_scheds (s : State) (p : Port) (m : Motor) :
    (s.setMotor p m).scheds = s.scheds := rfl
@[simp] theorem State.setMotor_sound (s : State) (p : Port) (m : Motor) :
    (s.setMotor p m).sound = s.sound := rfl
@[simp] theorem State.setMotor_assets (s : State) (p : Port) (m : Motor) :
    (s.setMotor p m).assets = s.assets := rfl
@[simp] theorem State.setMotor_media (s : State) (p : Port) (m : Motor) :
    (s.setMotor p m).media = s.media := rfl
@[simp] theorem State.setMotor_supply (s : State) (p : Port) (m : Motor) :
    (s.setMotor p m).supply = s.supply := rfl
@[simp] theorem State.setMotor_link (s : State) (p : Port) (m : Motor) (k : Link) :
    (s.setMotor p m).link k = s.link k := rfl
@[simp] theorem State.setMotor_port (s : State) (p : Port) (m : Motor) (k : Port) :
    (s.setMotor p m).port k = s.port k := rfl
@[simp] theorem State.setMotor_pair (s : State) (p : Port) (m : Motor) (k : Nat) :
    (s.setMotor p m).pair k = s.pair k := rfl
@[simp] theorem State.setMotor_sample (s : State) (p : Port) (m : Motor) (k : Chan) :
    (s.setMotor p m).sample k = s.sample k := rfl
@[simp] theorem State.setMotor_view (s : State) (p : Port) (m : Motor) (j : Link) (k : Chan) :
    (s.setMotor p m).view j k = s.view j k := rfl
@[simp] theorem State.setMotor_watch (s : State) (p : Port) (m : Motor) (j : Link) (k : Nat) :
    (s.setMotor p m).watch j k = s.watch j k := rfl
@[simp] theorem State.setMotor_sched (s : State) (p : Port) (m : Motor) (k : Link) :
    (s.setMotor p m).sched k = s.sched k := rfl
@[simp] theorem State.setMotor_voice (s : State) (p : Port) (m : Motor) (k : VoiceId) :
    (s.setMotor p m).voice k = s.voice k := rfl
@[simp] theorem State.setMotor_entry (s : State) (p : Port) (m : Motor) (k : Nat) :
    (s.setMotor p m).entry k = s.entry k := rfl
@[simp] theorem State.setMotor_block (s : State) (p : Port) (m : Motor) (k : Nat) :
    (s.setMotor p m).block k = s.block k := rfl
@[simp] theorem State.setMotor_now (s : State) (p : Port) (m : Motor) :
    (s.setMotor p m).now = s.now := rfl

/-! ### `setPair` -/

@[simp] theorem State.setPair_pending (s : State) (n : Nat) (x : Option Pair) :
    (s.setPair n x).pending = s.pending := rfl
@[simp] theorem State.setPair_hub (s : State) (n : Nat) (x : Option Pair) :
    (s.setPair n x).hub = s.hub := rfl
@[simp] theorem State.setPair_pins (s : State) (n : Nat) (x : Option Pair) :
    (s.setPair n x).pins = s.pins := rfl
@[simp] theorem State.setPair_links (s : State) (n : Nat) (x : Option Pair) :
    (s.setPair n x).links = s.links := rfl
@[simp] theorem State.setPair_ports (s : State) (n : Nat) (x : Option Pair) :
    (s.setPair n x).ports = s.ports := rfl
@[simp] theorem State.setPair_holderI (s : State) (n : Nat) (x : Option Pair) :
    (s.setPair n x).holderI = s.holderI := rfl
@[simp] theorem State.setPair_motors (s : State) (n : Nat) (x : Option Pair) :
    (s.setPair n x).motors = s.motors := rfl
@[simp] theorem State.setPair_pairs (s : State) (n : Nat) (x : Option Pair) :
    (s.setPair n x).pairs = s.pairs.set none n x := rfl
@[simp] theorem State.setPair_samples (s : State) (n : Nat) (x : Option Pair) :
    (s.setPair n x).samples = s.samples := rfl
@[simp] theorem State.setPair_views (s : State) (n : Nat) (x : Option Pair) :
    (s.setPair n x).views = s.views := rfl
@[simp] theorem State.setPair_sharedI (s : State) (n : Nat) (x : Option Pair) :
    (s.setPair n x).sharedI = s.sharedI := rfl
@[simp] theorem State.setPair_brick (s : State) (n : Nat) (x : Option Pair) :
    (s.setPair n x).brick = s.brick := rfl
@[simp] theorem State.setPair_brickSet (s : State) (n : Nat) (x : Option Pair) :
    (s.setPair n x).brickSet = s.brickSet := rfl
@[simp] theorem State.setPair_brickWork (s : State) (n : Nat) (x : Option Pair) :
    (s.setPair n x).brickWork = s.brickWork := rfl
@[simp] theorem State.setPair_subs (s : State) (n : Nat) (x : Option Pair) :
    (s.setPair n x).subs = s.subs := rfl
@[simp] theorem State.setPair_watches (s : State) (n : Nat) (x : Option Pair) :
    (s.setPair n x).watches = s.watches := rfl
@[simp] theorem State.setPair_scheds (s : State) (n : Nat) (x : Option Pair) :
    (s.setPair n x).scheds = s.scheds := rfl
@[simp] theorem State.setPair_sound (s : State) (n : Nat) (x : Option Pair) :
    (s.setPair n x).sound = s.sound := rfl
@[simp] theorem State.setPair_assets (s : State) (n : Nat) (x : Option Pair) :
    (s.setPair n x).assets = s.assets := rfl
@[simp] theorem State.setPair_media (s : State) (n : Nat) (x : Option Pair) :
    (s.setPair n x).media = s.media := rfl
@[simp] theorem State.setPair_supply (s : State) (n : Nat) (x : Option Pair) :
    (s.setPair n x).supply = s.supply := rfl
@[simp] theorem State.setPair_link (s : State) (n : Nat) (x : Option Pair) (k : Link) :
    (s.setPair n x).link k = s.link k := rfl
@[simp] theorem State.setPair_port (s : State) (n : Nat) (x : Option Pair) (k : Port) :
    (s.setPair n x).port k = s.port k := rfl
@[simp] theorem State.setPair_motor (s : State) (n : Nat) (x : Option Pair) (k : Port) :
    (s.setPair n x).motor k = s.motor k := rfl
@[simp] theorem State.setPair_sample (s : State) (n : Nat) (x : Option Pair) (k : Chan) :
    (s.setPair n x).sample k = s.sample k := rfl
@[simp] theorem State.setPair_view (s : State) (n : Nat) (x : Option Pair) (j : Link) (k : Chan) :
    (s.setPair n x).view j k = s.view j k := rfl
@[simp] theorem State.setPair_watch (s : State) (n : Nat) (x : Option Pair) (j : Link) (k : Nat) :
    (s.setPair n x).watch j k = s.watch j k := rfl
@[simp] theorem State.setPair_sched (s : State) (n : Nat) (x : Option Pair) (k : Link) :
    (s.setPair n x).sched k = s.sched k := rfl
@[simp] theorem State.setPair_voice (s : State) (n : Nat) (x : Option Pair) (k : VoiceId) :
    (s.setPair n x).voice k = s.voice k := rfl
@[simp] theorem State.setPair_entry (s : State) (n : Nat) (x : Option Pair) (k : Nat) :
    (s.setPair n x).entry k = s.entry k := rfl
@[simp] theorem State.setPair_block (s : State) (n : Nat) (x : Option Pair) (k : Nat) :
    (s.setPair n x).block k = s.block k := rfl
@[simp] theorem State.setPair_now (s : State) (n : Nat) (x : Option Pair) :
    (s.setPair n x).now = s.now := rfl

/-! ### `setSample` -/

@[simp] theorem State.setSample_pending (s : State) (c : Chan) (x : Sample) :
    (s.setSample c x).pending = s.pending := rfl
@[simp] theorem State.setSample_hub (s : State) (c : Chan) (x : Sample) :
    (s.setSample c x).hub = s.hub := rfl
@[simp] theorem State.setSample_pins (s : State) (c : Chan) (x : Sample) :
    (s.setSample c x).pins = s.pins := rfl
@[simp] theorem State.setSample_links (s : State) (c : Chan) (x : Sample) :
    (s.setSample c x).links = s.links := rfl
@[simp] theorem State.setSample_ports (s : State) (c : Chan) (x : Sample) :
    (s.setSample c x).ports = s.ports := rfl
@[simp] theorem State.setSample_holderI (s : State) (c : Chan) (x : Sample) :
    (s.setSample c x).holderI = s.holderI := rfl
@[simp] theorem State.setSample_motors (s : State) (c : Chan) (x : Sample) :
    (s.setSample c x).motors = s.motors := rfl
@[simp] theorem State.setSample_pairs (s : State) (c : Chan) (x : Sample) :
    (s.setSample c x).pairs = s.pairs := rfl
@[simp] theorem State.setSample_samples (s : State) (c : Chan) (x : Sample) :
    (s.setSample c x).samples = s.samples.set c x := rfl
@[simp] theorem State.setSample_views (s : State) (c : Chan) (x : Sample) :
    (s.setSample c x).views = s.views := rfl
@[simp] theorem State.setSample_sharedI (s : State) (c : Chan) (x : Sample) :
    (s.setSample c x).sharedI = s.sharedI := rfl
@[simp] theorem State.setSample_brick (s : State) (c : Chan) (x : Sample) :
    (s.setSample c x).brick = s.brick := rfl
@[simp] theorem State.setSample_brickSet (s : State) (c : Chan) (x : Sample) :
    (s.setSample c x).brickSet = s.brickSet := rfl
@[simp] theorem State.setSample_brickWork (s : State) (c : Chan) (x : Sample) :
    (s.setSample c x).brickWork = s.brickWork := rfl
@[simp] theorem State.setSample_subs (s : State) (c : Chan) (x : Sample) :
    (s.setSample c x).subs = s.subs := rfl
@[simp] theorem State.setSample_watches (s : State) (c : Chan) (x : Sample) :
    (s.setSample c x).watches = s.watches := rfl
@[simp] theorem State.setSample_scheds (s : State) (c : Chan) (x : Sample) :
    (s.setSample c x).scheds = s.scheds := rfl
@[simp] theorem State.setSample_sound (s : State) (c : Chan) (x : Sample) :
    (s.setSample c x).sound = s.sound := rfl
@[simp] theorem State.setSample_assets (s : State) (c : Chan) (x : Sample) :
    (s.setSample c x).assets = s.assets := rfl
@[simp] theorem State.setSample_media (s : State) (c : Chan) (x : Sample) :
    (s.setSample c x).media = s.media := rfl
@[simp] theorem State.setSample_supply (s : State) (c : Chan) (x : Sample) :
    (s.setSample c x).supply = s.supply := rfl
@[simp] theorem State.setSample_link (s : State) (c : Chan) (x : Sample) (k : Link) :
    (s.setSample c x).link k = s.link k := rfl
@[simp] theorem State.setSample_port (s : State) (c : Chan) (x : Sample) (k : Port) :
    (s.setSample c x).port k = s.port k := rfl
@[simp] theorem State.setSample_motor (s : State) (c : Chan) (x : Sample) (k : Port) :
    (s.setSample c x).motor k = s.motor k := rfl
@[simp] theorem State.setSample_pair (s : State) (c : Chan) (x : Sample) (k : Nat) :
    (s.setSample c x).pair k = s.pair k := rfl
@[simp] theorem State.setSample_view (s : State) (c : Chan) (x : Sample) (j : Link) (k : Chan) :
    (s.setSample c x).view j k = s.view j k := rfl
@[simp] theorem State.setSample_watch (s : State) (c : Chan) (x : Sample) (j : Link) (k : Nat) :
    (s.setSample c x).watch j k = s.watch j k := rfl
@[simp] theorem State.setSample_sched (s : State) (c : Chan) (x : Sample) (k : Link) :
    (s.setSample c x).sched k = s.sched k := rfl
@[simp] theorem State.setSample_voice (s : State) (c : Chan) (x : Sample) (k : VoiceId) :
    (s.setSample c x).voice k = s.voice k := rfl
@[simp] theorem State.setSample_entry (s : State) (c : Chan) (x : Sample) (k : Nat) :
    (s.setSample c x).entry k = s.entry k := rfl
@[simp] theorem State.setSample_block (s : State) (c : Chan) (x : Sample) (k : Nat) :
    (s.setSample c x).block k = s.block k := rfl
@[simp] theorem State.setSample_now (s : State) (c : Chan) (x : Sample) :
    (s.setSample c x).now = s.now := rfl

/-! ### `setView` -/

@[simp] theorem State.setView_pending (s : State) (l : Link) (c : Chan) (v : View) :
    (s.setView l c v).pending = s.pending := rfl
@[simp] theorem State.setView_hub (s : State) (l : Link) (c : Chan) (v : View) :
    (s.setView l c v).hub = s.hub := rfl
@[simp] theorem State.setView_pins (s : State) (l : Link) (c : Chan) (v : View) :
    (s.setView l c v).pins = s.pins := rfl
@[simp] theorem State.setView_links (s : State) (l : Link) (c : Chan) (v : View) :
    (s.setView l c v).links = s.links := rfl
@[simp] theorem State.setView_ports (s : State) (l : Link) (c : Chan) (v : View) :
    (s.setView l c v).ports = s.ports := rfl
@[simp] theorem State.setView_holderI (s : State) (l : Link) (c : Chan) (v : View) :
    (s.setView l c v).holderI = s.holderI := rfl
@[simp] theorem State.setView_motors (s : State) (l : Link) (c : Chan) (v : View) :
    (s.setView l c v).motors = s.motors := rfl
@[simp] theorem State.setView_pairs (s : State) (l : Link) (c : Chan) (v : View) :
    (s.setView l c v).pairs = s.pairs := rfl
@[simp] theorem State.setView_samples (s : State) (l : Link) (c : Chan) (v : View) :
    (s.setView l c v).samples = s.samples := rfl
@[simp] theorem State.setView_views (s : State) (l : Link) (c : Chan) (v : View) :
    (s.setView l c v).views = s.views.set l ((s.views.get l).set c v) := rfl
@[simp] theorem State.setView_sharedI (s : State) (l : Link) (c : Chan) (v : View) :
    (s.setView l c v).sharedI = s.sharedI := rfl
@[simp] theorem State.setView_brick (s : State) (l : Link) (c : Chan) (v : View) :
    (s.setView l c v).brick = s.brick := rfl
@[simp] theorem State.setView_brickSet (s : State) (l : Link) (c : Chan) (v : View) :
    (s.setView l c v).brickSet = s.brickSet := rfl
@[simp] theorem State.setView_brickWork (s : State) (l : Link) (c : Chan) (v : View) :
    (s.setView l c v).brickWork = s.brickWork := rfl
@[simp] theorem State.setView_subs (s : State) (l : Link) (c : Chan) (v : View) :
    (s.setView l c v).subs = s.subs := rfl
@[simp] theorem State.setView_watches (s : State) (l : Link) (c : Chan) (v : View) :
    (s.setView l c v).watches = s.watches := rfl
@[simp] theorem State.setView_scheds (s : State) (l : Link) (c : Chan) (v : View) :
    (s.setView l c v).scheds = s.scheds := rfl
@[simp] theorem State.setView_sound (s : State) (l : Link) (c : Chan) (v : View) :
    (s.setView l c v).sound = s.sound := rfl
@[simp] theorem State.setView_assets (s : State) (l : Link) (c : Chan) (v : View) :
    (s.setView l c v).assets = s.assets := rfl
@[simp] theorem State.setView_media (s : State) (l : Link) (c : Chan) (v : View) :
    (s.setView l c v).media = s.media := rfl
@[simp] theorem State.setView_supply (s : State) (l : Link) (c : Chan) (v : View) :
    (s.setView l c v).supply = s.supply := rfl
@[simp] theorem State.setView_link (s : State) (l : Link) (c : Chan) (v : View) (k : Link) :
    (s.setView l c v).link k = s.link k := rfl
@[simp] theorem State.setView_port (s : State) (l : Link) (c : Chan) (v : View) (k : Port) :
    (s.setView l c v).port k = s.port k := rfl
@[simp] theorem State.setView_motor (s : State) (l : Link) (c : Chan) (v : View) (k : Port) :
    (s.setView l c v).motor k = s.motor k := rfl
@[simp] theorem State.setView_pair (s : State) (l : Link) (c : Chan) (v : View) (k : Nat) :
    (s.setView l c v).pair k = s.pair k := rfl
@[simp] theorem State.setView_sample (s : State) (l : Link) (c : Chan) (v : View) (k : Chan) :
    (s.setView l c v).sample k = s.sample k := rfl
@[simp] theorem State.setView_watch (s : State) (l : Link) (c : Chan) (v : View) (j : Link) (k : Nat) :
    (s.setView l c v).watch j k = s.watch j k := rfl
@[simp] theorem State.setView_sched (s : State) (l : Link) (c : Chan) (v : View) (k : Link) :
    (s.setView l c v).sched k = s.sched k := rfl
@[simp] theorem State.setView_voice (s : State) (l : Link) (c : Chan) (v : View) (k : VoiceId) :
    (s.setView l c v).voice k = s.voice k := rfl
@[simp] theorem State.setView_entry (s : State) (l : Link) (c : Chan) (v : View) (k : Nat) :
    (s.setView l c v).entry k = s.entry k := rfl
@[simp] theorem State.setView_block (s : State) (l : Link) (c : Chan) (v : View) (k : Nat) :
    (s.setView l c v).block k = s.block k := rfl
@[simp] theorem State.setView_now (s : State) (l : Link) (c : Chan) (v : View) :
    (s.setView l c v).now = s.now := rfl

/-! ### `setWatch` -/

@[simp] theorem State.setWatch_pending (s : State) (l : Link) (n : Nat) (w : Option Watch) :
    (s.setWatch l n w).pending = s.pending := rfl
@[simp] theorem State.setWatch_hub (s : State) (l : Link) (n : Nat) (w : Option Watch) :
    (s.setWatch l n w).hub = s.hub := rfl
@[simp] theorem State.setWatch_pins (s : State) (l : Link) (n : Nat) (w : Option Watch) :
    (s.setWatch l n w).pins = s.pins := rfl
@[simp] theorem State.setWatch_links (s : State) (l : Link) (n : Nat) (w : Option Watch) :
    (s.setWatch l n w).links = s.links := rfl
@[simp] theorem State.setWatch_ports (s : State) (l : Link) (n : Nat) (w : Option Watch) :
    (s.setWatch l n w).ports = s.ports := rfl
@[simp] theorem State.setWatch_holderI (s : State) (l : Link) (n : Nat) (w : Option Watch) :
    (s.setWatch l n w).holderI = s.holderI := rfl
@[simp] theorem State.setWatch_motors (s : State) (l : Link) (n : Nat) (w : Option Watch) :
    (s.setWatch l n w).motors = s.motors := rfl
@[simp] theorem State.setWatch_pairs (s : State) (l : Link) (n : Nat) (w : Option Watch) :
    (s.setWatch l n w).pairs = s.pairs := rfl
@[simp] theorem State.setWatch_samples (s : State) (l : Link) (n : Nat) (w : Option Watch) :
    (s.setWatch l n w).samples = s.samples := rfl
@[simp] theorem State.setWatch_views (s : State) (l : Link) (n : Nat) (w : Option Watch) :
    (s.setWatch l n w).views = s.views := rfl
@[simp] theorem State.setWatch_sharedI (s : State) (l : Link) (n : Nat) (w : Option Watch) :
    (s.setWatch l n w).sharedI = s.sharedI := rfl
@[simp] theorem State.setWatch_brick (s : State) (l : Link) (n : Nat) (w : Option Watch) :
    (s.setWatch l n w).brick = s.brick := rfl
@[simp] theorem State.setWatch_brickSet (s : State) (l : Link) (n : Nat) (w : Option Watch) :
    (s.setWatch l n w).brickSet = s.brickSet := rfl
@[simp] theorem State.setWatch_brickWork (s : State) (l : Link) (n : Nat) (w : Option Watch) :
    (s.setWatch l n w).brickWork = s.brickWork := rfl
@[simp] theorem State.setWatch_subs (s : State) (l : Link) (n : Nat) (w : Option Watch) :
    (s.setWatch l n w).subs = s.subs := rfl
@[simp] theorem State.setWatch_watches (s : State) (l : Link) (n : Nat) (w : Option Watch) :
    (s.setWatch l n w).watches = s.watches.set l ((s.watches.get l).set none n w) := rfl
@[simp] theorem State.setWatch_scheds (s : State) (l : Link) (n : Nat) (w : Option Watch) :
    (s.setWatch l n w).scheds = s.scheds := rfl
@[simp] theorem State.setWatch_sound (s : State) (l : Link) (n : Nat) (w : Option Watch) :
    (s.setWatch l n w).sound = s.sound := rfl
@[simp] theorem State.setWatch_assets (s : State) (l : Link) (n : Nat) (w : Option Watch) :
    (s.setWatch l n w).assets = s.assets := rfl
@[simp] theorem State.setWatch_media (s : State) (l : Link) (n : Nat) (w : Option Watch) :
    (s.setWatch l n w).media = s.media := rfl
@[simp] theorem State.setWatch_supply (s : State) (l : Link) (n : Nat) (w : Option Watch) :
    (s.setWatch l n w).supply = s.supply := rfl
@[simp] theorem State.setWatch_link (s : State) (l : Link) (n : Nat) (w : Option Watch) (k : Link) :
    (s.setWatch l n w).link k = s.link k := rfl
@[simp] theorem State.setWatch_port (s : State) (l : Link) (n : Nat) (w : Option Watch) (k : Port) :
    (s.setWatch l n w).port k = s.port k := rfl
@[simp] theorem State.setWatch_motor (s : State) (l : Link) (n : Nat) (w : Option Watch) (k : Port) :
    (s.setWatch l n w).motor k = s.motor k := rfl
@[simp] theorem State.setWatch_pair (s : State) (l : Link) (n : Nat) (w : Option Watch) (k : Nat) :
    (s.setWatch l n w).pair k = s.pair k := rfl
@[simp] theorem State.setWatch_sample (s : State) (l : Link) (n : Nat) (w : Option Watch) (k : Chan) :
    (s.setWatch l n w).sample k = s.sample k := rfl
@[simp] theorem State.setWatch_view (s : State) (l : Link) (n : Nat) (w : Option Watch) (j : Link) (k : Chan) :
    (s.setWatch l n w).view j k = s.view j k := rfl
@[simp] theorem State.setWatch_sched (s : State) (l : Link) (n : Nat) (w : Option Watch) (k : Link) :
    (s.setWatch l n w).sched k = s.sched k := rfl
@[simp] theorem State.setWatch_voice (s : State) (l : Link) (n : Nat) (w : Option Watch) (k : VoiceId) :
    (s.setWatch l n w).voice k = s.voice k := rfl
@[simp] theorem State.setWatch_entry (s : State) (l : Link) (n : Nat) (w : Option Watch) (k : Nat) :
    (s.setWatch l n w).entry k = s.entry k := rfl
@[simp] theorem State.setWatch_block (s : State) (l : Link) (n : Nat) (w : Option Watch) (k : Nat) :
    (s.setWatch l n w).block k = s.block k := rfl
@[simp] theorem State.setWatch_now (s : State) (l : Link) (n : Nat) (w : Option Watch) :
    (s.setWatch l n w).now = s.now := rfl

/-! ### `setSched` -/

@[simp] theorem State.setSched_pending (s : State) (l : Link) (x : Scheduler) :
    (s.setSched l x).pending = s.pending := rfl
@[simp] theorem State.setSched_hub (s : State) (l : Link) (x : Scheduler) :
    (s.setSched l x).hub = s.hub := rfl
@[simp] theorem State.setSched_pins (s : State) (l : Link) (x : Scheduler) :
    (s.setSched l x).pins = s.pins := rfl
@[simp] theorem State.setSched_links (s : State) (l : Link) (x : Scheduler) :
    (s.setSched l x).links = s.links := rfl
@[simp] theorem State.setSched_ports (s : State) (l : Link) (x : Scheduler) :
    (s.setSched l x).ports = s.ports := rfl
@[simp] theorem State.setSched_holderI (s : State) (l : Link) (x : Scheduler) :
    (s.setSched l x).holderI = s.holderI := rfl
@[simp] theorem State.setSched_motors (s : State) (l : Link) (x : Scheduler) :
    (s.setSched l x).motors = s.motors := rfl
@[simp] theorem State.setSched_pairs (s : State) (l : Link) (x : Scheduler) :
    (s.setSched l x).pairs = s.pairs := rfl
@[simp] theorem State.setSched_samples (s : State) (l : Link) (x : Scheduler) :
    (s.setSched l x).samples = s.samples := rfl
@[simp] theorem State.setSched_views (s : State) (l : Link) (x : Scheduler) :
    (s.setSched l x).views = s.views := rfl
@[simp] theorem State.setSched_sharedI (s : State) (l : Link) (x : Scheduler) :
    (s.setSched l x).sharedI = s.sharedI := rfl
@[simp] theorem State.setSched_brick (s : State) (l : Link) (x : Scheduler) :
    (s.setSched l x).brick = s.brick := rfl
@[simp] theorem State.setSched_brickSet (s : State) (l : Link) (x : Scheduler) :
    (s.setSched l x).brickSet = s.brickSet := rfl
@[simp] theorem State.setSched_brickWork (s : State) (l : Link) (x : Scheduler) :
    (s.setSched l x).brickWork = s.brickWork := rfl
@[simp] theorem State.setSched_subs (s : State) (l : Link) (x : Scheduler) :
    (s.setSched l x).subs = s.subs := rfl
@[simp] theorem State.setSched_watches (s : State) (l : Link) (x : Scheduler) :
    (s.setSched l x).watches = s.watches := rfl
@[simp] theorem State.setSched_scheds (s : State) (l : Link) (x : Scheduler) :
    (s.setSched l x).scheds = s.scheds.set l x := rfl
@[simp] theorem State.setSched_sound (s : State) (l : Link) (x : Scheduler) :
    (s.setSched l x).sound = s.sound := rfl
@[simp] theorem State.setSched_assets (s : State) (l : Link) (x : Scheduler) :
    (s.setSched l x).assets = s.assets := rfl
@[simp] theorem State.setSched_media (s : State) (l : Link) (x : Scheduler) :
    (s.setSched l x).media = s.media := rfl
@[simp] theorem State.setSched_supply (s : State) (l : Link) (x : Scheduler) :
    (s.setSched l x).supply = s.supply := rfl
@[simp] theorem State.setSched_link (s : State) (l : Link) (x : Scheduler) (k : Link) :
    (s.setSched l x).link k = s.link k := rfl
@[simp] theorem State.setSched_port (s : State) (l : Link) (x : Scheduler) (k : Port) :
    (s.setSched l x).port k = s.port k := rfl
@[simp] theorem State.setSched_motor (s : State) (l : Link) (x : Scheduler) (k : Port) :
    (s.setSched l x).motor k = s.motor k := rfl
@[simp] theorem State.setSched_pair (s : State) (l : Link) (x : Scheduler) (k : Nat) :
    (s.setSched l x).pair k = s.pair k := rfl
@[simp] theorem State.setSched_sample (s : State) (l : Link) (x : Scheduler) (k : Chan) :
    (s.setSched l x).sample k = s.sample k := rfl
@[simp] theorem State.setSched_view (s : State) (l : Link) (x : Scheduler) (j : Link) (k : Chan) :
    (s.setSched l x).view j k = s.view j k := rfl
@[simp] theorem State.setSched_watch (s : State) (l : Link) (x : Scheduler) (j : Link) (k : Nat) :
    (s.setSched l x).watch j k = s.watch j k := rfl
@[simp] theorem State.setSched_voice (s : State) (l : Link) (x : Scheduler) (k : VoiceId) :
    (s.setSched l x).voice k = s.voice k := rfl
@[simp] theorem State.setSched_entry (s : State) (l : Link) (x : Scheduler) (k : Nat) :
    (s.setSched l x).entry k = s.entry k := rfl
@[simp] theorem State.setSched_block (s : State) (l : Link) (x : Scheduler) (k : Nat) :
    (s.setSched l x).block k = s.block k := rfl
@[simp] theorem State.setSched_now (s : State) (l : Link) (x : Scheduler) :
    (s.setSched l x).now = s.now := rfl

/-! ### `setSound` -/

@[simp] theorem State.setSound_pending (s : State) (u : SoundUnit) :
    (s.setSound u).pending = s.pending := rfl
@[simp] theorem State.setSound_hub (s : State) (u : SoundUnit) :
    (s.setSound u).hub = s.hub := rfl
@[simp] theorem State.setSound_pins (s : State) (u : SoundUnit) :
    (s.setSound u).pins = s.pins := rfl
@[simp] theorem State.setSound_links (s : State) (u : SoundUnit) :
    (s.setSound u).links = s.links := rfl
@[simp] theorem State.setSound_ports (s : State) (u : SoundUnit) :
    (s.setSound u).ports = s.ports := rfl
@[simp] theorem State.setSound_holderI (s : State) (u : SoundUnit) :
    (s.setSound u).holderI = s.holderI := rfl
@[simp] theorem State.setSound_motors (s : State) (u : SoundUnit) :
    (s.setSound u).motors = s.motors := rfl
@[simp] theorem State.setSound_pairs (s : State) (u : SoundUnit) :
    (s.setSound u).pairs = s.pairs := rfl
@[simp] theorem State.setSound_samples (s : State) (u : SoundUnit) :
    (s.setSound u).samples = s.samples := rfl
@[simp] theorem State.setSound_views (s : State) (u : SoundUnit) :
    (s.setSound u).views = s.views := rfl
@[simp] theorem State.setSound_sharedI (s : State) (u : SoundUnit) :
    (s.setSound u).sharedI = s.sharedI := rfl
@[simp] theorem State.setSound_brick (s : State) (u : SoundUnit) :
    (s.setSound u).brick = s.brick := rfl
@[simp] theorem State.setSound_brickSet (s : State) (u : SoundUnit) :
    (s.setSound u).brickSet = s.brickSet := rfl
@[simp] theorem State.setSound_brickWork (s : State) (u : SoundUnit) :
    (s.setSound u).brickWork = s.brickWork := rfl
@[simp] theorem State.setSound_subs (s : State) (u : SoundUnit) :
    (s.setSound u).subs = s.subs := rfl
@[simp] theorem State.setSound_watches (s : State) (u : SoundUnit) :
    (s.setSound u).watches = s.watches := rfl
@[simp] theorem State.setSound_scheds (s : State) (u : SoundUnit) :
    (s.setSound u).scheds = s.scheds := rfl
@[simp] theorem State.setSound_sound (s : State) (u : SoundUnit) :
    (s.setSound u).sound = u := rfl
@[simp] theorem State.setSound_assets (s : State) (u : SoundUnit) :
    (s.setSound u).assets = s.assets := rfl
@[simp] theorem State.setSound_media (s : State) (u : SoundUnit) :
    (s.setSound u).media = s.media := rfl
@[simp] theorem State.setSound_supply (s : State) (u : SoundUnit) :
    (s.setSound u).supply = s.supply := rfl
@[simp] theorem State.setSound_link (s : State) (u : SoundUnit) (k : Link) :
    (s.setSound u).link k = s.link k := rfl
@[simp] theorem State.setSound_port (s : State) (u : SoundUnit) (k : Port) :
    (s.setSound u).port k = s.port k := rfl
@[simp] theorem State.setSound_motor (s : State) (u : SoundUnit) (k : Port) :
    (s.setSound u).motor k = s.motor k := rfl
@[simp] theorem State.setSound_pair (s : State) (u : SoundUnit) (k : Nat) :
    (s.setSound u).pair k = s.pair k := rfl
@[simp] theorem State.setSound_sample (s : State) (u : SoundUnit) (k : Chan) :
    (s.setSound u).sample k = s.sample k := rfl
@[simp] theorem State.setSound_view (s : State) (u : SoundUnit) (j : Link) (k : Chan) :
    (s.setSound u).view j k = s.view j k := rfl
@[simp] theorem State.setSound_watch (s : State) (u : SoundUnit) (j : Link) (k : Nat) :
    (s.setSound u).watch j k = s.watch j k := rfl
@[simp] theorem State.setSound_sched (s : State) (u : SoundUnit) (k : Link) :
    (s.setSound u).sched k = s.sched k := rfl
@[simp] theorem State.setSound_entry (s : State) (u : SoundUnit) (k : Nat) :
    (s.setSound u).entry k = s.entry k := rfl
@[simp] theorem State.setSound_block (s : State) (u : SoundUnit) (k : Nat) :
    (s.setSound u).block k = s.block k := rfl
@[simp] theorem State.setSound_now (s : State) (u : SoundUnit) :
    (s.setSound u).now = s.now := rfl

/-! ### `setVoice` -/

@[simp] theorem State.setVoice_pending (s : State) (v : VoiceId) (x : Option Voice) :
    (s.setVoice v x).pending = s.pending := rfl
@[simp] theorem State.setVoice_hub (s : State) (v : VoiceId) (x : Option Voice) :
    (s.setVoice v x).hub = s.hub := rfl
@[simp] theorem State.setVoice_pins (s : State) (v : VoiceId) (x : Option Voice) :
    (s.setVoice v x).pins = s.pins := rfl
@[simp] theorem State.setVoice_links (s : State) (v : VoiceId) (x : Option Voice) :
    (s.setVoice v x).links = s.links := rfl
@[simp] theorem State.setVoice_ports (s : State) (v : VoiceId) (x : Option Voice) :
    (s.setVoice v x).ports = s.ports := rfl
@[simp] theorem State.setVoice_holderI (s : State) (v : VoiceId) (x : Option Voice) :
    (s.setVoice v x).holderI = s.holderI := rfl
@[simp] theorem State.setVoice_motors (s : State) (v : VoiceId) (x : Option Voice) :
    (s.setVoice v x).motors = s.motors := rfl
@[simp] theorem State.setVoice_pairs (s : State) (v : VoiceId) (x : Option Voice) :
    (s.setVoice v x).pairs = s.pairs := rfl
@[simp] theorem State.setVoice_samples (s : State) (v : VoiceId) (x : Option Voice) :
    (s.setVoice v x).samples = s.samples := rfl
@[simp] theorem State.setVoice_views (s : State) (v : VoiceId) (x : Option Voice) :
    (s.setVoice v x).views = s.views := rfl
@[simp] theorem State.setVoice_sharedI (s : State) (v : VoiceId) (x : Option Voice) :
    (s.setVoice v x).sharedI = s.sharedI := rfl
@[simp] theorem State.setVoice_brick (s : State) (v : VoiceId) (x : Option Voice) :
    (s.setVoice v x).brick = s.brick := rfl
@[simp] theorem State.setVoice_brickSet (s : State) (v : VoiceId) (x : Option Voice) :
    (s.setVoice v x).brickSet = s.brickSet := rfl
@[simp] theorem State.setVoice_brickWork (s : State) (v : VoiceId) (x : Option Voice) :
    (s.setVoice v x).brickWork = s.brickWork := rfl
@[simp] theorem State.setVoice_subs (s : State) (v : VoiceId) (x : Option Voice) :
    (s.setVoice v x).subs = s.subs := rfl
@[simp] theorem State.setVoice_watches (s : State) (v : VoiceId) (x : Option Voice) :
    (s.setVoice v x).watches = s.watches := rfl
@[simp] theorem State.setVoice_scheds (s : State) (v : VoiceId) (x : Option Voice) :
    (s.setVoice v x).scheds = s.scheds := rfl
@[simp] theorem State.setVoice_sound (s : State) (v : VoiceId) (x : Option Voice) :
    (s.setVoice v x).sound = { s.sound with voices := s.sound.voices.set v x } := rfl
@[simp] theorem State.setVoice_assets (s : State) (v : VoiceId) (x : Option Voice) :
    (s.setVoice v x).assets = s.assets := rfl
@[simp] theorem State.setVoice_media (s : State) (v : VoiceId) (x : Option Voice) :
    (s.setVoice v x).media = s.media := rfl
@[simp] theorem State.setVoice_supply (s : State) (v : VoiceId) (x : Option Voice) :
    (s.setVoice v x).supply = s.supply := rfl
@[simp] theorem State.setVoice_link (s : State) (v : VoiceId) (x : Option Voice) (k : Link) :
    (s.setVoice v x).link k = s.link k := rfl
@[simp] theorem State.setVoice_port (s : State) (v : VoiceId) (x : Option Voice) (k : Port) :
    (s.setVoice v x).port k = s.port k := rfl
@[simp] theorem State.setVoice_motor (s : State) (v : VoiceId) (x : Option Voice) (k : Port) :
    (s.setVoice v x).motor k = s.motor k := rfl
@[simp] theorem State.setVoice_pair (s : State) (v : VoiceId) (x : Option Voice) (k : Nat) :
    (s.setVoice v x).pair k = s.pair k := rfl
@[simp] theorem State.setVoice_sample (s : State) (v : VoiceId) (x : Option Voice) (k : Chan) :
    (s.setVoice v x).sample k = s.sample k := rfl
@[simp] theorem State.setVoice_view (s : State) (v : VoiceId) (x : Option Voice) (j : Link) (k : Chan) :
    (s.setVoice v x).view j k = s.view j k := rfl
@[simp] theorem State.setVoice_watch (s : State) (v : VoiceId) (x : Option Voice) (j : Link) (k : Nat) :
    (s.setVoice v x).watch j k = s.watch j k := rfl
@[simp] theorem State.setVoice_sched (s : State) (v : VoiceId) (x : Option Voice) (k : Link) :
    (s.setVoice v x).sched k = s.sched k := rfl
@[simp] theorem State.setVoice_entry (s : State) (v : VoiceId) (x : Option Voice) (k : Nat) :
    (s.setVoice v x).entry k = s.entry k := rfl
@[simp] theorem State.setVoice_block (s : State) (v : VoiceId) (x : Option Voice) (k : Nat) :
    (s.setVoice v x).block k = s.block k := rfl
@[simp] theorem State.setVoice_now (s : State) (v : VoiceId) (x : Option Voice) :
    (s.setVoice v x).now = s.now := rfl

/-! ### `setAssets` -/

@[simp] theorem State.setAssets_pending (s : State) (a : AssetMap) :
    (s.setAssets a).pending = s.pending := rfl
@[simp] theorem State.setAssets_hub (s : State) (a : AssetMap) :
    (s.setAssets a).hub = s.hub := rfl
@[simp] theorem State.setAssets_pins (s : State) (a : AssetMap) :
    (s.setAssets a).pins = s.pins := rfl
@[simp] theorem State.setAssets_links (s : State) (a : AssetMap) :
    (s.setAssets a).links = s.links := rfl
@[simp] theorem State.setAssets_ports (s : State) (a : AssetMap) :
    (s.setAssets a).ports = s.ports := rfl
@[simp] theorem State.setAssets_holderI (s : State) (a : AssetMap) :
    (s.setAssets a).holderI = s.holderI := rfl
@[simp] theorem State.setAssets_motors (s : State) (a : AssetMap) :
    (s.setAssets a).motors = s.motors := rfl
@[simp] theorem State.setAssets_pairs (s : State) (a : AssetMap) :
    (s.setAssets a).pairs = s.pairs := rfl
@[simp] theorem State.setAssets_samples (s : State) (a : AssetMap) :
    (s.setAssets a).samples = s.samples := rfl
@[simp] theorem State.setAssets_views (s : State) (a : AssetMap) :
    (s.setAssets a).views = s.views := rfl
@[simp] theorem State.setAssets_sharedI (s : State) (a : AssetMap) :
    (s.setAssets a).sharedI = s.sharedI := rfl
@[simp] theorem State.setAssets_brick (s : State) (a : AssetMap) :
    (s.setAssets a).brick = s.brick := rfl
@[simp] theorem State.setAssets_brickSet (s : State) (a : AssetMap) :
    (s.setAssets a).brickSet = s.brickSet := rfl
@[simp] theorem State.setAssets_brickWork (s : State) (a : AssetMap) :
    (s.setAssets a).brickWork = s.brickWork := rfl
@[simp] theorem State.setAssets_subs (s : State) (a : AssetMap) :
    (s.setAssets a).subs = s.subs := rfl
@[simp] theorem State.setAssets_watches (s : State) (a : AssetMap) :
    (s.setAssets a).watches = s.watches := rfl
@[simp] theorem State.setAssets_scheds (s : State) (a : AssetMap) :
    (s.setAssets a).scheds = s.scheds := rfl
@[simp] theorem State.setAssets_sound (s : State) (a : AssetMap) :
    (s.setAssets a).sound = s.sound := rfl
@[simp] theorem State.setAssets_assets (s : State) (a : AssetMap) :
    (s.setAssets a).assets = a := rfl
@[simp] theorem State.setAssets_media (s : State) (a : AssetMap) :
    (s.setAssets a).media = s.media := rfl
@[simp] theorem State.setAssets_supply (s : State) (a : AssetMap) :
    (s.setAssets a).supply = s.supply := rfl
@[simp] theorem State.setAssets_link (s : State) (a : AssetMap) (k : Link) :
    (s.setAssets a).link k = s.link k := rfl
@[simp] theorem State.setAssets_port (s : State) (a : AssetMap) (k : Port) :
    (s.setAssets a).port k = s.port k := rfl
@[simp] theorem State.setAssets_motor (s : State) (a : AssetMap) (k : Port) :
    (s.setAssets a).motor k = s.motor k := rfl
@[simp] theorem State.setAssets_pair (s : State) (a : AssetMap) (k : Nat) :
    (s.setAssets a).pair k = s.pair k := rfl
@[simp] theorem State.setAssets_sample (s : State) (a : AssetMap) (k : Chan) :
    (s.setAssets a).sample k = s.sample k := rfl
@[simp] theorem State.setAssets_view (s : State) (a : AssetMap) (j : Link) (k : Chan) :
    (s.setAssets a).view j k = s.view j k := rfl
@[simp] theorem State.setAssets_watch (s : State) (a : AssetMap) (j : Link) (k : Nat) :
    (s.setAssets a).watch j k = s.watch j k := rfl
@[simp] theorem State.setAssets_sched (s : State) (a : AssetMap) (k : Link) :
    (s.setAssets a).sched k = s.sched k := rfl
@[simp] theorem State.setAssets_voice (s : State) (a : AssetMap) (k : VoiceId) :
    (s.setAssets a).voice k = s.voice k := rfl
@[simp] theorem State.setAssets_block (s : State) (a : AssetMap) (k : Nat) :
    (s.setAssets a).block k = s.block k := rfl
@[simp] theorem State.setAssets_now (s : State) (a : AssetMap) :
    (s.setAssets a).now = s.now := rfl

/-! ### `setMedia` -/

@[simp] theorem State.setMedia_pending (s : State) (m : Media) :
    (s.setMedia m).pending = s.pending := rfl
@[simp] theorem State.setMedia_hub (s : State) (m : Media) :
    (s.setMedia m).hub = s.hub := rfl
@[simp] theorem State.setMedia_pins (s : State) (m : Media) :
    (s.setMedia m).pins = s.pins := rfl
@[simp] theorem State.setMedia_links (s : State) (m : Media) :
    (s.setMedia m).links = s.links := rfl
@[simp] theorem State.setMedia_ports (s : State) (m : Media) :
    (s.setMedia m).ports = s.ports := rfl
@[simp] theorem State.setMedia_holderI (s : State) (m : Media) :
    (s.setMedia m).holderI = s.holderI := rfl
@[simp] theorem State.setMedia_motors (s : State) (m : Media) :
    (s.setMedia m).motors = s.motors := rfl
@[simp] theorem State.setMedia_pairs (s : State) (m : Media) :
    (s.setMedia m).pairs = s.pairs := rfl
@[simp] theorem State.setMedia_samples (s : State) (m : Media) :
    (s.setMedia m).samples = s.samples := rfl
@[simp] theorem State.setMedia_views (s : State) (m : Media) :
    (s.setMedia m).views = s.views := rfl
@[simp] theorem State.setMedia_sharedI (s : State) (m : Media) :
    (s.setMedia m).sharedI = s.sharedI := rfl
@[simp] theorem State.setMedia_brick (s : State) (m : Media) :
    (s.setMedia m).brick = s.brick := rfl
@[simp] theorem State.setMedia_brickSet (s : State) (m : Media) :
    (s.setMedia m).brickSet = s.brickSet := rfl
@[simp] theorem State.setMedia_brickWork (s : State) (m : Media) :
    (s.setMedia m).brickWork = s.brickWork := rfl
@[simp] theorem State.setMedia_subs (s : State) (m : Media) :
    (s.setMedia m).subs = s.subs := rfl
@[simp] theorem State.setMedia_watches (s : State) (m : Media) :
    (s.setMedia m).watches = s.watches := rfl
@[simp] theorem State.setMedia_scheds (s : State) (m : Media) :
    (s.setMedia m).scheds = s.scheds := rfl
@[simp] theorem State.setMedia_sound (s : State) (m : Media) :
    (s.setMedia m).sound = s.sound := rfl
@[simp] theorem State.setMedia_assets (s : State) (m : Media) :
    (s.setMedia m).assets = s.assets := rfl
@[simp] theorem State.setMedia_media (s : State) (m : Media) :
    (s.setMedia m).media = m := rfl
@[simp] theorem State.setMedia_supply (s : State) (m : Media) :
    (s.setMedia m).supply = s.supply := rfl
@[simp] theorem State.setMedia_link (s : State) (m : Media) (k : Link) :
    (s.setMedia m).link k = s.link k := rfl
@[simp] theorem State.setMedia_port (s : State) (m : Media) (k : Port) :
    (s.setMedia m).port k = s.port k := rfl
@[simp] theorem State.setMedia_motor (s : State) (m : Media) (k : Port) :
    (s.setMedia m).motor k = s.motor k := rfl
@[simp] theorem State.setMedia_pair (s : State) (m : Media) (k : Nat) :
    (s.setMedia m).pair k = s.pair k := rfl
@[simp] theorem State.setMedia_sample (s : State) (m : Media) (k : Chan) :
    (s.setMedia m).sample k = s.sample k := rfl
@[simp] theorem State.setMedia_view (s : State) (m : Media) (j : Link) (k : Chan) :
    (s.setMedia m).view j k = s.view j k := rfl
@[simp] theorem State.setMedia_watch (s : State) (m : Media) (j : Link) (k : Nat) :
    (s.setMedia m).watch j k = s.watch j k := rfl
@[simp] theorem State.setMedia_sched (s : State) (m : Media) (k : Link) :
    (s.setMedia m).sched k = s.sched k := rfl
@[simp] theorem State.setMedia_voice (s : State) (m : Media) (k : VoiceId) :
    (s.setMedia m).voice k = s.voice k := rfl
@[simp] theorem State.setMedia_entry (s : State) (m : Media) (k : Nat) :
    (s.setMedia m).entry k = s.entry k := rfl
@[simp] theorem State.setMedia_now (s : State) (m : Media) :
    (s.setMedia m).now = s.now := rfl

/-! ### `setHub` -/

@[simp] theorem State.setHub_pending (s : State) (h : HubRec) :
    (s.setHub h).pending = s.pending := rfl
@[simp] theorem State.setHub_hub (s : State) (h : HubRec) :
    (s.setHub h).hub = h := rfl
@[simp] theorem State.setHub_pins (s : State) (h : HubRec) :
    (s.setHub h).pins = s.pins := rfl
@[simp] theorem State.setHub_links (s : State) (h : HubRec) :
    (s.setHub h).links = s.links := rfl
@[simp] theorem State.setHub_ports (s : State) (h : HubRec) :
    (s.setHub h).ports = s.ports := rfl
@[simp] theorem State.setHub_holderI (s : State) (h : HubRec) :
    (s.setHub h).holderI = s.holderI := rfl
@[simp] theorem State.setHub_motors (s : State) (h : HubRec) :
    (s.setHub h).motors = s.motors := rfl
@[simp] theorem State.setHub_pairs (s : State) (h : HubRec) :
    (s.setHub h).pairs = s.pairs := rfl
@[simp] theorem State.setHub_samples (s : State) (h : HubRec) :
    (s.setHub h).samples = s.samples := rfl
@[simp] theorem State.setHub_views (s : State) (h : HubRec) :
    (s.setHub h).views = s.views := rfl
@[simp] theorem State.setHub_sharedI (s : State) (h : HubRec) :
    (s.setHub h).sharedI = s.sharedI := rfl
@[simp] theorem State.setHub_brick (s : State) (h : HubRec) :
    (s.setHub h).brick = s.brick := rfl
@[simp] theorem State.setHub_brickSet (s : State) (h : HubRec) :
    (s.setHub h).brickSet = s.brickSet := rfl
@[simp] theorem State.setHub_brickWork (s : State) (h : HubRec) :
    (s.setHub h).brickWork = s.brickWork := rfl
@[simp] theorem State.setHub_subs (s : State) (h : HubRec) :
    (s.setHub h).subs = s.subs := rfl
@[simp] theorem State.setHub_watches (s : State) (h : HubRec) :
    (s.setHub h).watches = s.watches := rfl
@[simp] theorem State.setHub_scheds (s : State) (h : HubRec) :
    (s.setHub h).scheds = s.scheds := rfl
@[simp] theorem State.setHub_sound (s : State) (h : HubRec) :
    (s.setHub h).sound = s.sound := rfl
@[simp] theorem State.setHub_assets (s : State) (h : HubRec) :
    (s.setHub h).assets = s.assets := rfl
@[simp] theorem State.setHub_media (s : State) (h : HubRec) :
    (s.setHub h).media = s.media := rfl
@[simp] theorem State.setHub_supply (s : State) (h : HubRec) :
    (s.setHub h).supply = s.supply := rfl
@[simp] theorem State.setHub_link (s : State) (h : HubRec) (k : Link) :
    (s.setHub h).link k = s.link k := rfl
@[simp] theorem State.setHub_port (s : State) (h : HubRec) (k : Port) :
    (s.setHub h).port k = s.port k := rfl
@[simp] theorem State.setHub_motor (s : State) (h : HubRec) (k : Port) :
    (s.setHub h).motor k = s.motor k := rfl
@[simp] theorem State.setHub_pair (s : State) (h : HubRec) (k : Nat) :
    (s.setHub h).pair k = s.pair k := rfl
@[simp] theorem State.setHub_sample (s : State) (h : HubRec) (k : Chan) :
    (s.setHub h).sample k = s.sample k := rfl
@[simp] theorem State.setHub_view (s : State) (h : HubRec) (j : Link) (k : Chan) :
    (s.setHub h).view j k = s.view j k := rfl
@[simp] theorem State.setHub_watch (s : State) (h : HubRec) (j : Link) (k : Nat) :
    (s.setHub h).watch j k = s.watch j k := rfl
@[simp] theorem State.setHub_sched (s : State) (h : HubRec) (k : Link) :
    (s.setHub h).sched k = s.sched k := rfl
@[simp] theorem State.setHub_voice (s : State) (h : HubRec) (k : VoiceId) :
    (s.setHub h).voice k = s.voice k := rfl
@[simp] theorem State.setHub_entry (s : State) (h : HubRec) (k : Nat) :
    (s.setHub h).entry k = s.entry k := rfl
@[simp] theorem State.setHub_block (s : State) (h : HubRec) (k : Nat) :
    (s.setHub h).block k = s.block k := rfl

/-! ### `setPins` -/

@[simp] theorem State.setPins_pending (s : State) (x : Pins) :
    (s.setPins x).pending = s.pending := rfl
@[simp] theorem State.setPins_hub (s : State) (x : Pins) :
    (s.setPins x).hub = s.hub := rfl
@[simp] theorem State.setPins_pins (s : State) (x : Pins) :
    (s.setPins x).pins = x := rfl
@[simp] theorem State.setPins_links (s : State) (x : Pins) :
    (s.setPins x).links = s.links := rfl
@[simp] theorem State.setPins_ports (s : State) (x : Pins) :
    (s.setPins x).ports = s.ports := rfl
@[simp] theorem State.setPins_holderI (s : State) (x : Pins) :
    (s.setPins x).holderI = s.holderI := rfl
@[simp] theorem State.setPins_motors (s : State) (x : Pins) :
    (s.setPins x).motors = s.motors := rfl
@[simp] theorem State.setPins_pairs (s : State) (x : Pins) :
    (s.setPins x).pairs = s.pairs := rfl
@[simp] theorem State.setPins_samples (s : State) (x : Pins) :
    (s.setPins x).samples = s.samples := rfl
@[simp] theorem State.setPins_views (s : State) (x : Pins) :
    (s.setPins x).views = s.views := rfl
@[simp] theorem State.setPins_sharedI (s : State) (x : Pins) :
    (s.setPins x).sharedI = s.sharedI := rfl
@[simp] theorem State.setPins_brick (s : State) (x : Pins) :
    (s.setPins x).brick = s.brick := rfl
@[simp] theorem State.setPins_brickSet (s : State) (x : Pins) :
    (s.setPins x).brickSet = s.brickSet := rfl
@[simp] theorem State.setPins_brickWork (s : State) (x : Pins) :
    (s.setPins x).brickWork = s.brickWork := rfl
@[simp] theorem State.setPins_subs (s : State) (x : Pins) :
    (s.setPins x).subs = s.subs := rfl
@[simp] theorem State.setPins_watches (s : State) (x : Pins) :
    (s.setPins x).watches = s.watches := rfl
@[simp] theorem State.setPins_scheds (s : State) (x : Pins) :
    (s.setPins x).scheds = s.scheds := rfl
@[simp] theorem State.setPins_sound (s : State) (x : Pins) :
    (s.setPins x).sound = s.sound := rfl
@[simp] theorem State.setPins_assets (s : State) (x : Pins) :
    (s.setPins x).assets = s.assets := rfl
@[simp] theorem State.setPins_media (s : State) (x : Pins) :
    (s.setPins x).media = s.media := rfl
@[simp] theorem State.setPins_supply (s : State) (x : Pins) :
    (s.setPins x).supply = s.supply := rfl
@[simp] theorem State.setPins_link (s : State) (x : Pins) (k : Link) :
    (s.setPins x).link k = s.link k := rfl
@[simp] theorem State.setPins_port (s : State) (x : Pins) (k : Port) :
    (s.setPins x).port k = s.port k := rfl
@[simp] theorem State.setPins_motor (s : State) (x : Pins) (k : Port) :
    (s.setPins x).motor k = s.motor k := rfl
@[simp] theorem State.setPins_pair (s : State) (x : Pins) (k : Nat) :
    (s.setPins x).pair k = s.pair k := rfl
@[simp] theorem State.setPins_sample (s : State) (x : Pins) (k : Chan) :
    (s.setPins x).sample k = s.sample k := rfl
@[simp] theorem State.setPins_view (s : State) (x : Pins) (j : Link) (k : Chan) :
    (s.setPins x).view j k = s.view j k := rfl
@[simp] theorem State.setPins_watch (s : State) (x : Pins) (j : Link) (k : Nat) :
    (s.setPins x).watch j k = s.watch j k := rfl
@[simp] theorem State.setPins_sched (s : State) (x : Pins) (k : Link) :
    (s.setPins x).sched k = s.sched k := rfl
@[simp] theorem State.setPins_voice (s : State) (x : Pins) (k : VoiceId) :
    (s.setPins x).voice k = s.voice k := rfl
@[simp] theorem State.setPins_entry (s : State) (x : Pins) (k : Nat) :
    (s.setPins x).entry k = s.entry k := rfl
@[simp] theorem State.setPins_block (s : State) (x : Pins) (k : Nat) :
    (s.setPins x).block k = s.block k := rfl
@[simp] theorem State.setPins_now (s : State) (x : Pins) :
    (s.setPins x).now = s.now := rfl

/-! ### `setSupply` -/

@[simp] theorem State.setSupply_pending (s : State) (x : Supply) :
    (s.setSupply x).pending = s.pending := rfl
@[simp] theorem State.setSupply_hub (s : State) (x : Supply) :
    (s.setSupply x).hub = s.hub := rfl
@[simp] theorem State.setSupply_pins (s : State) (x : Supply) :
    (s.setSupply x).pins = s.pins := rfl
@[simp] theorem State.setSupply_links (s : State) (x : Supply) :
    (s.setSupply x).links = s.links := rfl
@[simp] theorem State.setSupply_ports (s : State) (x : Supply) :
    (s.setSupply x).ports = s.ports := rfl
@[simp] theorem State.setSupply_holderI (s : State) (x : Supply) :
    (s.setSupply x).holderI = s.holderI := rfl
@[simp] theorem State.setSupply_motors (s : State) (x : Supply) :
    (s.setSupply x).motors = s.motors := rfl
@[simp] theorem State.setSupply_pairs (s : State) (x : Supply) :
    (s.setSupply x).pairs = s.pairs := rfl
@[simp] theorem State.setSupply_samples (s : State) (x : Supply) :
    (s.setSupply x).samples = s.samples := rfl
@[simp] theorem State.setSupply_views (s : State) (x : Supply) :
    (s.setSupply x).views = s.views := rfl
@[simp] theorem State.setSupply_sharedI (s : State) (x : Supply) :
    (s.setSupply x).sharedI = s.sharedI := rfl
@[simp] theorem State.setSupply_brick (s : State) (x : Supply) :
    (s.setSupply x).brick = s.brick := rfl
@[simp] theorem State.setSupply_brickSet (s : State) (x : Supply) :
    (s.setSupply x).brickSet = s.brickSet := rfl
@[simp] theorem State.setSupply_brickWork (s : State) (x : Supply) :
    (s.setSupply x).brickWork = s.brickWork := rfl
@[simp] theorem State.setSupply_subs (s : State) (x : Supply) :
    (s.setSupply x).subs = s.subs := rfl
@[simp] theorem State.setSupply_watches (s : State) (x : Supply) :
    (s.setSupply x).watches = s.watches := rfl
@[simp] theorem State.setSupply_scheds (s : State) (x : Supply) :
    (s.setSupply x).scheds = s.scheds := rfl
@[simp] theorem State.setSupply_sound (s : State) (x : Supply) :
    (s.setSupply x).sound = s.sound := rfl
@[simp] theorem State.setSupply_assets (s : State) (x : Supply) :
    (s.setSupply x).assets = s.assets := rfl
@[simp] theorem State.setSupply_media (s : State) (x : Supply) :
    (s.setSupply x).media = s.media := rfl
@[simp] theorem State.setSupply_supply (s : State) (x : Supply) :
    (s.setSupply x).supply = x := rfl
@[simp] theorem State.setSupply_link (s : State) (x : Supply) (k : Link) :
    (s.setSupply x).link k = s.link k := rfl
@[simp] theorem State.setSupply_port (s : State) (x : Supply) (k : Port) :
    (s.setSupply x).port k = s.port k := rfl
@[simp] theorem State.setSupply_motor (s : State) (x : Supply) (k : Port) :
    (s.setSupply x).motor k = s.motor k := rfl
@[simp] theorem State.setSupply_pair (s : State) (x : Supply) (k : Nat) :
    (s.setSupply x).pair k = s.pair k := rfl
@[simp] theorem State.setSupply_sample (s : State) (x : Supply) (k : Chan) :
    (s.setSupply x).sample k = s.sample k := rfl
@[simp] theorem State.setSupply_view (s : State) (x : Supply) (j : Link) (k : Chan) :
    (s.setSupply x).view j k = s.view j k := rfl
@[simp] theorem State.setSupply_watch (s : State) (x : Supply) (j : Link) (k : Nat) :
    (s.setSupply x).watch j k = s.watch j k := rfl
@[simp] theorem State.setSupply_sched (s : State) (x : Supply) (k : Link) :
    (s.setSupply x).sched k = s.sched k := rfl
@[simp] theorem State.setSupply_voice (s : State) (x : Supply) (k : VoiceId) :
    (s.setSupply x).voice k = s.voice k := rfl
@[simp] theorem State.setSupply_entry (s : State) (x : Supply) (k : Nat) :
    (s.setSupply x).entry k = s.entry k := rfl
@[simp] theorem State.setSupply_block (s : State) (x : Supply) (k : Nat) :
    (s.setSupply x).block k = s.block k := rfl
@[simp] theorem State.setSupply_now (s : State) (x : Supply) :
    (s.setSupply x).now = s.now := rfl

/-! ### A record after its own update -/

@[simp] theorem State.setLink_link_self (s : State) (l : Link) (u : LinkUnit) : (s.setLink l u).link l = u := by
  simp [State.link]

theorem State.setLink_link (s : State) (l k : Link) (u : LinkUnit) :
    (s.setLink l u).link k = if k = l then u else s.link k := by
  simp [State.link, PerLink.get_set]

@[simp] theorem State.setLink_setLink (s : State) (l : Link) (u v : LinkUnit) :
    (s.setLink l u).setLink l v = s.setLink l v := by
  simp [State.setLink]

@[simp] theorem State.setLink_same (s : State) (l : Link) : s.setLink l (s.link l) = s := by
  simp [State.setLink, State.link]

@[simp] theorem State.setPort_port_self (s : State) (p : Port) (r : PortRec) : (s.setPort p r).port p = r := by
  simp [State.port]

theorem State.setPort_port (s : State) (p q : Port) (r : PortRec) :
    (s.setPort p r).port q = if q = p then r else s.port q := by
  simp [State.port, PerPort.get_set]

@[simp] theorem State.setMotor_motor_self (s : State) (p : Port) (m : Motor) : (s.setMotor p m).motor p = m := by
  simp [State.motor]

theorem State.setMotor_motor (s : State) (p q : Port) (m : Motor) :
    (s.setMotor p m).motor q = if q = p then m else s.motor q := by
  simp [State.motor, PerPort.get_set]

@[simp] theorem State.setSample_sample_self (s : State) (c : Chan) (x : Sample) :
    (s.setSample c x).sample c = x := by
  simp [State.sample]

@[simp] theorem State.setView_view_self (s : State) (l : Link) (c : Chan) (v : View) :
    (s.setView l c v).view l c = v := by
  simp [State.view]

@[simp] theorem State.setSched_sched_self (s : State) (l : Link) (x : Scheduler) :
    (s.setSched l x).sched l = x := by
  simp [State.sched]

@[simp] theorem State.setVoice_voice_self (s : State) (v : VoiceId) (x : Option Voice) :
    (s.setVoice v x).voice v = x := by
  simp [State.voice, State.setVoice]

end Sys2Proof.Machine
end

