-- ==== Sys2Proof/Laws/Requests.lean ====
section
/-! SUPPORT. What taking a request and answering it can do: one lemma for each shared operation of a request. -/

namespace Sys2Proof.Machine

/-- Taking a request that waits hands its body to the handler, with the entry in its owner's hands. -/
theorem State.serve_waits {s : State} {l : Link} {tag : Byte} {code : ReqCode} {n : Nat} {b : List Byte}
    (h : s.Waits l tag code n b) (f : Ticket → List Byte → State → State) :
    s.serve l tag code f = f ⟨l, n⟩ b (s.taken l n) := by
  simp [State.serve, h.routed, State.taken]

/-- With no such request waiting for its owner, nothing is taken. -/
theorem State.serve_none {s : State} {l : Link} {tag : Byte} {code : ReqCode}
    (h : (s.link l).routed tag code = none) (f : Ticket → List Byte → State → State) :
    s.serve l tag code f = s := by
  simp [State.serve, h]

theorem LinkUnit.routed_mem {u : LinkUnit} {tag : Byte} {code : ReqCode} {n : Nat} {b : List Byte}
    (h : u.routed tag code = some (n, b)) :
    ∃ e ∈ u.table, e.tag = tag ∧ e.code = code ∧ e.serial = n ∧ e.stage = .routed b := by
  unfold LinkUnit.routed at h
  split at h
  · rename_i body serial heq
    have hp := List.find?_some heq
    refine ⟨_, List.mem_of_find?_eq_some heq, ?_⟩
    simp at hp h
    exact ⟨hp.1, hp.2, h.1, by rw [h.2]⟩
  · cases h

/-- Two entries with one serial are one entry. -/
theorem eq_of_serial {es : List Entry} (hn : (es.map (fun e => e.serial)).Nodup) {e f : Entry} (he : e ∈ es)
    (hf : f ∈ es) (h : e.serial = f.serial) : e = f := by
  induction es with
  | nil => cases he
  | cons a rest ih =>
    simp only [List.map_cons, List.nodup_cons, List.mem_map] at hn
    rcases List.mem_cons.mp he with he | he <;> rcases List.mem_cons.mp hf with hf | hf
    · rw [he, hf]
    · exact absurd ⟨f, hf, by rw [← h, he]⟩ hn.1
    · exact absurd ⟨e, he, by rw [h, hf]⟩ hn.1
    · exact ih hn.2 he hf

/-- A response handed over for an entry that its owner holds. -/
theorem LinkUnit.handOver_held {u : LinkUnit} {n : Nat} {e : Entry} (hn : (u.table.map (fun e => e.serial)).Nodup)
    (he : e ∈ u.table) (hs : e.serial = n) (ht : e.stage ≠ .answered) (j : Judgement) (body : List Byte) :
    u.handOver n j body = u.answered e.tag e.code n j body := by
  have hf : u.table.find? (fun e => e.serial == n && e.stage != .answered) = some e := by
    cases hq : u.table.find? (fun e => e.serial == n && e.stage != .answered) with
    | none =>
      have := List.find?_eq_none.mp hq e he
      simp [hs, ht] at this
    | some g =>
      have hp := List.find?_some hq
      simp at hp
      rw [eq_of_serial hn (List.mem_of_find?_eq_some hq) he (by rw [hp.1, hs])]
  simp [LinkUnit.handOver, hf, LinkUnit.answered]

/-- A response handed over for a request just taken. -/
theorem LinkUnit.handOver_take {u : LinkUnit} {tag : Byte} {code : ReqCode} {n : Nat} {b : List Byte}
    (hn : (u.table.map (fun e => e.serial)).Nodup) (h : u.routed tag code = some (n, b)) (j : Judgement)
    (body : List Byte) : (u.take n).handOver n j body = u.answered tag code n j body := by
  obtain ⟨e, he, h1, h2, h3, h4⟩ := LinkUnit.routed_mem h
  have hmem : ({ e with stage := .working } : Entry) ∈ (u.take n).table := by
    simp only [LinkUnit.take, List.mem_map]
    exact ⟨e, he, by simp [h3]⟩
  have hn' : ((u.take n).table.map (fun e => e.serial)).Nodup := by
    have : (u.take n).table.map (fun e => e.serial) = u.table.map (fun e => e.serial) := by
      simp only [LinkUnit.take, List.map_map]
      apply List.map_congr_left
      intro x _
      by_cases hx : x.serial = n <;> simp [hx]
    rw [this]; exact hn
  rw [LinkUnit.handOver_held hn' hmem h3 (by simp)]
  simp only [LinkUnit.answered, LinkUnit.take, h1, h2, List.map_map]
  congr 1
  apply List.map_congr_left
  intro x _
  by_cases hx : x.serial = n <;> simp [hx]

/-- A request that waits and is answered at once with no other effect. -/
theorem State.respond_taken {s : State} {l : Link} {tag : Byte} {code : ReqCode} {n : Nat} {b : List Byte}
    (h : s.Waits l tag code n b) (j : Judgement) (body : List Byte) :
    (s.taken l n).respond ⟨l, n⟩ j body = s.answered l tag code n j body := by
  simp [State.respond, State.taken, State.answered,
    LinkUnit.handOver_take (h.sound l).1.serials h.routed j body]

/-- A request that waits and is answered after other records have changed. -/
theorem State.respond_link {s t : State} {l : Link} {tag : Byte} {code : ReqCode} {n : Nat} {b : List Byte}
    (h : s.Waits l tag code n b) (ht : t.link l = (s.link l).take n) (j : Judgement) (body : List Byte) :
    t.respond ⟨l, n⟩ j body = t.setLink l ((s.link l).answered tag code n j body) := by
  simp [State.respond, ht, LinkUnit.handOver_take (h.sound l).1.serials h.routed j body]

@[simp] theorem judge_nil : judge [] = none := rfl

@[simp] theorem judge_cons (failed : Bool) (j : Judgement) (rest : List (Bool × Judgement)) :
    judge ((failed, j) :: rest) = if failed then some j else judge rest := rfl

/-- A request whose first failing check gives `j` is refused with it. -/
theorem State.check_some {s : State} {t : Ticket} {cs : List (Bool × Judgement)} {j : Judgement}
    (h : judge cs = some j) (f : State → State) : s.check t cs f = s.refuse t j := by
  simp [State.check, h]

/-- A request with no failing check is carried out. -/
theorem State.check_none {s : State} {t : Ticket} {cs : List (Bool × Judgement)} (h : judge cs = none)
    (f : State → State) : s.check t cs f = f s := by
  simp [State.check, h]

end Sys2Proof.Machine
end

