-- ==== Sys2Proof/Laws/Handover.lean ====
section
/-! SUPPORT. Handing over a notice or a response changes nothing but the Link Units: one lemma per operation that says
it once, and one lemma per field. -/

namespace Sys2Proof.Machine

/-- A notice handed over changes nothing but its link's unit (R10). -/
theorem State.notify_links_only (s : State) (l : Link) (b : NoticeBody) :
    s.notify l b = { s with links := (s.notify l b).links } := by
  unfold State.notify State.setLink; split <;> rfl

/-- A notice to both links changes nothing but the Link Units (R10). -/
theorem State.notifyBoth_links_only (s : State) (b : NoticeBody) :
    s.notifyBoth b = { s with links := (s.notifyBoth b).links } := by
  unfold State.notifyBoth
  rw [State.notify_links_only (s.notify .pl b), State.notify_links_only s]

/-- A response handed over changes nothing but its link's unit (R8). -/
theorem State.respond_links_only (s : State) (t : Ticket) (j : Judgement) (b : List Byte) :
    s.respond t j b = { s with links := (s.respond t j b).links } := rfl

theorem State.refuse_links_only (s : State) (t : Ticket) (j : Judgement) :
    s.refuse t j = { s with links := (s.refuse t j).links } := rfl

theorem State.complete_links_only (s : State) (t : Ticket) (b : List Byte) :
    s.complete t b = { s with links := (s.complete t b).links } := rfl

/-- What a notice does to the unit of its own link and to the other unit. -/
theorem State.notify_link (s : State) (l k : Link) (b : NoticeBody) :
    (s.notify l b).link k =
      if k = l ∧ (s.link l).up = true then (s.link l).queueNotice ⟨b, s.now⟩ else s.link k := by
  unfold State.notify
  by_cases h : (s.link l).up = true <;> by_cases hk : k = l <;> simp [h, hk, State.setLink_link]

/-- What a response does to the unit of its own link and to the other unit. -/
theorem State.respond_link_eq (s : State) (t : Ticket) (j : Judgement) (b : List Byte) (k : Link) :
    (s.respond t j b).link k = if k = t.link then (s.link t.link).handOver t.serial j b else s.link k := by
  unfold State.respond
  by_cases hk : k = t.link <;> simp [hk, State.setLink_link]

@[simp] theorem State.notify_pending (s : State) (l : Link) (b : NoticeBody) : (s.notify l b).pending = s.pending := by
  rw [State.notify_links_only]
@[simp] theorem State.notify_hub (s : State) (l : Link) (b : NoticeBody) : (s.notify l b).hub = s.hub := by
  rw [State.notify_links_only]
@[simp] theorem State.notify_pins (s : State) (l : Link) (b : NoticeBody) : (s.notify l b).pins = s.pins := by
  rw [State.notify_links_only]
@[simp] theorem State.notify_ports (s : State) (l : Link) (b : NoticeBody) : (s.notify l b).ports = s.ports := by
  rw [State.notify_links_only]
@[simp] theorem State.notify_holderI (s : State) (l : Link) (b : NoticeBody) : (s.notify l b).holderI = s.holderI := by
  rw [State.notify_links_only]
@[simp] theorem State.notify_motors (s : State) (l : Link) (b : NoticeBody) : (s.notify l b).motors = s.motors := by
  rw [State.notify_links_only]
@[simp] theorem State.notify_pairs (s : State) (l : Link) (b : NoticeBody) : (s.notify l b).pairs = s.pairs := by
  rw [State.notify_links_only]
@[simp] theorem State.notify_samples (s : State) (l : Link) (b : NoticeBody) : (s.notify l b).samples = s.samples := by
  rw [State.notify_links_only]
@[simp] theorem State.notify_views (s : State) (l : Link) (b : NoticeBody) : (s.notify l b).views = s.views := by
  rw [State.notify_links_only]
@[simp] theorem State.notify_sharedI (s : State) (l : Link) (b : NoticeBody) : (s.notify l b).sharedI = s.sharedI := by
  rw [State.notify_links_only]
@[simp] theorem State.notify_brick (s : State) (l : Link) (b : NoticeBody) : (s.notify l b).brick = s.brick := by
  rw [State.notify_links_only]
@[simp] theorem State.notify_brickSet (s : State) (l : Link) (b : NoticeBody) : (s.notify l b).brickSet = s.brickSet := by
  rw [State.notify_links_only]
@[simp] theorem State.notify_brickWork (s : State) (l : Link) (b : NoticeBody) : (s.notify l b).brickWork = s.brickWork := by
  rw [State.notify_links_only]
@[simp] theorem State.notify_subs (s : State) (l : Link) (b : NoticeBody) : (s.notify l b).subs = s.subs := by
  rw [State.notify_links_only]
@[simp] theorem State.notify_watches (s : State) (l : Link) (b : NoticeBody) : (s.notify l b).watches = s.watches := by
  rw [State.notify_links_only]
@[simp] theorem State.notify_scheds (s : State) (l : Link) (b : NoticeBody) : (s.notify l b).scheds = s.scheds := by
  rw [State.notify_links_only]
@[simp] theorem State.notify_sound (s : State) (l : Link) (b : NoticeBody) : (s.notify l b).sound = s.sound := by
  rw [State.notify_links_only]
@[simp] theorem State.notify_assets (s : State) (l : Link) (b : NoticeBody) : (s.notify l b).assets = s.assets := by
  rw [State.notify_links_only]
@[simp] theorem State.notify_media (s : State) (l : Link) (b : NoticeBody) : (s.notify l b).media = s.media := by
  rw [State.notify_links_only]
@[simp] theorem State.notify_supply (s : State) (l : Link) (b : NoticeBody) : (s.notify l b).supply = s.supply := by
  rw [State.notify_links_only]
@[simp] theorem State.notify_port (s : State) (l : Link) (b : NoticeBody) (p : Port) :
    (s.notify l b).port p = s.port p := by
  rw [State.notify_links_only]; rfl
@[simp] theorem State.notify_motor (s : State) (l : Link) (b : NoticeBody) (p : Port) :
    (s.notify l b).motor p = s.motor p := by
  rw [State.notify_links_only]; rfl
@[simp] theorem State.notify_pair (s : State) (l : Link) (b : NoticeBody) (k : Nat) :
    (s.notify l b).pair k = s.pair k := by
  rw [State.notify_links_only]; rfl
@[simp] theorem State.notify_sample (s : State) (l : Link) (b : NoticeBody) (c : Chan) :
    (s.notify l b).sample c = s.sample c := by
  rw [State.notify_links_only]; rfl
@[simp] theorem State.notify_view (s : State) (l : Link) (b : NoticeBody) (k : Link) (c : Chan) :
    (s.notify l b).view k c = s.view k c := by
  rw [State.notify_links_only]; rfl
@[simp] theorem State.notify_watch (s : State) (l : Link) (b : NoticeBody) (k : Link) (n : Nat) :
    (s.notify l b).watch k n = s.watch k n := by
  rw [State.notify_links_only]; rfl
@[simp] theorem State.notify_sched (s : State) (l : Link) (b : NoticeBody) (k : Link) :
    (s.notify l b).sched k = s.sched k := by
  rw [State.notify_links_only]; rfl
@[simp] theorem State.notify_stream (s : State) (l : Link) (b : NoticeBody) (k : Link) (n : Nat) :
    (s.notify l b).stream k n = s.stream k n := by
  rw [State.notify_links_only]; rfl
@[simp] theorem State.notify_voice (s : State) (l : Link) (b : NoticeBody) (v : VoiceId) :
    (s.notify l b).voice v = s.voice v := by
  rw [State.notify_links_only]; rfl
@[simp] theorem State.notify_entry (s : State) (l : Link) (b : NoticeBody) (n : Nat) :
    (s.notify l b).entry n = s.entry n := by
  rw [State.notify_links_only]; rfl
@[simp] theorem State.notify_block (s : State) (l : Link) (b : NoticeBody) (n : Nat) :
    (s.notify l b).block n = s.block n := by
  rw [State.notify_links_only]; rfl
@[simp] theorem State.notify_now (s : State) (l : Link) (b : NoticeBody) :
    (s.notify l b).now = s.now := by
  rw [State.notify_links_only]; rfl
@[simp] theorem State.notify_cutoff (s : State) (l : Link) (b : NoticeBody) :
    (s.notify l b).cutoff = s.cutoff := by
  rw [State.notify_links_only]; rfl
@[simp] theorem State.notify_hubReady (s : State) (l : Link) (b : NoticeBody) :
    (s.notify l b).hubReady = s.hubReady := by
  rw [State.notify_links_only]; rfl
@[simp] theorem State.notify_classOf (s : State) (l : Link) (b : NoticeBody) (p : Port) :
    (s.notify l b).classOf p = s.classOf p := by
  rw [State.notify_links_only]; rfl
@[simp] theorem State.notify_active (s : State) (l : Link) (b : NoticeBody) (p : Port) :
    (s.notify l b).active p = s.active p := by
  rw [State.notify_links_only]; rfl

@[simp] theorem State.notifyBoth_pending (s : State) (b : NoticeBody) : (s.notifyBoth b).pending = s.pending := by
  rw [State.notifyBoth_links_only]
@[simp] theorem State.notifyBoth_hub (s : State) (b : NoticeBody) : (s.notifyBoth b).hub = s.hub := by
  rw [State.notifyBoth_links_only]
@[simp] theorem State.notifyBoth_pins (s : State) (b : NoticeBody) : (s.notifyBoth b).pins = s.pins := by
  rw [State.notifyBoth_links_only]
@[simp] theorem State.notifyBoth_ports (s : State) (b : NoticeBody) : (s.notifyBoth b).ports = s.ports := by
  rw [State.notifyBoth_links_only]
@[simp] theorem State.notifyBoth_holderI (s : State) (b : NoticeBody) : (s.notifyBoth b).holderI = s.holderI := by
  rw [State.notifyBoth_links_only]
@[simp] theorem State.notifyBoth_motors (s : State) (b : NoticeBody) : (s.notifyBoth b).motors = s.motors := by
  rw [State.notifyBoth_links_only]
@[simp] theorem State.notifyBoth_pairs (s : State) (b : NoticeBody) : (s.notifyBoth b).pairs = s.pairs := by
  rw [State.notifyBoth_links_only]
@[simp] theorem State.notifyBoth_samples (s : State) (b : NoticeBody) : (s.notifyBoth b).samples = s.samples := by
  rw [State.notifyBoth_links_only]
@[simp] theorem State.notifyBoth_views (s : State) (b : NoticeBody) : (s.notifyBoth b).views = s.views := by
  rw [State.notifyBoth_links_only]
@[simp] theorem State.notifyBoth_sharedI (s : State) (b : NoticeBody) : (s.notifyBoth b).sharedI = s.sharedI := by
  rw [State.notifyBoth_links_only]
@[simp] theorem State.notifyBoth_brick (s : State) (b : NoticeBody) : (s.notifyBoth b).brick = s.brick := by
  rw [State.notifyBoth_links_only]
@[simp] theorem State.notifyBoth_brickSet (s : State) (b : NoticeBody) : (s.notifyBoth b).brickSet = s.brickSet := by
  rw [State.notifyBoth_links_only]
@[simp] theorem State.notifyBoth_brickWork (s : State) (b : NoticeBody) : (s.notifyBoth b).brickWork = s.brickWork := by
  rw [State.notifyBoth_links_only]
@[simp] theorem State.notifyBoth_subs (s : State) (b : NoticeBody) : (s.notifyBoth b).subs = s.subs := by
  rw [State.notifyBoth_links_only]
@[simp] theorem State.notifyBoth_watches (s : State) (b : NoticeBody) : (s.notifyBoth b).watches = s.watches := by
  rw [State.notifyBoth_links_only]
@[simp] theorem State.notifyBoth_scheds (s : State) (b : NoticeBody) : (s.notifyBoth b).scheds = s.scheds := by
  rw [State.notifyBoth_links_only]
@[simp] theorem State.notifyBoth_sound (s : State) (b : NoticeBody) : (s.notifyBoth b).sound = s.sound := by
  rw [State.notifyBoth_links_only]
@[simp] theorem State.notifyBoth_assets (s : State) (b : NoticeBody) : (s.notifyBoth b).assets = s.assets := by
  rw [State.notifyBoth_links_only]
@[simp] theorem State.notifyBoth_media (s : State) (b : NoticeBody) : (s.notifyBoth b).media = s.media := by
  rw [State.notifyBoth_links_only]
@[simp] theorem State.notifyBoth_supply (s : State) (b : NoticeBody) : (s.notifyBoth b).supply = s.supply := by
  rw [State.notifyBoth_links_only]
@[simp] theorem State.notifyBoth_port (s : State) (b : NoticeBody) (p : Port) :
    (s.notifyBoth b).port p = s.port p := by
  rw [State.notifyBoth_links_only]; rfl
@[simp] theorem State.notifyBoth_motor (s : State) (b : NoticeBody) (p : Port) :
    (s.notifyBoth b).motor p = s.motor p := by
  rw [State.notifyBoth_links_only]; rfl
@[simp] theorem State.notifyBoth_pair (s : State) (b : NoticeBody) (k : Nat) :
    (s.notifyBoth b).pair k = s.pair k := by
  rw [State.notifyBoth_links_only]; rfl
@[simp] theorem State.notifyBoth_sample (s : State) (b : NoticeBody) (c : Chan) :
    (s.notifyBoth b).sample c = s.sample c := by
  rw [State.notifyBoth_links_only]; rfl
@[simp] theorem State.notifyBoth_view (s : State) (b : NoticeBody) (k : Link) (c : Chan) :
    (s.notifyBoth b).view k c = s.view k c := by
  rw [State.notifyBoth_links_only]; rfl
@[simp] theorem State.notifyBoth_watch (s : State) (b : NoticeBody) (k : Link) (n : Nat) :
    (s.notifyBoth b).watch k n = s.watch k n := by
  rw [State.notifyBoth_links_only]; rfl
@[simp] theorem State.notifyBoth_sched (s : State) (b : NoticeBody) (k : Link) :
    (s.notifyBoth b).sched k = s.sched k := by
  rw [State.notifyBoth_links_only]; rfl
@[simp] theorem State.notifyBoth_stream (s : State) (b : NoticeBody) (k : Link) (n : Nat) :
    (s.notifyBoth b).stream k n = s.stream k n := by
  rw [State.notifyBoth_links_only]; rfl
@[simp] theorem State.notifyBoth_voice (s : State) (b : NoticeBody) (v : VoiceId) :
    (s.notifyBoth b).voice v = s.voice v := by
  rw [State.notifyBoth_links_only]; rfl
@[simp] theorem State.notifyBoth_entry (s : State) (b : NoticeBody) (n : Nat) :
    (s.notifyBoth b).entry n = s.entry n := by
  rw [State.notifyBoth_links_only]; rfl
@[simp] theorem State.notifyBoth_block (s : State) (b : NoticeBody) (n : Nat) :
    (s.notifyBoth b).block n = s.block n := by
  rw [State.notifyBoth_links_only]; rfl
@[simp] theorem State.notifyBoth_now (s : State) (b : NoticeBody) :
    (s.notifyBoth b).now = s.now := by
  rw [State.notifyBoth_links_only]; rfl
@[simp] theorem State.notifyBoth_cutoff (s : State) (b : NoticeBody) :
    (s.notifyBoth b).cutoff = s.cutoff := by
  rw [State.notifyBoth_links_only]; rfl
@[simp] theorem State.notifyBoth_hubReady (s : State) (b : NoticeBody) :
    (s.notifyBoth b).hubReady = s.hubReady := by
  rw [State.notifyBoth_links_only]; rfl
@[simp] theorem State.notifyBoth_classOf (s : State) (b : NoticeBody) (p : Port) :
    (s.notifyBoth b).classOf p = s.classOf p := by
  rw [State.notifyBoth_links_only]; rfl
@[simp] theorem State.notifyBoth_active (s : State) (b : NoticeBody) (p : Port) :
    (s.notifyBoth b).active p = s.active p := by
  rw [State.notifyBoth_links_only]; rfl

@[simp] theorem State.respond_pending (s : State) (t : Ticket) (j : Judgement) (b : List Byte) : (s.respond t j b).pending = s.pending := rfl
@[simp] theorem State.respond_hub (s : State) (t : Ticket) (j : Judgement) (b : List Byte) : (s.respond t j b).hub = s.hub := rfl
@[simp] theorem State.respond_pins (s : State) (t : Ticket) (j : Judgement) (b : List Byte) : (s.respond t j b).pins = s.pins := rfl
@[simp] theorem State.respond_ports (s : State) (t : Ticket) (j : Judgement) (b : List Byte) : (s.respond t j b).ports = s.ports := rfl
@[simp] theorem State.respond_holderI (s : State) (t : Ticket) (j : Judgement) (b : List Byte) : (s.respond t j b).holderI = s.holderI := rfl
@[simp] theorem State.respond_motors (s : State) (t : Ticket) (j : Judgement) (b : List Byte) : (s.respond t j b).motors = s.motors := rfl
@[simp] theorem State.respond_pairs (s : State) (t : Ticket) (j : Judgement) (b : List Byte) : (s.respond t j b).pairs = s.pairs := rfl
@[simp] theorem State.respond_samples (s : State) (t : Ticket) (j : Judgement) (b : List Byte) : (s.respond t j b).samples = s.samples := rfl
@[simp] theorem State.respond_views (s : State) (t : Ticket) (j : Judgement) (b : List Byte) : (s.respond t j b).views = s.views := rfl
@[simp] theorem State.respond_sharedI (s : State) (t : Ticket) (j : Judgement) (b : List Byte) : (s.respond t j b).sharedI = s.sharedI := rfl
@[simp] theorem State.respond_brick (s : State) (t : Ticket) (j : Judgement) (b : List Byte) : (s.respond t j b).brick = s.brick := rfl
@[simp] theorem State.respond_brickSet (s : State) (t : Ticket) (j : Judgement) (b : List Byte) : (s.respond t j b).brickSet = s.brickSet := rfl
@[simp] theorem State.respond_brickWork (s : State) (t : Ticket) (j : Judgement) (b : List Byte) : (s.respond t j b).brickWork = s.brickWork := rfl
@[simp] theorem State.respond_subs (s : State) (t : Ticket) (j : Judgement) (b : List Byte) : (s.respond t j b).subs = s.subs := rfl
@[simp] theorem State.respond_watches (s : State) (t : Ticket) (j : Judgement) (b : List Byte) : (s.respond t j b).watches = s.watches := rfl
@[simp] theorem State.respond_scheds (s : State) (t : Ticket) (j : Judgement) (b : List Byte) : (s.respond t j b).scheds = s.scheds := rfl
@[simp] theorem State.respond_sound (s : State) (t : Ticket) (j : Judgement) (b : List Byte) : (s.respond t j b).sound = s.sound := rfl
@[simp] theorem State.respond_assets (s : State) (t : Ticket) (j : Judgement) (b : List Byte) : (s.respond t j b).assets = s.assets := rfl
@[simp] theorem State.respond_media (s : State) (t : Ticket) (j : Judgement) (b : List Byte) : (s.respond t j b).media = s.media := rfl
@[simp] theorem State.respond_supply (s : State) (t : Ticket) (j : Judgement) (b : List Byte) : (s.respond t j b).supply = s.supply := rfl
@[simp] theorem State.respond_port (s : State) (t : Ticket) (j : Judgement) (b : List Byte) (p : Port) :
    (s.respond t j b).port p = s.port p := rfl
@[simp] theorem State.respond_motor (s : State) (t : Ticket) (j : Judgement) (b : List Byte) (p : Port) :
    (s.respond t j b).motor p = s.motor p := rfl
@[simp] theorem State.respond_pair (s : State) (t : Ticket) (j : Judgement) (b : List Byte) (k : Nat) :
    (s.respond t j b).pair k = s.pair k := rfl
@[simp] theorem State.respond_sample (s : State) (t : Ticket) (j : Judgement) (b : List Byte) (c : Chan) :
    (s.respond t j b).sample c = s.sample c := rfl
@[simp] theorem State.respond_view (s : State) (t : Ticket) (j : Judgement) (b : List Byte) (k : Link) (c : Chan) :
    (s.respond t j b).view k c = s.view k c := rfl
@[simp] theorem State.respond_watch (s : State) (t : Ticket) (j : Judgement) (b : List Byte) (k : Link) (n : Nat) :
    (s.respond t j b).watch k n = s.watch k n := rfl
@[simp] theorem State.respond_sched (s : State) (t : Ticket) (j : Judgement) (b : List Byte) (k : Link) :
    (s.respond t j b).sched k = s.sched k := rfl
@[simp] theorem State.respond_stream (s : State) (t : Ticket) (j : Judgement) (b : List Byte) (k : Link) (n : Nat) :
    (s.respond t j b).stream k n = s.stream k n := rfl
@[simp] theorem State.respond_voice (s : State) (t : Ticket) (j : Judgement) (b : List Byte) (v : VoiceId) :
    (s.respond t j b).voice v = s.voice v := rfl
@[simp] theorem State.respond_entry (s : State) (t : Ticket) (j : Judgement) (b : List Byte) (n : Nat) :
    (s.respond t j b).entry n = s.entry n := rfl
@[simp] theorem State.respond_block (s : State) (t : Ticket) (j : Judgement) (b : List Byte) (n : Nat) :
    (s.respond t j b).block n = s.block n := rfl
@[simp] theorem State.respond_now (s : State) (t : Ticket) (j : Judgement) (b : List Byte) :
    (s.respond t j b).now = s.now := rfl
@[simp] theorem State.respond_cutoff (s : State) (t : Ticket) (j : Judgement) (b : List Byte) :
    (s.respond t j b).cutoff = s.cutoff := rfl
@[simp] theorem State.respond_hubReady (s : State) (t : Ticket) (j : Judgement) (b : List Byte) :
    (s.respond t j b).hubReady = s.hubReady := rfl
@[simp] theorem State.respond_classOf (s : State) (t : Ticket) (j : Judgement) (b : List Byte) (p : Port) :
    (s.respond t j b).classOf p = s.classOf p := rfl
@[simp] theorem State.respond_active (s : State) (t : Ticket) (j : Judgement) (b : List Byte) (p : Port) :
    (s.respond t j b).active p = s.active p := rfl

@[simp] theorem State.refuse_pending (s : State) (t : Ticket) (j : Judgement) : (s.refuse t j).pending = s.pending := rfl
@[simp] theorem State.refuse_hub (s : State) (t : Ticket) (j : Judgement) : (s.refuse t j).hub = s.hub := rfl
@[simp] theorem State.refuse_pins (s : State) (t : Ticket) (j : Judgement) : (s.refuse t j).pins = s.pins := rfl
@[simp] theorem State.refuse_ports (s : State) (t : Ticket) (j : Judgement) : (s.refuse t j).ports = s.ports := rfl
@[simp] theorem State.refuse_holderI (s : State) (t : Ticket) (j : Judgement) : (s.refuse t j).holderI = s.holderI := rfl
@[simp] theorem State.refuse_motors (s : State) (t : Ticket) (j : Judgement) : (s.refuse t j).motors = s.motors := rfl
@[simp] theorem State.refuse_pairs (s : State) (t : Ticket) (j : Judgement) : (s.refuse t j).pairs = s.pairs := rfl
@[simp] theorem State.refuse_samples (s : State) (t : Ticket) (j : Judgement) : (s.refuse t j).samples = s.samples := rfl
@[simp] theorem State.refuse_views (s : State) (t : Ticket) (j : Judgement) : (s.refuse t j).views = s.views := rfl
@[simp] theorem State.refuse_sharedI (s : State) (t : Ticket) (j : Judgement) : (s.refuse t j).sharedI = s.sharedI := rfl
@[simp] theorem State.refuse_brick (s : State) (t : Ticket) (j : Judgement) : (s.refuse t j).brick = s.brick := rfl
@[simp] theorem State.refuse_brickSet (s : State) (t : Ticket) (j : Judgement) : (s.refuse t j).brickSet = s.brickSet := rfl
@[simp] theorem State.refuse_brickWork (s : State) (t : Ticket) (j : Judgement) : (s.refuse t j).brickWork = s.brickWork := rfl
@[simp] theorem State.refuse_subs (s : State) (t : Ticket) (j : Judgement) : (s.refuse t j).subs = s.subs := rfl
@[simp] theorem State.refuse_watches (s : State) (t : Ticket) (j : Judgement) : (s.refuse t j).watches = s.watches := rfl
@[simp] theorem State.refuse_scheds (s : State) (t : Ticket) (j : Judgement) : (s.refuse t j).scheds = s.scheds := rfl
@[simp] theorem State.refuse_sound (s : State) (t : Ticket) (j : Judgement) : (s.refuse t j).sound = s.sound := rfl
@[simp] theorem State.refuse_assets (s : State) (t : Ticket) (j : Judgement) : (s.refuse t j).assets = s.assets := rfl
@[simp] theorem State.refuse_media (s : State) (t : Ticket) (j : Judgement) : (s.refuse t j).media = s.media := rfl
@[simp] theorem State.refuse_supply (s : State) (t : Ticket) (j : Judgement) : (s.refuse t j).supply = s.supply := rfl
@[simp] theorem State.refuse_port (s : State) (t : Ticket) (j : Judgement) (p : Port) :
    (s.refuse t j).port p = s.port p := rfl
@[simp] theorem State.refuse_motor (s : State) (t : Ticket) (j : Judgement) (p : Port) :
    (s.refuse t j).motor p = s.motor p := rfl
@[simp] theorem State.refuse_pair (s : State) (t : Ticket) (j : Judgement) (k : Nat) :
    (s.refuse t j).pair k = s.pair k := rfl
@[simp] theorem State.refuse_sample (s : State) (t : Ticket) (j : Judgement) (c : Chan) :
    (s.refuse t j).sample c = s.sample c := rfl
@[simp] theorem State.refuse_view (s : State) (t : Ticket) (j : Judgement) (k : Link) (c : Chan) :
    (s.refuse t j).view k c = s.view k c := rfl
@[simp] theorem State.refuse_watch (s : State) (t : Ticket) (j : Judgement) (k : Link) (n : Nat) :
    (s.refuse t j).watch k n = s.watch k n := rfl
@[simp] theorem State.refuse_sched (s : State) (t : Ticket) (j : Judgement) (k : Link) :
    (s.refuse t j).sched k = s.sched k := rfl
@[simp] theorem State.refuse_stream (s : State) (t : Ticket) (j : Judgement) (k : Link) (n : Nat) :
    (s.refuse t j).stream k n = s.stream k n := rfl
@[simp] theorem State.refuse_voice (s : State) (t : Ticket) (j : Judgement) (v : VoiceId) :
    (s.refuse t j).voice v = s.voice v := rfl
@[simp] theorem State.refuse_entry (s : State) (t : Ticket) (j : Judgement) (n : Nat) :
    (s.refuse t j).entry n = s.entry n := rfl
@[simp] theorem State.refuse_block (s : State) (t : Ticket) (j : Judgement) (n : Nat) :
    (s.refuse t j).block n = s.block n := rfl
@[simp] theorem State.refuse_now (s : State) (t : Ticket) (j : Judgement) :
    (s.refuse t j).now = s.now := rfl
@[simp] theorem State.refuse_cutoff (s : State) (t : Ticket) (j : Judgement) :
    (s.refuse t j).cutoff = s.cutoff := rfl
@[simp] theorem State.refuse_hubReady (s : State) (t : Ticket) (j : Judgement) :
    (s.refuse t j).hubReady = s.hubReady := rfl
@[simp] theorem State.refuse_classOf (s : State) (t : Ticket) (j : Judgement) (p : Port) :
    (s.refuse t j).classOf p = s.classOf p := rfl
@[simp] theorem State.refuse_active (s : State) (t : Ticket) (j : Judgement) (p : Port) :
    (s.refuse t j).active p = s.active p := rfl

@[simp] theorem State.complete_pending (s : State) (t : Ticket) (b : List Byte) : (s.complete t b).pending = s.pending := rfl
@[simp] theorem State.complete_hub (s : State) (t : Ticket) (b : List Byte) : (s.complete t b).hub = s.hub := rfl
@[simp] theorem State.complete_pins (s : State) (t : Ticket) (b : List Byte) : (s.complete t b).pins = s.pins := rfl
@[simp] theorem State.complete_ports (s : State) (t : Ticket) (b : List Byte) : (s.complete t b).ports = s.ports := rfl
@[simp] theorem State.complete_holderI (s : State) (t : Ticket) (b : List Byte) : (s.complete t b).holderI = s.holderI := rfl
@[simp] theorem State.complete_motors (s : State) (t : Ticket) (b : List Byte) : (s.complete t b).motors = s.motors := rfl
@[simp] theorem State.complete_pairs (s : State) (t : Ticket) (b : List Byte) : (s.complete t b).pairs = s.pairs := rfl
@[simp] theorem State.complete_samples (s : State) (t : Ticket) (b : List Byte) : (s.complete t b).samples = s.samples := rfl
@[simp] theorem State.complete_views (s : State) (t : Ticket) (b : List Byte) : (s.complete t b).views = s.views := rfl
@[simp] theorem State.complete_sharedI (s : State) (t : Ticket) (b : List Byte) : (s.complete t b).sharedI = s.sharedI := rfl
@[simp] theorem State.complete_brick (s : State) (t : Ticket) (b : List Byte) : (s.complete t b).brick = s.brick := rfl
@[simp] theorem State.complete_brickSet (s : State) (t : Ticket) (b : List Byte) : (s.complete t b).brickSet = s.brickSet := rfl
@[simp] theorem State.complete_brickWork (s : State) (t : Ticket) (b : List Byte) : (s.complete t b).brickWork = s.brickWork := rfl
@[simp] theorem State.complete_subs (s : State) (t : Ticket) (b : List Byte) : (s.complete t b).subs = s.subs := rfl
@[simp] theorem State.complete_watches (s : State) (t : Ticket) (b : List Byte) : (s.complete t b).watches = s.watches := rfl
@[simp] theorem State.complete_scheds (s : State) (t : Ticket) (b : List Byte) : (s.complete t b).scheds = s.scheds := rfl
@[simp] theorem State.complete_sound (s : State) (t : Ticket) (b : List Byte) : (s.complete t b).sound = s.sound := rfl
@[simp] theorem State.complete_assets (s : State) (t : Ticket) (b : List Byte) : (s.complete t b).assets = s.assets := rfl
@[simp] theorem State.complete_media (s : State) (t : Ticket) (b : List Byte) : (s.complete t b).media = s.media := rfl
@[simp] theorem State.complete_supply (s : State) (t : Ticket) (b : List Byte) : (s.complete t b).supply = s.supply := rfl
@[simp] theorem State.complete_port (s : State) (t : Ticket) (b : List Byte) (p : Port) :
    (s.complete t b).port p = s.port p := rfl
@[simp] theorem State.complete_motor (s : State) (t : Ticket) (b : List Byte) (p : Port) :
    (s.complete t b).motor p = s.motor p := rfl
@[simp] theorem State.complete_pair (s : State) (t : Ticket) (b : List Byte) (k : Nat) :
    (s.complete t b).pair k = s.pair k := rfl
@[simp] theorem State.complete_sample (s : State) (t : Ticket) (b : List Byte) (c : Chan) :
    (s.complete t b).sample c = s.sample c := rfl
@[simp] theorem State.complete_view (s : State) (t : Ticket) (b : List Byte) (k : Link) (c : Chan) :
    (s.complete t b).view k c = s.view k c := rfl
@[simp] theorem State.complete_watch (s : State) (t : Ticket) (b : List Byte) (k : Link) (n : Nat) :
    (s.complete t b).watch k n = s.watch k n := rfl
@[simp] theorem State.complete_sched (s : State) (t : Ticket) (b : List Byte) (k : Link) :
    (s.complete t b).sched k = s.sched k := rfl
@[simp] theorem State.complete_stream (s : State) (t : Ticket) (b : List Byte) (k : Link) (n : Nat) :
    (s.complete t b).stream k n = s.stream k n := rfl
@[simp] theorem State.complete_voice (s : State) (t : Ticket) (b : List Byte) (v : VoiceId) :
    (s.complete t b).voice v = s.voice v := rfl
@[simp] theorem State.complete_entry (s : State) (t : Ticket) (b : List Byte) (n : Nat) :
    (s.complete t b).entry n = s.entry n := rfl
@[simp] theorem State.complete_block (s : State) (t : Ticket) (b : List Byte) (n : Nat) :
    (s.complete t b).block n = s.block n := rfl
@[simp] theorem State.complete_now (s : State) (t : Ticket) (b : List Byte) :
    (s.complete t b).now = s.now := rfl
@[simp] theorem State.complete_cutoff (s : State) (t : Ticket) (b : List Byte) :
    (s.complete t b).cutoff = s.cutoff := rfl
@[simp] theorem State.complete_hubReady (s : State) (t : Ticket) (b : List Byte) :
    (s.complete t b).hubReady = s.hubReady := rfl
@[simp] theorem State.complete_classOf (s : State) (t : Ticket) (b : List Byte) (p : Port) :
    (s.complete t b).classOf p = s.classOf p := rfl
@[simp] theorem State.complete_active (s : State) (t : Ticket) (b : List Byte) (p : Port) :
    (s.complete t b).active p = s.active p := rfl

end Sys2Proof.Machine
end

