-- ==== Sys2Proof/Laws/LinkSound.lean ====
section
/-! SUPPORT. Each operation of a Link Unit keeps the bounds of R8 to R11 and leaves a DOWN link empty. -/

namespace Sys2Proof.Machine

/-! ### One Link Unit -/

theorem LinkUnit.Bounded.queueNotice {u : LinkUnit} (h : u.Bounded) (n : Notice) : (u.queueNotice n).Bounded := by
  unfold LinkUnit.queueNotice
  split
  · rename_i hn
    exact ⟨h.entries, h.tags, h.serials, h.fresh, h.refusals, by simp; omega, h.drops⟩
  · refine ⟨h.entries, h.tags, h.serials, h.fresh, h.refusals, ?_, ?_⟩
    · have := h.notices
      simp; omega
    · simp [satAdd]

/-- The table with one stage changed has the same tags and serials. -/
theorem map_stage_keys (es : List Entry) (n : Nat) (g : Entry → EntryStage) :
    (es.map (fun e => if e.serial = n then { e with stage := g e } else e)).map (fun e => (e.tag, e.serial)) =
      es.map (fun e => (e.tag, e.serial)) := by
  rw [List.map_map]
  apply List.map_congr_left
  intro e _
  by_cases h : e.serial = n <;> simp [h]

theorem map_tag_of_keys {es fs : List Entry}
    (h : fs.map (fun e => (e.tag, e.serial)) = es.map (fun e => (e.tag, e.serial))) :
    fs.map (fun e => e.tag) = es.map (fun e => e.tag) ∧ fs.map (fun e => e.serial) = es.map (fun e => e.serial) := by
  have h1 := congrArg (List.map Prod.fst) h
  have h2 := congrArg (List.map Prod.snd) h
  simp only [List.map_map] at h1 h2
  exact ⟨h1, h2⟩

/-- The bounds rest on the tags and serials of the table, not on its stages, and on no record not named here. -/
theorem LinkUnit.Bounded.of_keys {u w : LinkUnit} (h : u.Bounded)
    (hk : w.table.map (fun e => (e.tag, e.serial)) = u.table.map (fun e => (e.tag, e.serial)))
    (hr : w.refusals ≤ 4) (hs : w.nextSerial = u.nextSerial) (hn : w.notices = u.notices) (hd : w.drops = u.drops) :
    w.Bounded := by
  obtain ⟨ht, hse⟩ := map_tag_of_keys hk
  have hl : w.table.length = u.table.length := by simpa using congrArg List.length hk
  refine ⟨by rw [hl]; exact h.entries, by rw [ht]; exact h.tags, by rw [hse]; exact h.serials, ?_, hr,
    by rw [hn]; exact h.notices, by rw [hd]; exact h.drops⟩
  intro e he
  have hm : e.serial ∈ w.table.map (fun e => e.serial) := List.mem_map_of_mem he
  rw [hse, List.mem_map] at hm
  obtain ⟨f, hf, hfe⟩ := hm
  rw [← hfe, hs]
  exact h.fresh f hf

theorem LinkUnit.Bounded.take {u : LinkUnit} (h : u.Bounded) (n : Nat) : (u.take n).Bounded :=
  h.of_keys (map_stage_keys u.table n (fun _ => .working)) h.refusals rfl rfl rfl

theorem LinkUnit.refusals_append (u : LinkUnit) (r : Ready) (es : List Entry) :
    ({ u with table := es, ready := u.ready ++ [r] } : LinkUnit).refusals =
      u.refusals + (if r.isRefusal then 1 else 0) := by
  simp only [LinkUnit.refusals, List.filter_append, List.length_append]
  by_cases h : r.isRefusal <;> simp [h]

theorem LinkUnit.Bounded.handOver {u : LinkUnit} (h : u.Bounded) (n : Nat) (j : Judgement) (b : List Byte) :
    (u.handOver n j b).Bounded := by
  unfold LinkUnit.handOver
  split
  · exact h
  · refine h.of_keys (map_stage_keys u.table n (fun _ => .answered)) ?_ rfl rfl rfl
    rw [LinkUnit.refusals_append]
    simpa [Ready.isRefusal] using h.refusals

theorem LinkUnit.Bounded.count {u : LinkUnit} (h : u.Bounded) (f : LinkCounts → LinkCounts) : (u.count f).Bounded :=
  ⟨h.entries, h.tags, h.serials, h.fresh, h.refusals, h.notices, h.drops⟩

/-- A refusal joins the refusal queue while fewer than 4 wait, and is counted otherwise (R9). -/
theorem LinkUnit.Bounded.refuse {u : LinkUnit} (h : u.Bounded) (tag : Byte) (j : Judgement) : (u.refuse tag j).Bounded := by
  unfold LinkUnit.refuse
  split
  · rename_i hr
    refine h.of_keys rfl ?_ rfl rfl rfl
    rw [LinkUnit.refusals_append]
    simp [Ready.isRefusal]; omega
  · exact h.count _

/-- A request is admitted under a TAG that no entry bears, while fewer than 8 entries stand (R7, R8). -/
theorem LinkUnit.Bounded.enrol {u : LinkUnit} (h : u.Bounded) {tag : Byte} (ht : ∀ e ∈ u.table, e.tag ≠ tag)
    (hl : u.table.length < 8) (code : ReqCode) (b : List Byte) (now : Word32) : (u.enrol tag code b now).Bounded := by
  refine ⟨by simp [LinkUnit.enrol]; omega, ?_, ?_, ?_, h.refusals, h.notices, h.drops⟩
  · simp only [LinkUnit.enrol, List.map_append, List.map_cons, List.map_nil]
    rw [List.nodup_append]
    refine ⟨h.tags, by simp, ?_⟩
    intro a ha c hc hac
    simp only [List.mem_map] at ha
    obtain ⟨e, he, rfl⟩ := ha
    simp only [List.mem_singleton] at hc
    exact ht e he (hac.trans hc)
  · simp only [LinkUnit.enrol, List.map_append, List.map_cons, List.map_nil]
    rw [List.nodup_append]
    refine ⟨h.serials, by simp, ?_⟩
    intro a ha c hc hac
    simp only [List.mem_map] at ha
    obtain ⟨e, he, rfl⟩ := ha
    simp only [List.mem_singleton] at hc
    have := h.fresh e he
    omega
  · intro e he
    simp only [LinkUnit.enrol, List.mem_append, List.mem_singleton] at he ⊢
    rcases he with he | rfl
    · exact Nat.lt_succ_of_lt (h.fresh e he)
    · exact Nat.lt_succ_self _

/-- A cleared unit is sound, UP or DOWN (R3, R14). -/
theorem LinkUnit.cleared_sound (u : LinkUnit) (up : Bool) : (u.cleared up).Bounded ∧ (u.cleared up).DownEmpty := by
  refine ⟨⟨by simp [LinkUnit.cleared, LinkUnit.reset], by simp [LinkUnit.cleared, LinkUnit.reset],
    by simp [LinkUnit.cleared, LinkUnit.reset], by simp [LinkUnit.cleared, LinkUnit.reset],
    by simp [LinkUnit.refusals, LinkUnit.cleared, LinkUnit.reset], by simp [LinkUnit.cleared, LinkUnit.reset],
    by simp [LinkUnit.cleared, LinkUnit.reset]⟩, ?_⟩
  intro _
  simp [LinkUnit.cleared, LinkUnit.reset]

/-- An UP unit meets the demand on DOWN units. -/
theorem LinkUnit.downEmpty_of_up {u : LinkUnit} (h : u.up = true) : u.DownEmpty := by
  intro hd; rw [h] at hd; cases hd

theorem LinkUnit.DownEmpty.take {u : LinkUnit} (h : u.DownEmpty) (n : Nat) : (u.take n).DownEmpty := by
  intro hd
  obtain ⟨h1, h2⟩ := h hd
  exact ⟨by simp [LinkUnit.take, h1], h2⟩

theorem LinkUnit.DownEmpty.handOver {u : LinkUnit} (h : u.DownEmpty) (n : Nat) (j : Judgement) (b : List Byte) :
    (u.handOver n j b).DownEmpty := by
  by_cases hu : u.up = true
  · apply LinkUnit.downEmpty_of_up
    unfold LinkUnit.handOver
    split <;> exact hu
  · have ht := (h (by simpa using hu)).1
    have : u.handOver n j b = u := by simp [LinkUnit.handOver, ht]
    rw [this]; exact h

/-! ### The state -/

/-- Soundness of the links rests on the Link Units alone. -/
theorem State.LinksSound.of_links {s t : State} (h : s.LinksSound) (e : t.links = s.links) : t.LinksSound := by
  intro l
  have : t.link l = s.link l := by simp [State.link, e]
  rw [this]; exact h l

theorem State.LinksSound.setLink {s : State} (h : s.LinksSound) (l : Link) {u : LinkUnit}
    (hu : u.Bounded ∧ u.DownEmpty) : (s.setLink l u).LinksSound := by
  intro k
  rw [State.setLink_link]
  split
  · exact hu
  · exact h k

theorem State.LinksSound.notify {s : State} (h : s.LinksSound) (l : Link) (b : NoticeBody) :
    (s.notify l b).LinksSound := by
  unfold State.notify
  split
  · rename_i hu
    refine h.setLink l ⟨(h l).1.queueNotice _, LinkUnit.downEmpty_of_up ?_⟩
    unfold LinkUnit.queueNotice
    split <;> exact hu
  · exact h

theorem State.LinksSound.notifyBoth {s : State} (h : s.LinksSound) (b : NoticeBody) : (s.notifyBoth b).LinksSound :=
  (h.notify .pl b).notify .tl b

theorem State.LinksSound.notifyAll {s : State} (h : s.LinksSound) (xs : List (Link × NoticeBody)) :
    (s.notifyAll xs).LinksSound := by
  unfold State.notifyAll
  induction xs generalizing s with
  | nil => exact h
  | cons x rest ih => exact ih (h.notify x.1 x.2)

theorem State.LinksSound.respond {s : State} (h : s.LinksSound) (t : Ticket) (j : Judgement) (b : List Byte) :
    (s.respond t j b).LinksSound :=
  State.LinksSound.setLink h t.link ⟨(h t.link).1.handOver _ _ _, (h t.link).2.handOver _ _ _⟩

theorem State.LinksSound.taken {s : State} (h : s.LinksSound) (l : Link) (n : Nat) : (s.taken l n).LinksSound :=
  State.LinksSound.setLink h l ⟨(h l).1.take n, (h l).2.take n⟩

/-- A request keeps the links sound when its handling does, given them sound. -/
theorem State.LinksSound.serve {s : State} (h : s.LinksSound) (l : Link) (tag : Byte) (code : ReqCode)
    {f : Ticket → List Byte → State → State} (hf : ∀ t b x, x.LinksSound → (f t b x).LinksSound) :
    (s.serve l tag code f).LinksSound := by
  unfold State.serve
  split
  · exact h
  · exact hf _ _ _ (h.taken l _)

/-- A checked request keeps the links sound when its effect does. -/
theorem State.LinksSound.check {s : State} (h : s.LinksSound) (t : Ticket) (cs : List (Bool × Judgement))
    {f : State → State} (hf : (f s).LinksSound) : (s.check t cs f).LinksSound := by
  unfold State.check
  split
  · exact h.respond t _ _
  · exact hf

end Sys2Proof.Machine
end

