-- ==== Sys2Proof/Laws/Table.lean ====
section
/-! SUPPORT. The laws of numbered tables: a read after a write, every other record unchanged, and the canonical form
kept by every operation. -/

namespace Sys2Proof.Machine

variable {α : Type}

theorem cellsGet_erase (d : α) (cs : List (Nat × α)) (k j : Nat) :
    cellsGet d (cellsErase cs k) j = if j = k then d else cellsGet d cs j := by
  induction cs with
  | nil => simp [cellsErase, cellsGet]
  | cons c rest ih =>
    obtain ⟨n, x⟩ := c
    simp only [cellsErase]
    by_cases hk : k = n
    · subst hk
      simp only [if_true, cellsGet, ih]
      split <;> rfl
    · simp only [hk, if_false, cellsGet, ih]
      by_cases hj : j = n
      · subst hj; simp [Ne.symm hk]
      · simp [hj]

theorem cellsGet_insert (d : α) (cs : List (Nat × α)) (k j : Nat) (v : α) :
    cellsGet d (cellsInsert cs k v) j = if j = k then v else cellsGet d cs j := by
  induction cs with
  | nil => simp [cellsInsert, cellsGet]
  | cons c rest ih =>
    obtain ⟨n, x⟩ := c
    simp only [cellsInsert]
    split
    · simp only [cellsGet]
    · split
      · rename_i h; subst h
        simp only [cellsGet]
        split <;> rfl
      · simp only [cellsGet, ih]
        split
        · rename_i h1 h2; subst h2; rw [if_neg (Ne.symm h1)]
        · rfl

/-- A read of a table after a write. -/
theorem Table.get_set [DecidableEq α] (d : α) (t : Table α) (k j : Nat) (v : α) :
    (t.set d k v).get d j = if j = k then v else t.get d j := by
  unfold Table.set Table.get
  split
  · rename_i hv; subst hv; exact cellsGet_erase v t.cells k j
  · exact cellsGet_insert d t.cells k j v

theorem risingFrom_mono (cs : List (Nat × α)) (a b : Nat) (hab : a ≤ b) (h : risingFrom b cs = true) :
    risingFrom a cs = true := by
  cases cs with
  | nil => rfl
  | cons c rest =>
    obtain ⟨n, x⟩ := c
    simp only [risingFrom, Bool.and_eq_true, decide_eq_true_eq] at h ⊢
    exact ⟨by omega, h.2⟩

theorem risingFrom_erase (cs : List (Nat × α)) (lo k : Nat) (h : risingFrom lo cs = true) :
    risingFrom lo (cellsErase cs k) = true := by
  induction cs generalizing lo with
  | nil => rfl
  | cons c rest ih =>
    obtain ⟨n, x⟩ := c
    simp only [risingFrom, Bool.and_eq_true, decide_eq_true_eq] at h
    simp only [cellsErase]
    split
    · exact risingFrom_mono _ lo (n + 1) (by omega) (ih (n + 1) h.2)
    · simp only [risingFrom, Bool.and_eq_true, decide_eq_true_eq]
      exact ⟨h.1, ih (n + 1) h.2⟩

theorem risingFrom_insert (cs : List (Nat × α)) (lo k : Nat) (v : α) (h : risingFrom lo cs = true) (hk : lo ≤ k) :
    risingFrom lo (cellsInsert cs k v) = true := by
  induction cs generalizing lo with
  | nil => simp [cellsInsert, risingFrom, hk]
  | cons c rest ih =>
    obtain ⟨n, x⟩ := c
    simp only [risingFrom, Bool.and_eq_true, decide_eq_true_eq] at h
    simp only [cellsInsert]
    split
    · simp only [risingFrom, Bool.and_eq_true, decide_eq_true_eq]
      exact ⟨hk, by omega, h.2⟩
    · split
      · rename_i hkn; subst hkn
        simp only [risingFrom, Bool.and_eq_true, decide_eq_true_eq]; exact h
      · simp only [risingFrom, Bool.and_eq_true, decide_eq_true_eq]
        exact ⟨h.1, ih (n + 1) h.2 (by omega)⟩

theorem mem_cellsErase (cs : List (Nat × α)) (k : Nat) (c : Nat × α) (h : c ∈ cellsErase cs k) : c ∈ cs := by
  induction cs with
  | nil => exact h
  | cons a rest ih =>
    obtain ⟨n, x⟩ := a
    simp only [cellsErase] at h
    split at h
    · exact List.mem_cons_of_mem _ (ih h)
    · rcases List.mem_cons.mp h with h | h
      · exact h ▸ List.mem_cons_self
      · exact List.mem_cons_of_mem _ (ih h)

theorem mem_cellsInsert (cs : List (Nat × α)) (k : Nat) (v : α) (c : Nat × α) (h : c ∈ cellsInsert cs k v) :
    c = (k, v) ∨ c ∈ cs := by
  induction cs with
  | nil => simpa [cellsInsert] using h
  | cons a rest ih =>
    obtain ⟨n, x⟩ := a
    simp only [cellsInsert] at h
    split at h
    · simpa using h
    · split at h
      · rcases List.mem_cons.mp h with h | h
        · exact .inl h
        · exact .inr (List.mem_cons_of_mem _ h)
      · rcases List.mem_cons.mp h with h | h
        · exact .inr (h ▸ List.mem_cons_self)
        · rcases ih h with h | h
          · exact .inl h
          · exact .inr (List.mem_cons_of_mem _ h)

theorem Table.wf_empty [DecidableEq α] (d : α) : (Table.empty : Table α).wf d = true := rfl

/-- Every write keeps the canonical form. -/
theorem Table.wf_set [DecidableEq α] (d : α) (t : Table α) (k : Nat) (v : α) (h : t.wf d = true) :
    (t.set d k v).wf d = true := by
  simp only [Table.wf, Bool.and_eq_true, List.all_eq_true, decide_eq_true_eq] at h ⊢
  unfold Table.set
  split
  · exact ⟨risingFrom_erase _ _ _ h.1, fun c hc => h.2 c (mem_cellsErase _ _ _ hc)⟩
  · rename_i hv
    refine ⟨risingFrom_insert _ _ _ _ h.1 (Nat.zero_le k), fun c hc => ?_⟩
    rcases mem_cellsInsert _ _ _ _ hc with rfl | hc
    · exact hv
    · exact h.2 c hc

theorem risingFrom_filter (cs : List (Nat × α)) (lo : Nat) (p : Nat × α → Bool) (h : risingFrom lo cs = true) :
    risingFrom lo (cs.filter p) = true := by
  induction cs generalizing lo with
  | nil => rfl
  | cons c rest ih =>
    obtain ⟨n, x⟩ := c
    simp only [risingFrom, Bool.and_eq_true, decide_eq_true_eq] at h
    rw [List.filter_cons]
    split
    · simp only [risingFrom, Bool.and_eq_true, decide_eq_true_eq]
      exact ⟨h.1, ih (n + 1) h.2⟩
    · exact ih lo (risingFrom_mono rest lo (n + 1) (by omega) h.2)

/-- Keeping some numbers keeps the canonical form. -/
theorem Table.wf_keep [DecidableEq α] (d : α) (t : Table α) (p : Nat → Bool) (h : t.wf d = true) :
    (t.keep p).wf d = true := by
  simp only [Table.wf, Bool.and_eq_true, List.all_eq_true, decide_eq_true_eq] at h ⊢
  exact ⟨risingFrom_filter _ _ _ h.1, fun c hc => h.2 c (List.mem_of_mem_filter hc)⟩

theorem risingFrom_range (f : Nat → α) (lo n : Nat) :
    risingFrom lo ((List.range' lo n).map (fun k => (k, f k))) = true := by
  induction n generalizing lo with
  | zero => rfl
  | succ n ih => simp [List.range'_succ, risingFrom, ih]

/-- A table built by a function is canonical. -/
theorem Table.wf_build [DecidableEq α] (d : α) (n : Nat) (f : Nat → α) : (Table.build d n f).wf d = true := by
  simp only [Table.wf, Table.build, Bool.and_eq_true, List.all_eq_true, decide_eq_true_eq, List.range_eq_range']
  refine ⟨risingFrom_filter _ _ _ (risingFrom_range f 0 n), fun c hc => ?_⟩
  simpa using (List.mem_filter.mp hc).2

end Sys2Proof.Machine
end

