-- ==== Sys2Proof/Laws/Pieces.lean ====
section
/-! SUPPORT. What the shared operations of the device lines, the Program Link's pins, the block table, the pins of
versions and the catalogue can do, said once. -/

namespace Sys2Proof.Machine

/-! ### Device lines (R22) -/

@[simp] theorem lineMessageOf_good (kind : Byte) (body : List Byte) : LineMessage.good (lineMessageOf kind body) = true := by
  simp [lineMessageOf, LineMessage.good]

/-- Every message that the hub sends has a correct check byte (R22). -/
theorem HubMsg.message_good (x : HubMsg) : LineMessage.good x.message = true := by
  cases x <;> exact lineMessageOf_good _ _

/-! ### The Program Link's pins (R1, R14) -/

/-- With no frame in transmission MISO carries the fill byte (R1, R14). -/
theorem State.miso_fill (s : State) (h : (s.link .pl).tx = none) : s.miso = 0 := by simp [State.miso, h]

/-- A byte that SELECT cuts off leaves the frame as it was, so that the byte is sent again, and gives no one a whole byte
(R1). -/
theorem State.plEvent_cutOff (s : State) :
    (s.plEvent .cutOff).1.links = s.links ∧ (s.plEvent .cutOff).2 = (none, none) := ⟨rfl, rfl⟩

/-- With SELECT released no byte moves (R1). -/
theorem State.plEvent_released (s : State) (mosi : Byte) (h : s.pins.select = false) :
    s.plEvent (.clocked mosi) = (s, none, none) := by
  simp [State.plEvent, h]

/-- What a byte can do to a state: nothing, or the receiver is inside a frame whose last byte came now (R4). -/
theorem State.byteReceived_cases (s : State) (l : Link) (b : Byte) :
    (((s.link l).up = false ∨ ((s.link l).receiver = .hunting ∧ b ≠ 0xC3#8)) ∧ s.byteReceived l b = s) ∨
    ((s.link l).up = true ∧ (b = 0xC3#8 ∨ (s.link l).receiver ≠ .hunting) ∧
      s.byteReceived l b = s.setLink l { s.link l with receiver := .inFrame s.now }) := by
  have same : ∀ u, u = s.link l → s.setLink l u = s := by rintro _ rfl; cases l <;> rfl
  unfold State.byteReceived
  cases hu : (s.link l).up with
  | false => exact .inl ⟨.inl rfl, by simp⟩
  | true =>
    cases hr : (s.link l).receiver with
    | inFrame t => exact .inr ⟨rfl, .inr (by simp), by simp [Receiver.take]⟩
    | hunting =>
      by_cases hb : b = 0xC3#8
      · exact .inr ⟨rfl, .inl hb, by simp [Receiver.take, hb]⟩
      · exact .inl ⟨.inr ⟨rfl, hb⟩, by simpa [Receiver.take, hb] using same _ (by rw [← hr])⟩

/-! ### The classes of the flash arbiter (R152) -/

/-- Moving the compaction steps between the classes loses no operation and adds none (R152). -/
theorem Media.mem_classify (m : Media) (o : FlashOp) :
    o ∈ m.classify.class2 ++ m.classify.class4 ↔ o ∈ m.class2 ++ m.class4 := by
  unfold Media.classify
  split <;> simp only [List.mem_append, List.mem_filter] <;> cases o.compacts <;> simp [or_comm]

/-- What `classify` leaves as it is: everything but the two classes. -/
theorem Media.classify_eq (m : Media) :
    m.classify = { m with class2 := m.classify.class2, class4 := m.classify.class4 } := by
  unfold Media.classify
  split <;> rfl

/-! ### The block table (R151) -/

/-- Writing one record of the block table. -/
theorem State.block_setBlock (s : State) (b c : Nat) (x : Block) :
    (s.setBlock b x).block c = if c = b then x else s.block c := by
  simp only [State.block, State.setBlock, Table.get_set]

/-- `t` is `s` with another Media Controller record that shows the same erase counts (R151). -/
def State.KeepsErases (s t : State) : Prop :=
  (∀ b, (t.block b).erases = (s.block b).erases) ∧ ∃ m, t = { s with media := m }

theorem State.KeepsErases.refl (s : State) : s.KeepsErases s := ⟨fun _ => rfl, s.media, rfl⟩

theorem State.KeepsErases.trans {s t u : State} (h : s.KeepsErases t) (k : t.KeepsErases u) : s.KeepsErases u := by
  obtain ⟨he, m, rfl⟩ := h
  obtain ⟨ke, n, rfl⟩ := k
  exact ⟨fun b => (ke b).trans (he b), n, rfl⟩

/-- Another state for one block keeps the erase counts. -/
theorem State.KeepsErases.setBlock (s : State) (b : Nat) (st : BlockState) :
    s.KeepsErases (s.setBlock b { s.block b with state := st }) := by
  refine ⟨fun c => ?_, _, rfl⟩
  rw [State.block_setBlock]
  split <;> simp_all

/-- An abandoned refresh changes no erase count and nothing outside the Media Controller (R154). -/
theorem State.KeepsErases.abandonRefresh (s : State) (st : BlockState) : s.KeepsErases (s.abandonRefresh st) := by
  unfold State.abandonRefresh
  split
  · exact .refl s
  · refine ⟨fun c => ?_, _, rfl⟩
    rw [State.block_setBlock, Media.classify_eq]
    split
    · rename_i h
      rw [h]
    · rfl

/-- A block that takes a state keeps its erase count, as does every other, and nothing outside the Media Controller
changes (R151, R153, R154). -/
theorem State.KeepsErases.setBlockState (s : State) (b : Nat) (st : BlockState) : s.KeepsErases (s.setBlockState b st) := by
  have last : ∀ u : State, s.KeepsErases u → s.KeepsErases (match u.media.refresh with
      | some r => if r.old = b ∧ st ≠ .live then u.abandonRefresh .freeDirty else u
      | none => u) := by
    intro u hu
    split
    · split
      · exact hu.trans (.abandonRefresh u _)
      · exact hu
    · exact hu
  unfold State.setBlockState
  apply last
  split
  · exact (State.KeepsErases.setBlock s b st).trans ⟨fun _ => rfl, _, rfl⟩
  · exact .setBlock s b st

/-- The same for a list of blocks. -/
theorem State.KeepsErases.setBlockStates (s : State) (bs : List Nat) (st : BlockState) :
    s.KeepsErases (s.setBlockStates bs st) := by
  induction bs generalizing s with
  | nil => exact .refl s
  | cons b bs ih => exact (State.KeepsErases.setBlockState s b st).trans (ih _)

@[simp] theorem State.setBlockStates_assets (s : State) (bs : List Nat) (st : BlockState) :
    (s.setBlockStates bs st).assets = s.assets := by
  obtain ⟨_, m, h⟩ := State.KeepsErases.setBlockStates s bs st
  rw [h]

/-- Withdrawing the erases of blocks that are FREE-DIRTY no longer keeps every other operation and every block (R151). -/
theorem State.mem_tidyErases (s : State) (o : FlashOp) :
    o ∈ s.tidyErases.media.class4 ↔
      o ∈ s.media.class4 ∧ ∀ b, o.work = .dirtyErase b → (s.block b).state = .freeDirty := by
  simp only [State.tidyErases, State.setWork, List.mem_filter, and_congr_right_iff]
  intro _
  split
  · rename_i h
    simp [h]
  · rename_i h
    simp only [true_iff]
    intro b hb
    exact absurd hb (h b)

/-- It changes no erase count and nothing outside the Media Controller. -/
theorem State.KeepsErases.tidyErases (s : State) : s.KeepsErases s.tidyErases := ⟨fun _ => rfl, _, rfl⟩

/-- Withdrawing the session's erase of a block keeps every other waiting operation of class 2 (R155). -/
theorem State.mem_dropSessionErase (s : State) (b : Nat) (o : FlashOp) :
    o ∈ (s.dropSessionErase b).media.class2 ↔ o ∈ s.media.class2 ∧ o.work ≠ .sessionErase b := by
  simp [State.dropSessionErase, State.setWork]

/-- It changes no erase count and nothing outside the Media Controller. -/
theorem State.KeepsErases.dropSessionErase (s : State) (b : Nat) : s.KeepsErases (s.dropSessionErase b) :=
  ⟨fun _ => rfl, _, rfl⟩

/-- An erase in progress puts its block's new erase count into flash, and no other operation does (R151). -/
theorem State.flashContent_header (s : State) (n : Nat) :
    s.flashContent = some (.header n) ↔
      ∃ o, s.media.op = some o ∧ o.kind = .erase ∧ n = nextErases o.block (s.block o.block).erases := by
  unfold State.flashContent
  cases s.media.op with
  | none => simp
  | some o =>
    have hc : o.content ≠ some (.header n) := by
      unfold FlashOp.content
      split
      · simp
      · split <;> simp
    by_cases h : o.kind = .erase
    · simp [h, eq_comm]
    · simp [h, hc]

/-! ### Pins (R143) -/

/-- After a pin of a retired version is dropped, the versions still listed are pinned (R143). -/
theorem State.unpinRetired_pinned (s : State) (holder serial : Nat) :
    ∀ r ∈ (s.unpinRetired holder serial).assets.retired, 0 < r.version.pins := by
  intro r hr
  unfold State.unpinRetired at hr
  simp only [State.setBlockStates_assets, List.mem_filter, decide_eq_true_eq] at hr
  omega

/-! ### The catalogue (R160) -/

/-- A snapshot has a header page and an end page and never needs more than 16 pages (R160). -/
theorem snapshotPages_bounds (x : SnapshotImage) : 2 ≤ snapshotPages x ∧ snapshotPages x ≤ 16 := by
  unfold snapshotPages
  omega

/-- The snapshot sequence stays a 32-bit number (R160). -/
theorem nextSequence_le (n : Nat) : nextSequence n ≤ max32 := by
  unfold nextSequence
  split
  · have := (Config.sequencePastMax n).isLt
    simp only [max32]
    omega
  · omega

end Sys2Proof.Machine
end

