-- ==== Sys2Proof/Laws/Samples.lean ====
section
/-! SUPPORT. What a sample does to the views of its channel (R86 to R89): the operations of the model are those in whose
terms the claims stand. -/

namespace Sys2Proof.Machine

/-- Stages 1 to 3 of R86 on one value. -/
theorem View.stages_eq (v : View) (internal : Bool) (k : Nat) (x : Int) (b : Bool) :
    v.stages internal k x b =
      ((v.passed internal k x b).2.1, (v.passed internal k x b).2.2, (v.passed internal k x b).1) := by
  have range : v.rangeOf k = if k < 3 then (v.accelRange : Int) else 10 * (v.gyroRange : Int) := by
    simp only [View.rangeOf]; split <;> split <;> first | rfl | omega
  cases internal <;> simp [View.stages, View.passed, clamp, viewMax, FilterState.unseeded, range, Bool.or_assoc]

/-- The chain over a sample, by index. -/
theorem View.chain_eq (v : View) (internal : Bool) (xs : List Int) : ∀ (k : Nat) (cs : List Bool),
    v.chain internal k xs cs = (List.range xs.length).map (fun i =>
      let r := v.passed internal (k + i) (xs.getD i 0) (cs.getD i false)
      (r.2.1, r.2.2, r.1)) := by
  induction xs with
  | nil => intro k cs; rfl
  | cons x xs ih =>
    intro k cs
    rw [View.chain, ih, View.stages_eq, List.length_cons, List.range_succ_eq_map, List.map_cons, List.map_map]
    congr 1
    · cases cs <;> rfl
    · refine List.map_congr_left fun i _ => ?_
      cases cs <;> simp [Nat.add_assoc, Nat.add_comm 1]

/-- Which ports take part in the control period (R65). -/
theorem State.driven_iff (s : State) (p : Port) : s.driven p = true ↔ (s.port p).state = .active ∧
    ((s.port p).device.map (fun d => d.kind) = some .motor ∨ (s.port p).device.map (fun d => d.kind) = some .plainMotor ∨
      (s.port p).device.map (fun d => d.kind) = some .lamp) := by
  simp only [State.driven, State.active, State.classOf, Bool.and_eq_true, beq_iff_eq]
  refine and_congr_right fun _ => ?_
  rcases (s.port p).device with _ | d
  · simp
  · cases h : d.kind <;> simp [h]

/-- The phase and motion number of a port (R89). -/
theorem State.stampOf_eq (s : State) (p : Port) : s.stampOf p = s.stamped p := by
  have h := s.driven_iff p
  simp only [State.stampOf, State.stamped, State.queuePort]
  cases hb : (s.motor p).pair.bind s.pair <;> cases hm : (s.motor p).state <;>
    simp only [h, and_true, and_false, if_false, reduceCtorEq, ite_self]

/-- When the next sample is an output (R88). -/
theorem View.due_iff (v : View) (us : Nat) : v.due us = true ↔ v.counter = 0 ∨ v.every us ≤ v.counter := decide_eq_true_iff

/-- The counter as the test of R88 reads it is 0 exactly at an output. -/
theorem View.counterAt_every (v : View) (us : Nat) : v.counterAt (v.every us) = if v.due us then 0 else v.counter := by
  unfold View.counterAt
  by_cases h : v.due us = true <;> simp only [h, if_true, if_false, Bool.false_eq_true] <;> rw [View.due_iff] at h <;>
    split <;> omega

/-- One view takes the sample that stands. -/
theorem State.viewTake_eq (s : State) (l : Link) (c : Chan) : s.viewTake l c = s.viewTaken l c := by
  have stamp : s.stampOf = s.stamped := funext s.stampOf_eq
  simp only [State.viewTake, State.viewTaken, View.chain_eq, List.map_map, List.length_map, List.length_range, stamp,
    Nat.zero_add]
  split
  · rfl
  · generalize s.view l c = v
    generalize s.sample c = x
    simp only [show divisor v.interval x.interval = v.every x.interval from rfl, v.counterAt_every]
    cases h : v.due x.interval
    · have n : v.counter ≠ 0 := fun k => by rw [(v.due_iff x.interval).2 (.inl k)] at h; cases h
      simp only [n, h, View.taken, if_false, Bool.false_eq_true]
      rfl
    · simp only [h, View.taken, if_true, Nat.zero_add]
      rfl

/-- A channel's sample is the record, then PL's view, then TL's. -/
theorem State.takeSample_eq (s : State) (c : Chan) (mode : Option Nat) (values : List Int) (clipped : List Bool)
    (interval : Nat) : s.takeSample c mode values clipped interval =
      s.sampleTaken c ⟨mode, nextNumber (s.sample c).sequence, s.now, values, clipped, interval⟩ := by
  simp only [State.takeSample, State.sampleTaken, State.viewTake_eq]

end Sys2Proof.Machine
end

