-- ==== Sys2Proof/Tests/Slice0.lean ====
section
/-! SUPPORT. Tests: the checks of WellFormed refuse an ill-formed command each; small steps with results taken from the
rules; and, for each statement with hypotheses, a state and operands that meet them (theorems `test_witness_…`). -/

set_option maxRecDepth 20000

namespace Sys2Proof.Tests

open Sys2Proof Sys2Proof.Machine

/-! ### The bench: a small READY hub -/

/-- A Link Unit that is UP and holds nothing. -/
def upUnit : LinkUnit := { LinkUnit.reset with up := true, nextSerial := 1 }

/-- A motor of 720 counts per revolution and 1,000 degrees per second, size M. -/
def motorDevice : DeviceRecord := ⟨.motor, 48, 7, ⟨false, true, false, false, false⟩, 100, [], some ⟨720, 1000, 1⟩⟩

/-- A sensor with an int8 mode of one value (0 to 100 shown as 0 to 1,000) and an int16 mode of two. -/
def sensorDevice : DeviceRecord :=
  ⟨.sensor, 61, 9, ⟨false, true, false, true, false⟩, 50,
    [⟨1, 1, 0, 0, 100, 0, 1000, 0, 10⟩, ⟨2, 2, 1, -100, 100, -100, 100, 0, 20⟩], none⟩

/-- A device that detect level 1 or 2 names (R20). -/
def bareDevice (k : DeviceClass) : DeviceRecord := ⟨k, 0, 0, ⟨false, false, false, false, false⟩, 0, [], none⟩

/-- An ACTIVE port with this device, generation 1. -/
def activePort (d : DeviceRecord) (level : Level) (line : LineSpeed) : PortRec :=
  { PortRec.reset with state := .active, detect := level, device := some d, generation := 1, line := line }

/-- A 3,000-byte DATA version in block 20, and a factory clip of 5,000 bytes in block 9. -/
def dataVersion : VersionImage := ⟨4, .data, .none, 3000, [(20, 1)]⟩
def clipVersion : VersionImage := ⟨1, .sound, .u8at16k, 5000, [(9, 1)]⟩

/-- A READY hub: motors on A and B, a sensor on C, a plain motor on D, a lamp on E, nothing on F; asset 5 is a factory
clip, asset 200 holds data and asset 300 is another name of it; the catalogue is in ring block 0. -/
def bench : State :=
  { State.reset with
    hub := { HubRec.reset with state := .ready, step := 0, time := 1000 }
    links := ⟨upUnit, upUnit⟩
    pins := { Pins.quiet with detect := ⟨.level3, .level3, .level3, .level1, .level2, .openCircuit⟩ }
    ports := ⟨activePort motorDevice .level3 .b9600, activePort motorDevice .level3 .b9600,
      { activePort sensorDevice .level3 .b115200 with
        mode := some 0, interval := some 10000, sentInterval := some 10000, superviseMs := 10, lastData := 990 },
      activePort (bareDevice .plainMotor) .level1 .closed, activePort (bareDevice .lamp) .level2 .closed, .reset⟩
    motors := { State.reset.motors with
      a := { Motor.reset with gains := some ⟨150, 20, true⟩ }, b := { Motor.reset with gains := some ⟨150, 20, true⟩ } }
    assets := { AssetMap.reset with directory := ⟨[(5, ⟨.present ⟨clipVersion, 0, 0⟩, .fixed, 1, false, false⟩),
      (200, ⟨.present ⟨dataVersion, 0, 0⟩, .opened, 4, true, false⟩), (300, ⟨.aliasOf 200, .opened, 0, false, false⟩)]⟩ }
    media := { Media.reset with
      store := some .ready, ring := some 0, sequence := 1, pagesUsed := 16
      blocks := ⟨Media.reset.blocks.cells ++ [(9, ⟨.factory, 0⟩), (20, ⟨.live, 3⟩)]⟩ }
    supply := ⟨[7200, 7200, 7200, 7200, 7200, 7200, 7200, 7200], some 7200, some .normal, 0⟩ }

/-- The state with one request waiting for its owner under TAG 1, and nothing else outstanding. -/
def ask (s : State) (l : Link) (code : ReqCode) (body : List Byte) : State :=
  s.setLink l { upUnit with table := [⟨1#8, code, 0, s.hub.time, .routed body⟩] }

/-- The one response that is ready on a link: its judgement and its body. -/
def reply (l : Link) (o : Host.Outcome State Fault Refusal) : Option (Judgement × List Byte) :=
  match o with
  | .next t => match (t.link l).ready with
    | [.response _ _ _ j body] => some (j, body)
    | _ => none
  | _ => none

/-- The next state of an outcome. -/
def after (o : Host.Outcome State Fault Refusal) : Option State :=
  match o with
  | .next t => some t
  | _ => none

theorem sound_upUnit : upUnit.Bounded ∧ upUnit.DownEmpty := by
  refine ⟨⟨by decide, by decide, by decide, by simp [upUnit, LinkUnit.reset], by decide, by decide, by decide⟩, ?_⟩
  intro h; cases h

/-- Each request stated of a request that waits has a state in which it does. -/
theorem ask_waits {s : State} (h : s.links = ⟨upUnit, upUnit⟩) (l : Link) (code : ReqCode) (body : List Byte) :
    (ask s l code body).Waits l 1#8 code 0 body := by
  have hb : ({ upUnit with table := [⟨1#8, code, 0, s.hub.time, .routed body⟩] } : LinkUnit).Bounded ∧
      ({ upUnit with table := [⟨1#8, code, 0, s.hub.time, .routed body⟩] } : LinkUnit).DownEmpty := by
    refine ⟨⟨by simp, by simp, by simp, by simp [upUnit], sound_upUnit.1.refusals,
      sound_upUnit.1.notices, sound_upUnit.1.drops⟩, ?_⟩
    intro h; cases h
  refine ⟨fun k => ?_, ?_⟩
  · cases l <;> cases k <;> simp only [ask, State.setLink, State.link, PerLink.set, PerLink.get, h] <;>
      first | exact hb | exact sound_upUnit
  · cases l <;> simp [ask, State.setLink, State.link, PerLink.set, PerLink.get, LinkUnit.routed]

/-- What `f` reads of the next state. -/
def got {α : Type} (f : State → α) (o : Host.Outcome State Fault Refusal) : Option α := (after o).map f

/-- The bytes that numbers below 256 stand for. -/
def bytes (ns : List Nat) : List Byte := ns.map (BitVec.ofNat 8)

/-- A device-line message with this many body bytes and a correct check byte. -/
def msg (n : Nat) : LineMessage := lineMessageOf 0x40#8 (List.replicate n 1#8)

/-! ### WellFormed: each check refuses an ill-formed command -/

def refuses (cs : List Instr) : Bool := cs.all (fun c => !c.wf)

def badVersions : List VersionImage :=
  [⟨0, .data, .none, 1, [(20, 1)]⟩, ⟨65536, .data, .none, 1, [(20, 1)]⟩, ⟨1, .data, .none, 0, [(20, 1)]⟩,
    ⟨1, .data, .none, 8388609, [(20, 65)]⟩, ⟨1, .data, .none, 1, []⟩, ⟨1, .data, .none, 1, List.replicate 65 (20, 1)⟩,
    ⟨1, .data, .none, 1, [(1023, 2)]⟩, ⟨1, .data, .none, 131073, [(20, 1)]⟩]

def blankRing : RingImage := ⟨none, false, [], [], [], 0, [], false⟩

/-- A replay of one given ring block and seven blank ones. -/
def replayOf (r : RingImage) : Instr := .catalogueReplay (r :: List.replicate 7 blankRing)

theorem test_wf_memory : refuses [.memoryTest (.patternFault 4294967296 0 0), .memoryTest (.patternFault 0 4294967296 0),
    .memoryTest (.patternFault 0 0 4294967296), .memoryTest (.addressFault 4294967296 0 0),
    .memoryTest (.addressFault 0 4294967296 0), .memoryTest (.addressFault 0 0 4294967296)] = true := by decide

theorem test_wf_flash : refuses [.flashIdentification (.notIdentified 4294967296),
    .flashIdentification (.unreadable 4294967296 0), .flashIdentification (.unreadable 0 1024),
    .flashIdentification (.scanned [⟨some 0, false⟩])] = true := by decide

theorem refuses_scan (n : Nat) :
    refuses [.flashIdentification (.scanned (List.replicate (n + 1) ⟨some 4294967296, false⟩))] = true := by
  simp [refuses, Instr.wf, natBits]

/-- 1,024 blocks, each with an erase count of 33 bits. -/
theorem test_wf_scan_count : refuses [.flashIdentification (.scanned
    (List.replicate 1024 ⟨some 4294967296, false⟩))] = true := refuses_scan 1023

theorem test_wf_factory_index : refuses ([.factoryIndexRead (.index [(128, clipVersion)]),
    .factoryIndexRead (.unreadable 64), .factoryIndexRead (.checkFailed 64)] ++
    badVersions.map (fun v => .factoryIndexRead (.index [(5, v)]))) = true := by decide

theorem test_wf_ring : refuses ([.catalogueReplay [blankRing], replayOf ⟨none, true, [], [], [], 1, [], false⟩,
    replayOf ⟨some 4294967296, true, [], [], [], 1, [], false⟩, replayOf ⟨some 0, true, [], [1024], [], 1, [], false⟩,
    replayOf ⟨some 0, true, [], [], [1024], 1, [], false⟩, replayOf ⟨some 0, true, [], [], [], 17, [], false⟩,
    replayOf ⟨some 0, true, [], [], [], 16, List.replicate 49 (.bad 20), false⟩] ++
    ([⟨127, .absent, .opened, false, 0⟩, ⟨1024, .absent, .opened, false, 0⟩, ⟨128, .absent, .opened, false, 65536⟩,
      ⟨128, .aliasOf 1024, .opened, false, 0⟩, ⟨128, .present ⟨0, .data, .none, 1, [(20, 1)]⟩, .opened, false, 0⟩] :
        List EntryImage).map (fun e => replayOf ⟨some 0, true, [e], [], [], 1, [], false⟩)) = true := by decide

theorem test_wf_records : refuses (([.commit 127 dataVersion, .commit 1024 dataVersion,
    .commit 128 ⟨0, .data, .none, 1, [(20, 1)]⟩, .delete 127, .delete 1024, .redirect 127 5, .redirect 1024 5,
    .redirect 128 1024, .protect 127 .opened, .protect 1024 .opened, .marksClear [127], .marksClear [1024], .remap 1024 0,
    .remap 0 1024, .bad 1024, .spareTaken 1024] : List CatRecord).map (fun r =>
      replayOf ⟨some 0, true, [], [], [], 1, [r], false⟩)) = true := by decide

theorem test_wf_frames : refuses [.overlength .pl 3#16, .overlength .pl 523#16] = true := by decide

theorem refuses_body (n : Nat) : refuses [.frameReceived .pl 1#8 0#8 1#8 (List.replicate n 0#8) 0#16] = !decide (n ≤ 520) := by
  simp [refuses, Instr.wf]

theorem test_wf_body : refuses [.frameReceived .pl 1#8 0#8 1#8 (List.replicate 521 0#8) 0#16] = true :=
  (refuses_body 521).trans (by decide)

theorem test_wf_identity : refuses (([{ sensorDevice with typeNumber := 65536 }, { sensorDevice with serial := 4294967296 },
    { sensorDevice with supplyDemand := 65536 }, { motorDevice with motor := some ⟨65536, 1000, 1⟩ },
    { motorDevice with motor := some ⟨720, 65536, 1⟩ }, { motorDevice with motor := some ⟨720, 1000, 256⟩ }] ++
    ([⟨256, 1, 0, 0, 1, 0, 1, 0, 1⟩, ⟨0, 256, 0, 0, 1, 0, 1, 0, 1⟩, ⟨0, 1, 256, 0, 1, 0, 1, 0, 1⟩,
      ⟨0, 1, 0, -2147483649, 1, 0, 1, 0, 1⟩, ⟨0, 1, 0, 0, 2147483648, 0, 1, 0, 1⟩, ⟨0, 1, 0, 0, 1, -2147483649, 1, 0, 1⟩,
      ⟨0, 1, 0, 0, 1, 0, 2147483648, 0, 1⟩, ⟨0, 1, 0, 0, 1, 0, 1, 256, 1⟩, ⟨0, 1, 0, 0, 1, 0, 1, 0, 65536⟩] :
        List ModeRecord).map (fun m => { sensorDevice with modes := [m] })).map (fun d =>
      .deviceIdentity .c d (msg 40))) = true := by decide

theorem test_wf_others : refuses [.deviceData .c 256 [] (msg 10), .deviceData .c 0 [2147483648] (msg 10),
    .deviceData .c 0 [-2147483649] (msg 10), .deviceData .c 0 [1, 2] (msg 2), .deviceNotReady .c (msg 1),
    .deviceAck .c (msg 1), .deviceIdentity .c sensorDevice (msg 2), .watchFired .pl 8, .verifyComplete [none, none, none],
    .verifyComplete [some 5, none, none, none], .pageReadComplete ⟨[none, none, none], List.replicate 2048 0#8⟩,
    .pageReadComplete ⟨[some 0, some 0, some 0, some 0], [0#8]⟩, .refillComplete ⟨[none, none, none, some 5], List.replicate 2048 0#8⟩,
    .refillComplete ⟨[some 0, some 0, some 0, some 0], [0#8]⟩, .supplyReading 65536] = true := by decide

theorem test_wf_accepts : ([.memoryTest (.patternFault 4294967295 0 1), .overlength .pl 2#16, .overlength .pl 524#16,
    .deviceIdentity .c sensorDevice (msg 40), .deviceIdentity .a motorDevice (msg 40), .watchFired .tl 7,
    .factoryIndexRead (.index [(127, clipVersion)]), replayOf ⟨some 3, true, [⟨200, .present dataVersion, .opened, true, 4⟩],
      [30], [31], 3, [.redirect 300 200], true⟩, .verifyComplete [some 4, none, some 0, some 2], .supplyReading 65535] :
    List Instr).all Instr.wf = true := by decide

/-! ### Resets and start-up (chapter 11) -/

/-- A hub in one start-up step. -/
def inStep (n : Nat) : State := { State.reset with hub := { HubRec.reset with step := n } }

theorem test_powerOn : got (fun t => (t.hub, t.pins)) (exec .powerOn bench) = some (HubRec.reset, bench.pins) := by decide

theorem test_resetAsserted : got (fun t => (t.hub.held, (t.link .pl).up, (t.port .a).line))
    (exec .resetAsserted bench) = some (true, false, .closed) := by decide

theorem test_resetReleased : got (fun t => t.hub) (exec .resetReleased
    { bench with hub := { bench.hub with held := true } }) = some HubRec.reset := by decide

theorem test_memoryTest : got (fun t => t.hub) (exec (.memoryTest .pass) State.reset) = some { HubRec.reset with step := 2 } ∧
    got (fun t => (t.hub.state, t.hub.fail)) (exec (.memoryTest (.addressFault 16 1 2)) State.reset) =
      some (.failed, ⟨some .memory, 2, [16, 1, 2], [.memory]⟩) := by decide

theorem test_driverCheck : got (fun t => (t.hub.step, t.hub.driverFaults, t.hub.fail)) (exec .driverCheck
    { inStep 2 with pins := { Pins.quiet with fault := ⟨true, false, true, false, false, false⟩ } }) =
      some (3, [.a, .c], ⟨some .driver, 1, [5], [.driver]⟩) := by decide

theorem test_flashIdentification : got (fun t => (t.hub.state, t.media.store, t.hub.fail))
    (exec (.flashIdentification (.notIdentified 7)) (inStep 4)) =
      some (.ready, some .offline, ⟨some .flash, 1, [7], [.flash]⟩) := by decide

theorem test_factoryIndexRead : got (fun t => (t.hub.step, t.entry 5, (t.block 9).state))
    (exec (.factoryIndexRead (.index [(5, clipVersion)])) (inStep 5)) =
      some (6, ⟨.present ⟨clipVersion, 0, 0⟩, .fixed, 1, false, false⟩, .factory) := by decide

theorem test_catalogueReplay : got (fun t => (t.hub.state, t.media.store, t.media.ring, t.entry 300))
    (exec (replayOf ⟨some 3, true, [⟨300, .absent, .opened, true, 4⟩], [30], [], 3, [.redirect 300 200], false⟩) (inStep 6)) =
      some (.ready, some .ready, some 0, ⟨.aliasOf 200, .opened, 4, true, false⟩) := by decide

theorem test_catalogueReplay_none : got (fun t => (t.hub.state, t.media.store, t.hub.fail.major))
    (exec (.catalogueReplay (List.replicate 8 blankRing)) (inStep 6)) =
      some (.ready, some .offline, some .catalogue) := by decide

/-! ### The step and the links (chapter 1) -/

theorem test_step_front : got (fun t => (t.pins.hold, t.pending)) (step { bench with pending := [.holdRises, .holdFalls] }) =
    some (true, [.holdFalls]) := by decide

theorem test_step_idle : got (fun t => t.hub.time) (step bench) = some 1001 ∧
    got (fun t => t.hub.time) (step { bench with hub := { bench.hub with time := 0xFFFFFFFF#32 } }) = some 0 ∧
    got (fun t => t.hub.time) (step { bench with hub := { bench.hub with held := true } }) = some 1000 := by decide

/-- R5's worked example, and the HUB STATUS request of a fresh link written byte by byte. -/
theorem test_check : crc16 (bytes [0x31, 0x32, 0x33, 0x34, 0x35, 0x36, 0x37, 0x38, 0x39]) = 0x29B1#16 ∧
    frameCore 1#8 5#8 2#8 [7#8] = bytes [4, 0, 1, 5, 2, 7] := by decide

/-- CheckAndCodeTables: bytes of no row, and the first and last rows. -/
theorem test_codes : [0x00#8, 0x04#8, 0x5F#8, 0xFF#8].all (fun b => (reqOf b).isNone) = true ∧
    reqOf 0x01#8 = some .hubStatus ∧ reqOf 0x5E#8 = some .formatUser := by decide

theorem test_linkUp : got (fun t => ((t.link .pl).up, t.pins.enable.pl, (t.sched .pl).queues.q0.origin))
    (exec (.linkUp .pl) State.reset) = some (true, true, some 0) := by decide

theorem test_linkDown : got (fun t => ((t.link .pl).up, (t.link .pl).table, (t.link .tl).up))
    (exec (.linkDown .pl) (ask bench .pl .halt [])) = some (false, [], true) := by decide

theorem test_holdRises : got (fun t => t.pins.hold) (exec .holdRises bench) = some true := by decide

theorem test_holdFalls : got (fun t => t.pins.hold) (exec .holdFalls
    { bench with pins := { bench.pins with hold := true } }) = some false := by decide

/-- 2 and 524 are the lengths nearest the legal ones. -/
theorem test_overlength : [2#16, 524#16].all (fun n =>
    decide (got (fun t => (t.link .tl).counts.overlength) (exec (.overlength .tl n) bench) = some 1)) = true := by decide

/-- C3H begins a frame at 1,000 ms; inside one begun at 990 ms any byte is the last one received, and the fragment is due 21
ms after it; 00H while HUNTING is discarded. -/
theorem test_syncByteReceived : got (fun t => (t.link .pl).receiver) (exec (.syncByteReceived ⟨.pl, 0xC3#8⟩) bench) =
      some (.inFrame 1000) ∧
    (let framed := bench.setLink .pl { upUnit with receiver := .inFrame 990 }
    [0xC3#8, 0#8].map (fun b => got (fun t => ((t.link .pl).receiver, got (fun u => u.hub.time) (exec (.fragmentTimeout .pl) t)))
      (exec (.syncByteReceived ⟨.pl, b⟩) framed)) = [some (.inFrame 1000, some 1021), some (.inFrame 1000, some 1021)]) ∧
    got (fun t => decide (t = bench)) (exec (.syncByteReceived ⟨.pl, 0#8⟩) bench) = some true := by decide

/-- A CLAIM PORT frame with its right check is admitted; with a wrong check it is counted. -/
theorem test_frameReceived : got (fun t => ((t.link .pl).table, (t.link .pl).counts.received))
      (exec (.frameReceived .pl 1#8 9#8 0x11#8 [0#8, 0#8] (crc16 (frameCore 1#8 9#8 0x11#8 [0#8, 0#8]))) bench) =
        some ([⟨9#8, .claimPort, 1, 1000, .routed [0#8, 0#8]⟩], 1) ∧
    got (fun t => ((t.link .pl).table, (t.link .pl).counts.checkErrors))
      (exec (.frameReceived .pl 1#8 9#8 0x11#8 [0#8, 0#8] (crc16 (frameCore 1#8 9#8 0x11#8 [0#8, 0#8]) + 1)) bench) =
        some ([], 1) := by decide

/-- The refusals of R7: TAG IN USE, UNKNOWN REQUEST, and NOT READY while the hub starts. -/
theorem test_frameReceived_refused :
    [(ask bench .pl .halt [], 0x11#8), (bench, 0xFF#8), ({ bench with hub := { bench.hub with state := .starting } }, 2#8)].map
      (fun x => got (fun t => (t.link .pl).ready)
        (exec (.frameReceived .pl 1#8 1#8 x.2 [] (crc16 (frameCore 1#8 1#8 x.2 []))) x.1)) =
    [some [.refusal 1#8 .tagInUse], some [.refusal 1#8 .unknownRequest], some [.refusal 1#8 .notReady]] := by decide

/-- The gap of 20 ms is no end of frame; 21 ms is, and is where an earlier command moves hub time. -/
theorem test_fragmentTimeout : got (fun t => ((t.link .tl).receiver, (t.link .tl).counts.fragments, t.hub.time))
    (exec (.fragmentTimeout .tl) (bench.setLink .tl { upUnit with receiver := .inFrame 979 })) =
      some (.hunting, 1, 1000) ∧
    got (fun t => t.hub.time) (exec (.fragmentTimeout .tl) (bench.setLink .tl { upUnit with receiver := .inFrame 990 })) =
      some 1011 := by decide

theorem test_badStopBit : got (fun t => ((t.link .tl).receiver, (t.link .tl).counts.fragments))
    (exec .badStopBit (bench.setLink .tl { upUnit with receiver := .inFrame 1000 })) = some (.hunting, 1) := by decide

/-- A refusal NOT READY (14) on TAG 3: a RESPONSE of LENGTH 3. -/
theorem test_transmitArbiterChoose : got (fun t => (t.link .pl).tx.map (fun x => x.bytes.take 6))
    (exec (.transmitArbiterChoose .pl) (bench.setLink .pl { upUnit with ready := [.refusal 3#8 .notReady] })) =
      some (some (bytes [0xC3, 3, 0, 2, 3, 14])) ∧
    got (fun t => (t.link .tl).tx) (exec (.transmitArbiterChoose .tl) { bench.setLink .tl
      { upUnit with ready := [.refusal 3#8 .notReady] } with pins := { bench.pins with hold := true } }) = some none := by
  decide

/-- FrameSentEnds: a byte clocked on a Program Link with nothing to send brings 00H and is taken inside the frame begun at 990
ms; one clocked with two bytes left leaves the second. -/
theorem test_clockedByte :
    let s := { bench with pins := { bench.pins with select := true } }
    let framed := s.setLink .pl { upUnit with receiver := .inFrame 990, tx := some ⟨.notice, [5#8, 6#8]⟩ }
    (let x := s.plEvent (.clocked 0xC3#8)
    ((x.1.link .pl).receiver, x.2) = (.inFrame 1000, some 0#8, some 0xC3#8)) ∧
    (let x := framed.plEvent (.clocked 7#8)
    ((x.1.link .pl).receiver, (x.1.link .pl).tx, x.2) =
      (.inFrame 1000, some ⟨.notice, [6#8]⟩, some 5#8, some 7#8)) := by decide

theorem test_frameSent : got (fun t => ((t.link .pl).tx, (t.link .pl).ready, (t.link .pl).counts.refused))
    (exec (.frameSent .pl) (bench.setLink .pl { upUnit with
      ready := [.refusal 3#8 .notReady], tx := some ⟨.refusal, []⟩ })) = some (none, [], 1) := by decide

/-- RequestJudged, admission: the first and the last free entry of the table, and HUB STATUS while the hub starts. -/
theorem test_witness_admitted :
    (bench.link .pl).up = true ∧ bench.hub.state = .ready ∧ (bench.link .pl).table.length = 0 ∧
    reqOf 0x11#8 = some .claimPort ∧ reqOf 1#8 = some .hubStatus ∧
    (let u := { upUnit with table := (List.range 7).map (fun k => ⟨BitVec.ofNat 8 k, .halt, k, 0, .working⟩) }
    u.table.length = 7 ∧ ∀ e ∈ u.table, e.tag ≠ 9#8) := by decide

/-- RequestJudged, refusal: each judgement at its boundary, the last place of the refusal queue and the first beyond it. -/
theorem test_witness_refused :
    (let u := { upUnit with table := (List.range 8).map (fun k => ⟨BitVec.ofNat 8 k, .halt, k, 0, .working⟩) }
    u.table.length = 8 ∧ (∀ e ∈ u.table, e.tag ≠ 9#8) ∧ ∃ e ∈ u.table, e.tag = 7#8) ∧
    [3, 4].map (fun k => ((List.replicate k (Ready.refusal 1#8 .busy)).filter Ready.isRefusal).length) = [3, 4] ∧
    (inStep 6).hub.state = .starting ∧
    ({ bench with hub := { bench.hub with state := .failed } }).hub.state = .failed := by decide

/-- ReceiverEvents: lengths 2 and 524, gaps of 21 ms, a wrong check, a DOWN link. -/
theorem test_witness_receiver :
    (bench.link .pl).up = true ∧ (2#16).toNat < 3 ∧ 523 < (524#16).toNat ∧
    crc16 (frameCore 1#8 0#8 0#8 []) + 1 ≠ crc16 (frameCore 1#8 0#8 0#8 []) ∧ (State.reset.link .pl).up = false ∧
    20 < ((1000#32) - 979#32).toNat ∧ (State.reset.link .tl).receiver = .hunting := by decide

/-- NoticeQueue: with 15 notices one joins, with 16 the oldest goes. -/
theorem test_noticeQueue :
    let x := fun (k : Nat) => (⟨.supplyChanged .low .normal k, 0⟩ : Notice)
    let held := fun (k : Nat) => (bench.setLink .tl { upUnit with notices := (List.range k).map x }).notify .tl
      (.supplyChanged .low .normal 99)
    (((held 15).link .tl).notices.length, ((held 15).link .tl).drops) = (16, 0) ∧
    ((held 16).link .tl).notices = ((List.range 15).map (fun k => x (k + 1))) ++ [⟨.supplyChanged .low .normal 99, 1000⟩] ∧
    (((held 16).link .tl).drops, ((held 16).link .tl).counts.noticesDropped) = (1, 1) := by decide

/-- A rate queue waits: the REPORT class is taken only when nothing of the classes before it is ready. -/
def rateWaits (q : QueueId) : State :=
  let r := fun (k : QueueId) => (⟨100, some 0, decide (k = q)⟩ : RateQueue)
  bench.setSched .pl { Scheduler.reset with
    queues := ⟨r .q0, r .q1, r .q2, r .q3⟩
    streams := ⟨[(2, ⟨true, q, [.port .c], true⟩)]⟩ }

/-- ArbiterOrder: each class alone, and each rate queue alone. -/
theorem test_witness_arbiter :
    (∀ q, got (fun t => (t.sched .pl).service.map (fun x => (x.queue, x.frames.map (fun f => f.stream))))
      (exec (.transmitArbiterChoose .pl) (rateWaits q)) = some (some (q, [2]))) ∧
    got (fun t => (t.link .pl).tx.map (fun x => x.source)) (exec (.transmitArbiterChoose .pl) ((rateWaits .q0).notify .pl
      (.supplyChanged .low .normal 5900))) = some (some .notice) ∧
    got (fun t => (t.link .pl).tx) (exec (.transmitArbiterChoose .pl) bench) = some none := by
  refine ⟨fun q => ?_, by decide, by decide⟩
  cases q <;> decide

/-- FrameSentEnds: a frame of each source ends. -/
theorem test_witness_sent :
    let s := fun (x : TxSource) => (ask bench .pl .halt []).setLink .pl
      { (ask bench .pl .halt []).link .pl with ready := [.response 0 1#8 .halt .normalCompletion []], tx := some ⟨x, []⟩ }
    got (fun t => ((t.link .pl).table, (t.link .pl).ready, (t.link .pl).counts.accepted))
      (exec (.frameSent .pl) (s (.response 0 .halt .normalCompletion))) = some ([], [], 1) ∧
    got (fun t => ((t.link .pl).tx, (t.link .pl).ready.length)) (exec (.frameSent .pl) (s .notice)) = some (none, 1) ∧
    (let r := (rateWaits .q2).setSched .pl { Scheduler.reset with service := some ⟨.q2, [⟨2, []⟩]⟩ }
    got (fun t => ((t.sched .pl).service, (t.sched .pl).slowMark, (t.link .pl).counts.reportsSent)) (exec (.frameSent .pl)
      (r.setLink .pl { upUnit with tx := some ⟨.report .q2, []⟩ })) = some (none, .q3, 1)) := by decide

/-- LinkGoesUpAndDown: neither link held by RESET, one up and one down, no HUB RESET pending. -/
theorem test_witness_links : bench.hub.held = false ∧ (bench.link .pl).up = true ∧ (State.reset.link .pl).up = false ∧
    State.reset.hub.held = false ∧ bench.hub.resetPending = false := by decide

/-- LinkCountsAnswered: read, read and clear, another link's clear, and the first illegal fields. -/
theorem test_linkCounts :
    let s := fun (b : List Byte) => ask bench .tl .linkCounts b
    (∀ b, (s b).Waits .tl 1#8 .linkCounts 0 b) ∧
    ([[1#8, 0#8], [1#8, 1#8], [0#8, 0#8]].map (fun b =>
        (reply .tl (exec (.linkCounts .tl 1#8) (s b))).map (fun x => (x.1, x.2.length)))) =
      [some (.normalCompletion, 65), some (.normalCompletion, 65), some (.normalCompletion, 65)] ∧
    ([[0#8, 1#8], [2#8, 0#8], [0#8, 2#8], [0#8]].map (fun b => reply .tl (exec (.linkCounts .tl 1#8) (s b)))) =
      [some (.linkNotPermitted, []), some (.parameterError, []), some (.parameterError, []),
        some (.parameterError, [])] :=
  ⟨fun _ => ask_waits rfl .., by decide, by decide⟩

/-! ### Ports and attached devices (chapter 2) -/

/-- The judgement of one request on the bench, sent on PL. -/
def judged (s : State) (code : ReqCode) (c : Link → Byte → Instr) (b : List Nat) : Option Judgement :=
  (reply .pl (exec (c .pl 1#8) (ask s .pl code (bytes b)))).map (fun x => x.1)

/-- The bench with PL the holder of every port. -/
def held : State := { bench with
  ports := ⟨{ bench.ports.a with holder := some .pl }, { bench.ports.b with holder := some .pl },
    { bench.ports.c with holder := some .pl }, { bench.ports.d with holder := some .pl },
    { bench.ports.e with holder := some .pl }, bench.ports.f⟩ }

/-- ClaimAndRelease: ports 0, 5 (EMPTY) and 6, port 7, generations 1 and 2, the other link's port. -/
theorem test_claimPort :
    (∀ b, (ask bench .pl .claimPort b).Waits .pl 1#8 .claimPort 0 b) ∧
    [[0, 1], [4, 0], [6, 1], [5, 0], [7, 0], [0, 2], [6, 2], [0]].map (judged bench .claimPort .claimPort) =
      [some .normalCompletion, some .normalCompletion, some .normalCompletion, some .portError, some .portError,
        some .deviceMismatch, some .deviceMismatch, some .parameterError] ∧
    judged (bench.setPort .a { bench.ports.a with holder := some .tl }) .claimPort .claimPort [0, 0] =
      some .heldByOtherLink := ⟨fun _ => ask_waits rfl .., by decide, by decide⟩

theorem test_releasePort :
    (∀ b, (ask held .pl .releasePort b).Waits .pl 1#8 .releasePort 0 b) ∧ (∀ p, held.Unpaired p) ∧
    got (fun t => (t.port .a).holder) (exec (.releasePort .pl 1#8) (ask held .pl .releasePort [0#8, 1#8])) = some none ∧
    judged bench .releasePort .releasePort [0, 1] = some .sequenceError := by
  refine ⟨fun _ => ask_waits rfl .., fun p => ?_, by decide, by decide⟩
  cases p <;> simp [held, bench, State.Unpaired, State.motor, PerPort.get, Motor.reset, State.reset, State.fresh, PerPort.all]

/-- SelectModeTaken: mode 1 of two, the first mode there is not, and the refusals of devices and pending modes. -/
theorem test_selectMode :
    (∀ b, (ask bench .pl .selectMode b).Waits .pl 1#8 .selectMode 0 b) ∧
    got (fun t => ((t.port .c).pendingMode.map (fun w => w.mode), (t.port .c).sent, (t.port .c).holder))
      (exec (.selectMode .pl 1#8) (ask bench .pl .selectMode [2#8, 1#8, 1#8])) =
        some (some 1, [.selectMode 1], some .pl) ∧
    [[2, 1, 2], [2, 1, 8], [0, 1, 0], [5, 0, 0]].map (judged bench .selectMode .selectMode) =
      [some .parameterError, some .parameterError, some .deviceMismatch, some .portError] :=
  ⟨fun _ => ask_waits rfl .., by decide, by decide⟩

/-- PortInfoAnswered: a port with two mode records is 40 + 22 × 2 bytes, an EMPTY port 23, port I 40. -/
theorem test_portInfo :
    (∀ b, (ask bench .pl .portInfo b).Waits .pl 1#8 .portInfo 0 b) ∧
    [0, 2, 5, 6, 7].map (fun n => (reply .pl (exec (.portInfo .pl 1#8) (ask bench .pl .portInfo (bytes [n])))).map
      (fun x => (x.1, x.2.length))) = [some (.normalCompletion, 40), some (.normalCompletion, 84),
        some (.normalCompletion, 23), some (.normalCompletion, 40), some (.portError, 0)] ∧
    (bench.port .f).device = none ∧ (bench.port .c).device = some sensorDevice :=
  ⟨fun _ => ask_waits rfl .., by decide, rfl, rfl⟩

/-- PortResetAnswered: a port in FAULT at each detect level, and with its driver fault asserted. -/
def faulty (level : Level) (fault : Bool) : State := { bench with
  ports := { bench.ports with f := { PortRec.reset with state := .fault, detect := .level3, fault := some .overload } }
  pins := { bench.pins with
    detect := bench.pins.detect.set .f level, fault := bench.pins.fault.set .f fault } }

theorem test_portReset :
    (∀ b, (ask (faulty .level3 false) .pl .portReset b).Waits .pl 1#8 .portReset 0 b) ∧
    [(Level.openCircuit, false), (.level1, false), (.level1, true)].map (fun x => got (fun t => (t.port .f).state)
      (exec (.portReset .pl 1#8) (ask (faulty x.1 x.2) .pl .portReset [5#8, 0#8]))) =
        [some .empty, some .settling, some .fault] ∧
    [[5, 0], [6, 0], [0, 2]].map (judged bench .portReset .portReset) =
      [some .portError, some .portError, some .deviceMismatch] ∧
    got (fun t => ((t.port .c).state, (t.port .c).device)) (exec (.portReset .pl 1#8)
      (ask bench .pl .portReset [2#8, 1#8])) = some (.settling, none) :=
  ⟨fun _ => ask_waits rfl .., by decide, by decide, by decide⟩

theorem test_detectChange :
    got (fun t => ((t.port .f).state, (t.port .f).detect, (t.port .f).waitFrom)) (exec (.detectChange .f .level1) bench) =
      some (.settling, .level1, 1000) ∧
    got (fun t => ((t.port .a).state, (t.port .a).device)) (exec (.detectChange .a .openCircuit) bench) =
      some (.empty, none) ∧
    got (fun t => ((t.port .f).state, t.pins.detect.f)) (exec (.detectChange .f .level1) State.reset) =
      some (.empty, .level1) := by decide

/-- Port F in SETTLING at a level, for 100 ms. -/
def settled (level : Level) : State := bench.setPort .f
  { PortRec.reset with state := .settling, detect := level, waitFrom := 900 }

theorem test_debounceExpiry :
    got (fun t => ((t.port .f).state, (t.port .f).generation, t.classOf .f)) (exec (.debounceExpiry .f) (settled .level2)) =
      some (.active, 1, some .lamp) ∧
    got (fun t => ((t.port .f).state, (t.port .f).stage, (t.port .f).line, (t.port .f).sent)) (exec (.debounceExpiry .f)
      (settled .level3)) = some (.identifying, some .enquiring, .b2400, [.enquire]) := by decide

/-- DetectionAndDebounce: with the fault input asserted an EMPTY port is in FAULT at once, and PORT CHANGED tells of it; a lamp
that attaches has PORT CHANGED, no current mode and a cleared sample record and outputs. -/
theorem test_attachOfALamp :
    got (fun t => (t.port .f, t.link .tl)) (exec (.detectChange .f .level1) { bench with
      pins := { bench.pins with fault := ⟨false, false, false, false, false, true⟩ } }) =
      some ({ PortRec.reset with state := .fault, fault := some .overload, detect := .level1, waitFrom := 1000 },
        { upUnit with notices := [⟨.portChanged .f .fault .settling 0 .level1 none 1, 1000⟩] }) ∧
    (let s := { settled .level2 with samples := (bench.setSample (.port .f) ⟨some 1, 7, 5, [1], [true], 9⟩).samples }
    got (fun t => ((t.port .f).mode, t.sample (.port .f), (t.view .tl (.port .f)).output, (t.link .tl).notices))
      (exec (.debounceExpiry .f) s) =
      some (none, ⟨none, 0, 0, [0, 0, 0, 0], [false, false, false, false], 5000⟩,
        ⟨[0, 0, 0, 0], 0, 0, [false, false, false, false], none, none⟩,
        [⟨.portChanged .f .active .settling 1 .level2 (some (.lamp, 0)) 0, 1000⟩])) ∧
    (settled .level2).hub.held = false := by decide

/-- DetectionAndDebounce: an EMPTY port, a SETTLING port whose 100 ms have just run, and a hub that is not READY. -/
theorem test_witness_detection :
    bench.hub.state = .ready ∧ (bench.port .f).state = .empty ∧ bench.pins.detect.get .f ≠ .level1 ∧
    bench.pins.fault.get .f = false ∧ ((settled .level1).port .f).state = .settling ∧
    (settled .level1).pins.detect.get .f ≠ .level2 ∧
    100 ≤ ((settled .level1).hub.time - ((settled .level1).port .f).waitFrom).toNat ∧
    (settled .level1).hub.held = false ∧ State.reset.hub.state ≠ .ready := by decide

/-- Port F in IDENTIFYING. -/
def ident (stage : IdentStage) (d : Option DeviceRecord) (second : Bool) : State := bench.setPort .f
  { PortRec.reset with
    state := .identifying, detect := .level3, stage := some stage, line := .b2400, device := d
    identFrom := 0, enquiredAt := 950, waitFrom := 900, secondWait := second }

theorem test_deviceLineGapTimeout : got (fun t => (t.port .f).counts) (exec (.deviceLineGapTimeout .f)
    (ident .enquiring none false)) = some ⟨0, 1, 0, 0⟩ := by decide

theorem test_deviceNotReady :
    got (fun t => ((t.port .f).counts, (t.port .f).stage)) (exec (.deviceNotReady .f (msg 0)) (ident .enquiring none false)) =
      some (⟨1, 0, 0, 0⟩, some .enquiring) ∧
    got (fun t => (t.port .f).counts) (exec (.deviceNotReady .f (msg 0)) (ident .speed (some sensorDevice) false)) =
      some ⟨1, 0, 1, 0⟩ := by decide

/-- The highest speed of a sensor with 9,600 and 115,200 is asked for; a supply demand of 151 mA rejects. -/
theorem test_deviceIdentity :
    got (fun t => ((t.port .f).stage, (t.port .f).sent)) (exec (.deviceIdentity .f sensorDevice (msg 40))
      (ident .enquiring none false)) = some (some .speed, [.speed .b115200]) ∧
    got (fun t => ((t.port .f).state, (t.port .f).reject)) (exec (.deviceIdentity .f
      { sensorDevice with supplyDemand := 151 } (msg 40)) (ident .enquiring none false)) =
        some (.rejected, some .supplyDemand) := by decide

theorem test_deviceAck :
    got (fun t => ((t.port .f).stage, (t.port .f).line, (t.port .f).sent.head?)) (exec (.deviceAck .f (msg 0))
      (ident .speed (some sensorDevice) false)) = some (some .firstData, .b115200, some (.selectMode 0)) ∧
    got (fun t => ((t.port .f).state, t.classOf .f)) (exec (.deviceAck .f (msg 0))
      (ident .speed (some motorDevice) false)) = some (.active, some .motor) := by decide

/-- Raw 50 of 0 to 100 is 500 of 0 to 1,000; raw 120 is outside and clips at 1,000. -/
theorem test_deviceData :
    [50, 120].map (fun v => got (fun t => ((t.sample (.port .c)).values, (t.sample (.port .c)).clipped))
      (exec (.deviceData .c 0 [v] (msg 10)) bench)) = [some ([500], [false]), some ([1000], [true])] ∧
    got (fun t => ((t.port .f).state, (t.port .f).mode)) (exec (.deviceData .f 0 [1] (msg 10))
      (ident .firstData (some sensorDevice) false)) = some (.active, some 0) := by decide

theorem test_enquirePoll : got (fun t => ((t.port .f).sent, (t.port .f).enquiredAt)) (exec (.enquirePoll .f)
    (ident .enquiring none false)) = some ([.enquire], 1000) := by decide

theorem test_identDeadlineExpiry : got (fun t => ((t.port .f).state, (t.port .f).fault)) (exec (.identDeadlineExpiry .f)
    (ident .enquiring none false)) = some (.fault, some .identTimeout) := by decide

theorem test_speedAckTimeout : [false, true].map (fun second => got (fun t => ((t.port .f).state, (t.port .f).sent))
    (exec (.speedAckTimeout .f) (ident .speed (some motorDevice) second))) =
      [some (.identifying, [.speed .b9600]), some (.fault, [])] := by decide

theorem test_firstDataTimeout : [false, true].map (fun second => got (fun t => ((t.port .f).state, (t.port .f).fault))
    (exec (.firstDataTimeout .f) (ident .firstData (some sensorDevice) second))) =
      [some (.identifying, none), some (.fault, some .silent)] := by decide

/-- IdentificationMessages and IdentificationTimers: each stage, its times run out, a closed line, records that R25
takes and rejects, and each place at which the first shared speed can stand. -/
theorem test_witness_ident :
    bench.hub.held = false ∧ (bench.port .f).line = .closed ∧ (bench.port .f).stage ≠ some .enquiring ∧
    [IdentStage.enquiring, .speed, .firstData].map (fun g => ((ident g none true).port .f).stage) =
      [some .enquiring, some .speed, some .firstData] ∧
    50 ≤ ((1000#32) - 950#32).toNat ∧ 1000 ≤ ((1000#32) - 0#32).toNat ∧ 100 ≤ ((1000#32) - 900#32).toNat ∧
    (sensorDevice.kind = .sensor ∧ sensorDevice.motor = none ∧ sensorDevice.modes.length = 2 ∧
      ∀ m ∈ sensorDevice.modes, 1 ≤ m.count ∧ m.count ≤ 8 ∧ m.format ≤ 2 ∧ m.rawMin < m.rawMax ∧
        -(2 ^ (8 * 2 ^ m.format - 1) : Int) ≤ m.rawMin ∧ m.rawMax ≤ 2 ^ (8 * 2 ^ m.format - 1) - 1 ∧
        m.scaledMin ≠ m.scaledMax ∧ 1 ≤ m.minInterval) ∧
    (motorDevice.motor = some ⟨720, 1000, 1⟩ ∧ motorDevice.modes = []) ∧
    [⟨true, true, true, true, true⟩, ⟨true, true, true, true, false⟩, ⟨true, true, true, false, false⟩,
      ⟨true, true, false, false, false⟩, ⟨true, false, false, false, false⟩].map (fun (x : SpeedSet) =>
        [x.b460800, x.b115200, x.b57600, x.b9600].idxOf true) = [0, 1, 2, 3, 4] := by decide

/-- Port C 140 ms after its last DATA (4 × 10 + 100), with and without a nudge, and with a pending mode. -/
def quiet (nudged : Option Word32) (w : Option PendingMode) (second : Bool) : State := bench.setPort .c
  { bench.ports.c with
    lastData := 860, nudgedAt := nudged, pendingMode := w, waitFrom := 900, secondWait := second
    silentRetry := false, healthyFrom := 0 }

theorem test_nudge : got (fun t => ((t.port .c).sent, (t.port .c).nudgedAt, (t.port .c).counts.nudges)) (exec (.nudge .c)
    (quiet none none false)) = some ([.nudge], some 1000, 1) := by decide

/-- The first silence identifies again; a second in a row is a fault. -/
theorem test_silentPath : got (fun t => ((t.port .c).state, (t.port .c).silentRetry)) (exec (.silentPath .c)
      (quiet (some 800) none false)) = some (.identifying, true) ∧
    got (fun t => ((t.port .c).state, (t.port .c).fault)) (exec (.silentPath .c) ((quiet (some 800) none false).setPort .c
      { (quiet (some 800) none false).ports.c with silentRetry := true })) = some (.fault, some .silent) := by decide

theorem test_silentRetryClear : got (fun t => (t.port .c).silentRetry) (exec (.silentRetryClear .c)
    ({ bench with hub := { bench.hub with time := 10000 } }.setPort .c { bench.ports.c with silentRetry := true })) =
      some false := by decide

/-- The second 100 ms of a mode change end it: DEVICE TIMEOUT. -/
theorem test_modeChangeTimeout :
    got (fun t => ((t.port .c).sent, (t.port .c).secondWait)) (exec (.modeChangeTimeout .c)
      (quiet none (some ⟨1, ⟨.pl, 0⟩⟩) false)) = some ([.selectMode 1], true) ∧
    reply .pl (exec (.modeChangeTimeout .c) ((quiet none (some ⟨1, ⟨.pl, 0⟩⟩) true).setLink .pl
      { upUnit with table := [⟨1#8, .selectMode, 0, 0, .working⟩] })) = some (.deviceTimeout, []) := by decide

/-- SupervisionOfASensor: each time just run out, DATA in the mode, in another and in the old mode of a change. -/
theorem test_witness_supervision :
    (bench.port .c).device = some sensorDevice ∧ (bench.port .c).line ≠ .closed ∧ (bench.port .c).mode = some 0 ∧
    (let r := (quiet none none false).port .c
    r.pendingMode = none ∧ r.nudgedAt = none ∧ 4 * r.superviseMs + 100 ≤ ((1000#32) - r.lastData).toNat ∧
      10000 ≤ ((10000#32) - r.healthyFrom).toNat) ∧
    100 ≤ ((1000#32) - ((quiet none (some ⟨1, ⟨.pl, 0⟩⟩) false).port .c).waitFrom).toNat ∧
    sensorDevice.modes[0]?.map (fun x => x.count) = some 1 ∧ sensorDevice.modes[1]?.map (fun x => x.count) ≠ some 1 := by
  decide

theorem test_driverFault : got (fun t => ((t.port .a).state, (t.port .a).fault, t.pins.fault.a)) (exec (.driverFault .a true)
    bench) = some (.fault, some .overload, true) := by decide

/-- DepartureOfAPort: ACTIVE unpaired ports, 200 ms after a nudge, and a port already in FAULT. -/
theorem test_witness_departure :
    (bench.port .c).state = .active ∧ (∀ p, held.Unpaired p) ∧ bench.pins.detect.get .c ≠ .openCircuit ∧
    200 ≤ ((1000#32) - 800#32).toNat ∧ (bench.port .f).state = .empty ∧ ((faulty .level3 true).port .f).state = .fault :=
  ⟨rfl, test_releasePort.2.1, by decide, by decide, rfl, rfl⟩

/-! ### Motor channels, motion commands and the control loop (chapters 3 and 4) -/

/-- A command of port A. -/
def cmd (k : MoveKind) (amount : Int) (e : EndAction) (st : StallPolicy) : Command :=
  ⟨.pl, 7, k, 50, 0, amount, 300, e, st, none⟩

/-- The bench with a RUNNING command on port A. -/
def running (c : Command) (waiting : List Command) (f : Motor → Motor) : State := held.setMotor .a
  (f { held.motors.a with state := .running, active := some c, waiting := waiting, counter := 7 })

/-- MOVE SPEED 50 % on a motor of 1,000 × 720 / 360 = 2,000 counts/s: 1,000 counts/s, in steps of 34 over 300 ms. -/
theorem test_move : got (fun t => ((t.motor .a).profile.vt, (t.motor .a).profile.dv, (t.motor .a).state, (t.port .a).holder))
      (exec (.move .pl 1#8) (ask bench .pl .move (bytes [0, 1, 0, 50, 0, 0, 0, 0, 0xFF, 0xFF, 0, 0, 0]))) =
        some (1000, 34, .running, some .pl) ∧
    reply .pl (exec (.move .pl 1#8) (ask bench .pl .move (bytes [0, 1, 0, 50, 0, 0, 0, 0, 0xFF, 0xFF, 0, 0, 0]))) =
      some (.normalCompletion, [1#8, 0#8]) := by decide

/-- MoveAccepted: every kind, at the last legal fields and the first illegal ones, queued or at once. -/
theorem test_witness_move :
    (∀ s b, s.links = ⟨upUnit, upUnit⟩ → (ask s .pl .move b).Waits .pl 1#8 .move 0 b) ∧ (∀ p, held.Unpaired p) ∧
    [[0, 1, 0, 0, 0, 0, 0, 0, 0, 0, 2, 1, 0], [0, 1, 1, 50, 90, 0, 0, 0, 0, 0, 0, 0, 0],
      [0, 1, 2, 50, 90, 0, 0, 0, 0, 0, 0, 0, 1], [0, 1, 3, 50, 0x80, 0xEE, 0x36, 0, 0, 0, 0, 0, 0],
      [3, 1, 4, 0, 0x10, 0x27, 0, 0, 0, 0, 1, 9, 0]].map (judged bench .move .move) =
        List.replicate 5 (some .normalCompletion) ∧
    [[0, 1, 5, 50, 0, 0, 0, 0, 0, 0, 0, 0, 0], [0, 1, 3, 50, 0x81, 0xEE, 0x36, 0, 0, 0, 0, 0, 0],
      [0, 1, 3, 50, 0, 0, 0, 0, 0, 0, 0, 0, 0], [0, 1, 1, 0, 0, 0, 0, 0, 0, 0, 0, 0, 0],
      [3, 1, 0, 50, 0, 0, 0, 0, 0, 0, 0, 0, 0], [2, 1, 0, 50, 0, 0, 0, 0, 0, 0, 0, 0, 0]].map (judged bench .move .move) =
        [some .parameterError, some .parameterError, some .parameterError, some .parameterError, some .deviceMismatch,
          some .deviceMismatch] ∧
    judged (running (cmd .speed 0 .coast .fail) [] id) .move .move [0, 1, 1, 50, 90, 0, 0, 0, 0, 0, 0, 0, 1] =
      some .sequenceError ∧
    [3, 4].map (fun k => judged (running (cmd .degrees 90 .coast .fail) (List.replicate k (cmd .degrees 90 .coast .fail)) id)
      .move .move [0, 1, 1, 50, 90, 0, 0, 0, 0, 0, 0, 0, 1]) = [some .normalCompletion, some .queueFull] := by
  refine ⟨fun _ _ h => ask_waits h .., test_releasePort.2.1, by decide, by decide, by decide, by decide⟩

/-- HALT ends the active and the waiting command. -/
theorem test_halt :
    reply .pl (exec (.halt .pl 1#8) (ask (running (cmd .degrees 90 .coast .fail) [cmd .time 100 .brake .fail] id) .pl .halt
      (bytes [0, 1, 1]))) = some (.normalCompletion, [2#8]) ∧
    got (fun t => ((t.motor .a).state, (t.motor .a).active)) (exec (.halt .pl 1#8) (ask (running
      (cmd .degrees 90 .coast .fail) [] id) .pl .halt (bytes [0, 1, 1]))) = some (.braked, none) ∧
    judged bench .halt .halt [3, 1, 2] = some .deviceMismatch := by decide

theorem test_setZero :
    got (fun t => ((t.motor .a).position, (t.motor .a).history.h0)) (exec (.setZero .pl 1#8)
      (ask (bench.setMotor .a { bench.motors.a with position := 30, history := ⟨30, 29, 28, 27, 26⟩ }) .pl .setZero
        (bytes [0, 1]))) = some (0, 0) ∧
    judged (running (cmd .degrees 90 .coast .fail) [] id) .setZero .setZero [0, 1] = some .busy := by decide

/-- Feedforward 2 restores the gains of size class M; Kp and Ki are checked with every feedforward. -/
theorem test_setGains :
    got (fun t => (t.motor .a).gains) (exec (.setGains .pl 1#8) (ask bench .pl .setGains
      (bytes [0, 1, 0xE8, 3, 0xF4, 1, 1]))) = some (some ⟨1000, 500, true⟩) ∧
    got (fun t => (t.motor .a).gains) (exec (.setGains .pl 1#8) (ask bench .pl .setGains (bytes [0, 1, 9, 9, 9, 9, 2]))) =
      some (some ⟨150, 20, true⟩) ∧
    [[0, 1, 0xE9, 3, 0, 0, 0], [0, 1, 0, 0, 0xF5, 1, 0], [0, 1, 0, 0, 0, 0, 3], [0, 1, 0xE9, 3, 0, 0, 2]].map
      (judged bench .setGains .setGains) = List.replicate 4 (some .parameterError) := by decide

theorem test_motorState :
    (reply .pl (exec (.motorState .pl 1#8) (ask (running (cmd .degrees 90 .coast .fail) [cmd .degrees 90 .coast .fail] id)
      .pl .motorState (bytes [0, 1])))).map (fun x => (x.1, x.2.length)) = some (.normalCompletion, 32) ∧
    judged bench .motorState .motorState [2, 1] = some .deviceMismatch := by decide

/-- HaltZeroGains and MotorStateAnswered: the requests wait, and the ports are unpaired motors of size M. -/
theorem test_witness_motor :
    (∀ s c b, s.links = ⟨upUnit, upUnit⟩ → (ask s .pl c b).Waits .pl 1#8 c 0 b) ∧ (∀ p, held.Unpaired p) ∧
    bench.motorPart .a = some ⟨720, 1000, 1⟩ ∧ (bench.port .a).state = .active :=
  ⟨fun _ _ _ h => ask_waits h .., test_releasePort.2.1, rfl, rfl⟩

/-- The bench with A and B as pair 2, held by PL. -/
def paired : State :=
  ((held.setMotor .a { held.motors.a with pair := some 2 }).setMotor .b { held.motors.b with pair := some 2 }).setPair 2
    (some ⟨.a, .b, 60, .pl⟩)

/-- PairsBoundAndFreed: A lag limit of 0 is 720 / 12 = 60 counts; the last pair entry, and none left. -/
theorem test_pairBind :
    (∀ b, (ask bench .pl .pairBind b).Waits .pl 1#8 .pairBind 0 b) ∧
    got (fun t => (t.pair 0, (t.motor .b).pair)) (exec (.pairBind .pl 1#8) (ask bench .pl .pairBind
      (bytes [0, 1, 1, 1, 0, 0]))) = some (some ⟨.a, .b, 60, .pl⟩, some 0) ∧
    [[0, 1, 0, 1, 0, 0], [0, 1, 5, 0, 0, 0], [0, 2, 1, 1, 0, 0], [0, 1, 3, 1, 0, 0]].map (judged bench .pairBind .pairBind) =
      [some .parameterError, some .portError, some .deviceMismatch, some .deviceMismatch] ∧
    judged paired .pairBind .pairBind [0, 1, 1, 1, 0, 0] = some .portPaired ∧
    (let x := some (⟨.c, .d, 1, .tl⟩ : Pair)
    judged ((bench.setPair 0 x).setPair 1 x) .pairBind .pairBind [0, 1, 1, 1, 0, 0] = some .normalCompletion ∧
      judged (((bench.setPair 0 x).setPair 1 x).setPair 2 x) .pairBind .pairBind [0, 1, 1, 1, 0, 0] = some .queueFull) :=
  ⟨fun _ => ask_waits rfl .., by decide, by decide, by decide, by decide⟩

theorem test_pairUnbind :
    (∀ b, (ask paired .pl .pairUnbind b).Waits .pl 1#8 .pairUnbind 0 b) ∧
    got (fun t => (t.pair 2, (t.motor .a).pair)) (exec (.pairUnbind .pl 1#8) (ask paired .pl .pairUnbind [2#8])) =
      some (none, none) ∧
    [[0], [3]].map (judged paired .pairUnbind .pairUnbind) = [some .parameterError, some .parameterError] ∧
    paired.pair 2 = some ⟨.a, .b, 60, .pl⟩ ∧ paired.pair 0 = none := ⟨fun _ => ask_waits rfl .., by decide, by decide, by decide, by decide⟩

/-- PairMoveStarts: speeds 50 and −100 make the second port lead; at equal speeds the first leads. -/
theorem test_pairMove :
    (∀ b, (ask paired .pl .pairMove b).Waits .pl 1#8 .pairMove 0 b) ∧
    got (fun t => ((t.motor .a).state, (t.motor .b).state, (t.motor .b).profile.vt, (t.motor .a).active.map (fun c => c.number)))
      (exec (.pairMove .pl 1#8) (ask paired .pl .pairMove (bytes [2, 0, 50, 0x9C, 0, 0, 0, 0, 0, 0, 0, 0, 0]))) =
        some (.running, .running, 2000, some 1) ∧
    got (fun t => (t.motor .a).profile.vt)
      (exec (.pairMove .pl 1#8) (ask paired .pl .pairMove (bytes [2, 1, 50, 50, 90, 0, 0, 0, 0, 0, 0, 0, 0]))) = some 1000 ∧
    [[2, 2, 50, 50, 0, 0, 0, 0, 0, 0, 0, 0, 0], [2, 4, 50, 50, 0, 0, 0, 0, 0, 0, 0, 0, 0], [0, 0, 1, 1, 0, 0, 0, 0, 0, 0, 0, 0, 0],
      [2, 1, 0, 0, 90, 0, 0, 0, 0, 0, 0, 0, 0]].map (judged paired .pairMove .pairMove) =
        List.replicate 4 (some .parameterError) ∧
    paired.motorPart .a = some ⟨720, 1000, 1⟩ ∧ (paired.motor .a).active = none ∧ (paired.motor .b).state ≠ .running :=
  ⟨fun _ => ask_waits rfl .., by decide, by decide, by decide, rfl, rfl, by decide⟩

/-- PairDissolved: a pair whose holder releases or halts one of its ports. -/
theorem test_witness_dissolved :
    (∀ c b, (ask paired .pl c b).Waits .pl 1#8 c 0 b) ∧
    (paired.pair 2 = some ⟨.a, .b, 60, .pl⟩ ∧ (paired.motor .a).pair = some 2 ∧ (paired.motor .b).pair = some 2 ∧
      (paired.motor .b).waiting = [] ∧ (paired.port .a).state = .active ∧ (paired.port .a).generation = 1 ∧
      (paired.port .a).holder = some .pl ∧ (paired.port .b).holder = some .pl ∧ paired.supply.state = some .normal) ∧
    got (fun t => (t.pair 2, (t.motor .b).pair)) (exec (.releasePort .pl 1#8) (ask paired .pl .releasePort (bytes [1, 1]))) =
      some (none, none) ∧
    [0, 1, 2].map (fun e => got (fun t => ((t.motor .a).state, (t.motor .b).pair)) (exec (.halt .pl 1#8)
      (ask paired .pl .halt (bytes [1, 0, e])))) = [some (.free, some 2), some (.braked, some 2), some (.holding, some 2)] :=
  ⟨fun _ _ => ask_waits rfl .., by decide, by decide, by decide⟩

/-- A TIME command of 100 ms has run its 20 periods once the 21st is counted. -/
theorem test_timeRunEnd : [20, 21].map (fun k => got (fun t => (t.motor .a).profile.rampDown) (exec (.timeRunEnd .a)
    (running (cmd .time 100 .coast .fail) [] (fun m => { m with profile := { m.profile with elapsed := k } })))) =
      [some false, some true] := by decide

theorem test_settleDone : [2, 3].map (fun k => got (fun t => ((t.motor .a).state, (t.motor .a).holdTarget)) (exec (.settleDone .a)
    (running (cmd .degrees 90 .hold .fail) [] (fun m => { m with profile := { m.profile with
      settling := true, inTol := k, target := 180 } })))) = [some (.running, none), some (.holding, some 180)] := by decide

theorem test_settleTimeout : [79, 80].map (fun k => got (fun t => ((t.motor .a).state, (t.motor .a).active)) (exec (.settleTimeout .a)
    (running (cmd .degrees 90 .brake .fail) [] (fun m => { m with profile := { m.profile with
      settling := true, settleTimer := k } })))) =
        [some (.running, some (cmd .degrees 90 .brake .fail)), some (.braked, none)] := by decide

/-- A stall with policy FAIL ends every command; with policy END the waiting command starts. -/
theorem test_stallRecognised :
    [99, 100].map (fun k => got (fun t => ((t.motor .a).state, (t.link .pl).notices.length)) (exec (.stallRecognised .a)
      (running (cmd .speed 0 .brake .fail) [] (fun m => { m with stallTimer := k })))) =
        [some (.running, 0), some (.free, 1)] ∧
    got (fun t => ((t.motor .a).state, (t.motor .a).active)) (exec (.stallRecognised .a) (running (cmd .degrees 90 .brake .finish)
      [cmd .speed 0 .coast .fail] (fun m => { m with stallTimer := 100 }))) =
        some (.running, some (cmd .speed 0 .coast .fail)) := by decide

/-- CommandsEndByThemselves and NextCommandStarts: unpaired ports with an active command, counters at their limits. -/
theorem test_witness_ends :
    (∀ c w f, (∀ m : Motor, (f m).pair = m.pair ∧ (f m).active = m.active ∧ (f m).waiting = m.waiting) →
      c.pair = none → (∀ x ∈ w, x.pair = none) → (running c w f).Unpaired .a) ∧ held.hub.held = false ∧
    (∀ k e p, (cmd .speed k e p).pair = none) ∧ ((cmd .time 100 .coast .fail).amount.toNat + 4) / 5 = 20 ∧
    held.motorPart .a = some ⟨720, 1000, 1⟩ := by
  refine ⟨fun c w f h hc hw => ?_, rfl, fun _ _ _ => rfl, by decide, rfl⟩
  simp only [running, State.Unpaired, State.motor, State.setMotor, PerPort.set, PerPort.get, h]
  refine ⟨rfl, fun x hx => ?_, hw⟩
  cases hx; exact hc

/-- CommandStart: kinds and states with a start by request; a move of no length and one of 180 counts. -/
theorem test_witness_start :
    (∀ k, (cmd k 90 .hold .fail).pair = none) ∧ (cmd .degrees 90 .hold .fail).kind ≠ .duty ∧
    [0, 90].map (fun a => (Motor.reset.startEncoder ⟨720, 1000, 1⟩ (cmd .degrees a .hold .fail) .request).profile.target) =
      [0, 180] ∧
    [0, 90].map (fun a => (Motor.reset.startEncoder ⟨720, 1000, 1⟩ (cmd .degrees a .hold .fail) .request).profile.settling) =
      [true, false] := ⟨fun _ => rfl, by decide, by decide, by decide⟩

/-- Four edges make a position of 4 counts (2 degrees of 720) and a speed of 200 counts/s (100 deg/s). -/
theorem test_controlPeriod :
    got (fun t => ((t.motor .a).position, (t.motor .a).speed, (t.sample (.port .a)).values)) (exec .controlPeriod
      (bench.setMotor .a { bench.motors.a with edges := 4 })) = some (4, 200, [2, 100, 0, 0]) := by decide

theorem test_encoderEdge :
    [EncoderStep.up, .down, .skip].map (fun e => got (fun t => (t.motor .a).edges) (exec (.encoderEdge .a e) bench)) =
      [some 1, some (-1), some 0] ∧
    got (fun t => (t.motor .c).edges) (exec (.encoderEdge .c .up) bench) = some 0 := by decide

/-- ControlPeriodLaw: no pair on any port; driven ports and others; ProfileStepsAndControlLaw: profiles and
channels their premises take. -/
theorem test_witness_control :
    bench.hub.held = false ∧ (∀ p, (bench.motor p).pair = none) ∧ (bench.port .c).state = .active ∧
    bench.classOf .a = some .motor ∧ bench.classOf .c = some .sensor ∧
    (let q := { Profile.reset with d := -1, dv := 34, vt := 1000, target := -180, pRef := 0, v := 0 }
    (q.d = 1 ∨ q.d = -1) ∧ 1 ≤ q.dv ∧ 1 ≤ q.vt ∧ q.target.natAbs ≤ 2000000000 ∧ q.pRef.natAbs ≤ 2000000000000 ∧
      0 < (q.target * 1000 - q.pRef) * q.d ∧ q.boundedAdvance.pRef = -170) ∧
    (let m := { Motor.reset with state := .holding, gains := some ⟨150, 20, true⟩ }
    m.gains = some ⟨150, 20, true⟩ ∧ m.state = .holding) := by
  refine ⟨rfl, fun p => by cases p <;> rfl, rfl, rfl, rfl, by decide, by decide⟩

/-! ### Sensor channels and views, brick detectors and watches (chapters 5 and 6) -/

/-- ViewSetAnswered: a view of 20 ms on the sensor (its minimum is 10 ms), the last legal fields and the first illegal. -/
theorem test_viewSet :
    (∀ b, (ask bench .pl .viewSet b).Waits .pl 1#8 .viewSet 0 b) ∧
    got (fun t => ((t.view .pl (.port .c)).interval, (t.port .c).interval)) (exec (.viewSet .pl 1#8) (ask bench .pl .viewSet
      (bytes [2, 1, 20, 0, 0, 0, 255, 0, 0, 0, 0, 0]))) = some (20, some 20000) ∧
    [[6, 1, 5, 0, 3, 7, 5, 0, 0, 0, 0, 1, 9, 0, 0, 0], [6, 0, 0, 0, 0, 0, 255, 0, 0, 0, 0, 0],
      [2, 1, 20, 0, 4, 0, 255, 0, 0, 0, 0, 0], [2, 1, 20, 0, 0, 0, 6, 0, 0, 0, 0, 0], [2, 1, 20, 0, 0, 0, 255, 0, 0, 0, 0, 1],
      [7, 0, 0, 0, 0, 0, 255, 0, 0, 0, 0, 0], [6, 2, 0, 0, 0, 0, 255, 0, 0, 0, 0, 0]].map (judged bench .viewSet .viewSet) =
        [some .normalCompletion, some .normalCompletion, some .parameterError, some .parameterError, some .parameterError,
          some .portError, some .deviceMismatch] :=
  ⟨fun _ => ask_waits rfl .., by decide, by decide⟩

/-- The bench with PL's view of the sensor on, holding an output with a value of 120. -/
def viewing : State := bench.setView .pl (.port .c)
  { bench.view .pl (.port .c) with
    interval := 20, fresh := true, output := ⟨[120], 3, 990, [false], some 0, none⟩ }

/-- ReadValuesAnswered: the sample where the view is off, 11 + 4 bytes; the view's output where it is on, once fresh. -/
theorem test_readValues :
    (∀ s b, s.links = ⟨upUnit, upUnit⟩ → (ask s .pl .readValues b).Waits .pl 1#8 .readValues 0 b) ∧
    reply .pl (exec (.readValues .pl 1#8) (ask viewing .pl .readValues (bytes [2, 1]))) =
      some (.normalCompletion, bytes [2, 0, 1, 1, 0, 3, 0, 0xDE, 3, 0, 0, 120, 0, 0, 0]) ∧
    reply .pl (exec (.readValues .pl 1#8) (ask bench .pl .readValues (bytes [2, 1]))) =
      some (.normalCompletion, bytes [2, 255, 4, 1, 0, 0, 0, 0, 0, 0, 0, 0, 0, 0, 0]) ∧
    [[6, 1], [7, 0], [2, 2], [5, 0]].map (judged bench .readValues .readValues) =
      [some .normalCompletion, some .portError, some .deviceMismatch, some .portError] :=
  ⟨fun _ _ h => ask_waits h .., by decide, by decide, by decide⟩

/-- 9,000 mg is limited at the 8,000 mg in effect and marked; −100 mg is not. -/
theorem test_portISample : got (fun t => ((t.sample .internal).values, (t.sample .internal).clipped))
    (exec (.portISample 9000 (-100) 0 0 0 0) bench) =
      some ([8000, -100, 0, 0, 0, 0], [true, false, false, false, false, false]) := by decide

/-- PortISampleTaken, SourceAndFilterArithmetic and DetectorsTakeASample: a view on and one off, a mode record with a
range, each detector alone at its threshold. -/
theorem test_witness_sensing :
    bench.hub.held = false ∧ bench.hub.state = .ready ∧ State.reset.hub.state ≠ .ready ∧
    (bench.view .pl .internal).interval = 0 ∧
    (let v := { bench.view .pl .internal with interval := 20 }
    v.interval ≠ 0 ∧ v.filter = .none ∧ v.counter = 0) ∧
    (bench.link .pl).up = true ∧ ((0 : Int) < 100 ∧ FilterState.unseeded.seeded = false) ∧
    scaleRaw ⟨0, 1, 0, 0, 3, 0, 2, 0, 1⟩ 1 = (1, false) ∧
    (bench.brickSet.orientation, bench.brickSet.tap, bench.brickSet.freeFall, bench.brickSet.motion) =
      (false, false, false, false) ∧
    bench.brick.moving = false ∧ bench.brickSet.motionThreshold < (501 : Int).natAbs ∧
    (299 : Int).natAbs < bench.brickSet.fallThreshold ∧ bench.brickSet.orientThreshold ≤ (800 : Int).natAbs := by decide

/-- The detectors on a bench with dwell times of 0. -/
def detecting (o f m : Bool) : State := { bench with
  brickSet := { bench.brickSet with orientation := o, freeFall := f, motion := m, orientDwell := 0, fallDwell := 0 } }

theorem test_detectors :
    got (fun t => (t.brick.moving, t.brick.counts.get 0 5)) (exec (.portISample 0 0 0 501 0 0) (detecting false false true)) =
      some (true, 1) ∧
    got (fun t => (t.brick.falling, t.brick.counts.get 0 3)) (exec (.portISample 299 0 (-299) 0 0 0)
      (detecting false true false)) = some (true, 1) ∧
    got (fun t => (t.brick.orientation, t.brick.counts.get 0 0)) (exec (.portISample 799 0 800 0 0 0)
      (detecting true false false)) = some (.up, 1) := by decide

/-- BrickRequests: FFFFH keeps a default, other fields are limited; the detectors' enables lower the interval to 5 ms. -/
theorem test_brickDetectSet :
    (∀ c b, (ask bench .pl c b).Waits .pl 1#8 c 0 b) ∧
    got (fun t => (t.brickSet.tapThreshold, t.brickSet.orientThreshold, t.brickSet.stillTime, t.sharedI.interval, t.holderI))
      (exec (.brickDetectSet .pl 1#8) (ask bench .pl .brickDetectSet (bytes ([1, 15, 99, 0, 0, 0] ++ List.replicate 14 255)))) =
        some (1500, 100, 2000, 5000, some .pl) ∧
    [[2, 0] ++ List.replicate 18 0, [0, 16] ++ List.replicate 18 0, [0, 0]].map (judged bench .brickDetectSet .brickDetectSet) =
      [some .deviceMismatch, some .parameterError, some .parameterError] ∧
    judged { bench with holderI := some .tl } .brickDetectSet .brickDetectSet ([0, 0] ++ List.replicate 18 0) =
      some .heldByOtherLink := ⟨fun _ _ => ask_waits rfl .., by decide, by decide, by decide⟩

theorem test_subscribe :
    got (fun t => (t.subs.pl, t.subs.tl)) (exec (.subscribe .pl 1#8) (ask bench .pl .subscribe [127#8])) = some (127, 0) ∧
    [[128], []].map (judged bench .subscribe .subscribe) = [some .parameterError, some .parameterError] := by decide

theorem test_brickState :
    (reply .pl (exec (.brickState .pl 1#8) (ask bench .pl .brickState []))).map (fun x => (x.1, x.2.length)) =
      some (.normalCompletion, 26) ∧ judged bench .brickState .brickState [0] = some .parameterError := by decide

/-- WATCH SET of the sensor's value ABOVE 100 in slot 7, its dwell 1 and its action NONE. -/
def aboveBody : List Nat := [7, 2, 1, 0, 0, 100, 0, 0, 0, 0, 0, 0, 0, 0, 0, 0, 0, 1, 1, 0, 0, 0]

/-- WatchRequests: the last slot, the first that is not one, a dwell of 0, an action of 3, a value index beyond the channel's. -/
theorem test_watchSet :
    (∀ c b, (ask bench .pl c b).Waits .pl 1#8 c 0 b) ∧
    got (fun t => (t.watch .pl 7).map (fun w => (w.level1, w.state, w.repeats))) (exec (.watchSet .pl 1#8) (ask bench .pl
      .watchSet (bytes aboveBody))) = some (some (100, .armed, true)) ∧
    [(0, 8), (17, 0), (19, 3), (3, 1), (4, 4), (1, 7)].map (fun x =>
      judged bench .watchSet .watchSet (aboveBody.set x.1 x.2)) =
        [some .parameterError, some .parameterError, some .parameterError, some .parameterError, some .parameterError,
          some .portError] := ⟨fun _ _ => ask_waits rfl .., by decide, by decide⟩

/-- The watch of `aboveBody` with a state, an action and a dwell, on the bench that holds a value of 120. -/
def watching (st : WatchState) (progress dwell : Nat) (a : WatchAction) : State := viewing.setWatch .pl 7
  (some ⟨.port .c, 0, .above, 100, 0, 0, dwell, true, a, some 0, st, progress, none, 0, 0⟩)

theorem test_watchClear :
    (reply .pl (exec (.watchClear .pl 1#8) (ask (watching .armed 0 1 .none) .pl .watchClear [0xC0#8]))) =
      some (.normalCompletion, [1#8]) ∧
    got (fun t => t.watch .pl 7) (exec (.watchClear .pl 1#8) (ask (watching .armed 0 1 .none) .pl .watchClear [0x80#8])) =
      some none ∧ judged bench .watchClear .watchClear [] = some .parameterError := by decide

theorem test_watchState :
    (reply .pl (exec (.watchState .pl 1#8) (ask (watching .armed 0 1 .none) .pl .watchState []))).map (fun x =>
      (x.1, x.2.length)) = some (.normalCompletion, 88) ∧
    judged bench .watchState .watchState [0] = some .parameterError := by decide

/-- WatchesFire: a dwell short of its count and one that is met; the holder's halt and another's, which is skipped. -/
theorem test_watchFired :
    [2, 3].map (fun k => got (fun t => ((t.watch .pl 7).map (fun w => (w.state, w.fires)), (t.link .pl).notices.length))
      (exec (.watchFired .pl 7) (watching .pending k 3 .none))) =
        [some (some (.pending, 0), 0), some (some (.fired, 1), 1)] ∧
    got (fun t => (t.watch .pl 7).map (fun w => w.skips)) (exec (.watchFired .pl 7) (watching .pending 3 3 (.haltPort .a .brake))) =
      some (some 1) ∧
    got (fun t => ((t.motor .a).state, (t.watch .pl 7).map (fun w => w.skips))) (exec (.watchFired .pl 7)
      ((watching .pending 3 3 (.haltPort .a .brake)).setPort .a (held.port .a))) = some (.braked, some 0) := by decide

theorem test_witness_watch :
    (watching .armed 0 2 .none).watch .pl 7 = some ⟨.port .c, 0, .above, 100, 0, 0, 2, true, .none, some 0, .armed, 0, none, 0, 0⟩ ∧
    ((watching .armed 0 2 .none).evalWatch .pl (.port .c) 7).watch .pl 7 =
      some ⟨.port .c, 0, .above, 100, 0, 0, 2, true, .none, some 0, .pending, 1, none, 0, 0⟩ ∧
    ((watching .armed 0 1 .none).evalWatch .tl (.port .c) 7).watch .pl 7 = (watching .armed 0 1 .none).watch .pl 7 ∧
    (watching .armed 0 2 .none).hub.held = false ∧ (∀ p, held.Unpaired p) ∧ (held.port .a).holder = some .pl :=
  ⟨by decide, by decide, by decide, rfl, test_releasePort.2.1, rfl⟩

/-! ### Report streams (chapter 7) -/

/-- The period just run at 100 of 100 ms; a queue still waiting is an overrun. -/
theorem test_rateQueueExpiry :
    [false, true].map (fun w => got (fun t => ((t.sched .pl).queues.q1, (t.link .pl).counts.overruns.q1)) (exec
      (.rateQueueExpiry .pl .q1) (bench.setSched .pl { Scheduler.reset with
        queues := { Scheduler.reset.queues with q1 := ⟨100, some 900, w⟩ }
        streams := ⟨[(11, ⟨true, .q1, [.port .c], true⟩)]⟩ }))) =
      [some (⟨100, some 1000, true⟩, 0), some (⟨100, some 1000, true⟩, 1)] ∧
    bench.hub.held = false ∧ (100 : Nat) ≤ ((1000#32) - 900#32).toNat ∧ (bench.sched .pl).queues.q1.origin = none := by decide

theorem test_rateSet :
    (∀ c b, (ask bench .pl c b).Waits .pl 1#8 c 0 b) ∧
    got (fun t => ((t.sched .pl).queues.q0, (t.sched .pl).queues.q1.period, (t.sched .pl).queues.q3.period)) (exec
      (.rateSet .pl 1#8) (ask bench .pl .rateSet (bytes [1, 0, 0, 0, 0, 0, 0xFF, 0xFF]))) =
        some (⟨5, some 1000, false⟩, 100, 60000) ∧
    judged bench .rateSet .rateSet [0, 0] = some .parameterError := ⟨fun _ _ => ask_waits rfl .., by decide, by decide⟩

/-- StreamRequestsAnswered: stream 11 and 12, queue 3 and 4, four members and five, a member twice. -/
theorem test_streamSet :
    got (fun t => t.stream .pl 11) (exec (.streamSet .pl 1#8) (ask bench .pl .streamSet (bytes [11, 3, 4, 0, 2, 6, 5]))) =
      some ⟨true, .q3, [.port .a, .port .c, .internal, .port .f], false⟩ ∧
    [[11, 3, 0], [11, 4, 0], [12, 0, 0], [0, 4, 1, 0], [0, 0, 5, 0, 1, 2, 3, 4], [0, 0, 2, 1, 1], [0, 0, 1, 7], [0, 0, 1]].map
      (judged bench .streamSet .streamSet) = [some .normalCompletion] ++ List.replicate 7 (some .parameterError) := by decide

theorem test_streamEnable :
    got (fun t => (t.stream .pl 2).enabled) (exec (.streamEnable .pl 1#8) (ask ((rateWaits .q2).setSched .pl
      { Scheduler.reset with streams := ⟨[(2, ⟨true, .q2, [.port .c], false⟩)]⟩ }) .pl .streamEnable [2#8, 1#8])) = some true ∧
    [[2, 1], [2, 0], [12, 0], [2, 2]].map (judged bench .streamEnable .streamEnable) =
      [some .sequenceError, some .normalCompletion, some .parameterError, some .parameterError] := by decide

/-- ServiceAssembled: one frame, its header of 6 bytes and a member block of 15; the fresh flag is cleared. -/
theorem test_service :
    let s := viewing.setSched .pl (((rateWaits .q0)).sched .pl)
    (((List.range 12).filter (fun n => (s.stream .pl n).enabled)).map (fun n => (s.stream .pl n).members)).flatten.Nodup ∧
    ((s.beginService .pl .q0).sched .pl).service = some ⟨.q0, [⟨2, bytes [0, 1, 0xE8, 3, 0, 0,
      2, 0, 1, 1, 0, 3, 0, 0xDE, 3, 0, 0, 120, 0, 0, 0]⟩]⟩ ∧
    ((s.beginService .pl .q0).view .pl (.port .c)).fresh = false := by decide

/-! ### Sound engine (chapter 8) -/

/-- A tone of 1,000 Hz on PL with this priority and number of output samples left. -/
def tone (priority remaining : Nat) : Sound := ⟨1, .pl, priority, 50, .tone 1000 .square remaining 0⟩

/-- A clip of the factory asset 5 (5,000 bytes) at a read position. -/
def clip (loops pos : Nat) : Sound := ⟨2, .pl, 3, 50, .clip 5 5 0 1 5000 .u8at16k 0 loops 0 pos⟩

/-- A voice record. -/
def voiceOf (x : Sound) (stage : VoiceStage) (timer : Nat) (b0 : Option PageBuffer) : Voice :=
  ⟨x, 0, stage, timer, b0, none, false, none, none⟩

/-- The bench with sounds on its first voices and in the queue. -/
def playing (ys : List Voice) (queue : List Sound) : State := { bench with sound := { bench.sound with
  voices := ⟨ys[0]?, ys[1]?, ys[2]?, ys[3]?⟩, queue := queue, counter := 2, nextOrder := 4 } }

/-- Four voices taken at priority 3. -/
def full (queue : List Sound) : State := playing (List.replicate 4 (voiceOf (tone 3 100) .playing 0 none)) queue

/-- PlayToneAnswered: the first voice; a higher priority steals, an equal one waits, and with 8 waiting nothing more does. -/
theorem test_playTone :
    (∀ s c b, s.links = ⟨upUnit, upUnit⟩ → (ask s .pl c b).Waits .pl 1#8 c 0 b) ∧
    [bench, full [], full (List.replicate 7 (tone 3 9)), full (List.replicate 8 (tone 3 9))].map (fun s =>
        reply .pl (exec (.playTone .pl 1#8) (ask s .pl .playTone (bytes [3, 50, 0xE8, 3, 0, 1, 0, 0, 0])))) =
      [some (.normalCompletion, bytes [1, 0, 0]), some (.normalCompletion, bytes [3, 0, 255]),
        some (.normalCompletion, bytes [3, 0, 255]), some (.queueFull, [])] ∧
    reply .pl (exec (.playTone .pl 1#8) (ask (full []) .pl .playTone (bytes [4, 50, 0xE8, 3, 0, 1, 0, 0, 0]))) =
      some (.normalCompletion, bytes [3, 0, 0]) ∧
    [[8, 50, 0, 0, 0, 1, 0, 0, 0], [3, 50, 0, 0, 2, 1, 0, 0, 0], [3, 50, 0, 0, 0, 0, 0, 0, 0],
      [3, 50, 0, 0, 0, 0x61, 0xEA, 0, 0]].map (judged bench .playTone .playTone) = List.replicate 4 (some .parameterError) :=
  ⟨fun _ _ _ h => ask_waits h .., by decide, by decide, by decide⟩

/-- PlayClipAnswered: the last byte of the clip and the first beyond it; an asset of another kind; none; a refill of
page 4999 / 2048 = 2 in block 9. -/
theorem test_playClip :
    got (fun t => ((t.voice .v0).bind (fun y => y.refill.map (fun r => (r.block, r.flashPage))), (t.entry 5).read))
      (exec (.playClip .pl 1#8) (ask bench .pl .playClip (bytes [5, 0, 3, 50, 0x87, 0x13, 0, 0, 1]))) =
        some (some (9, 2), true) ∧
    [[5, 0, 3, 50, 0x88, 0x13, 0, 0, 1], [200, 0, 3, 50, 0, 0, 0, 0, 1], [6, 0, 3, 50, 0, 0, 0, 0, 1],
      [0, 4, 3, 50, 0, 0, 0, 0, 1]].map (judged bench .playClip .playClip) =
        [some .parameterError, some .parameterError, some .noSuchAsset, some .parameterError] ∧
    bench.Reaches 5 5 ⟨clipVersion, 0, 0⟩ ∧ bench.Reaches 300 200 ⟨dataVersion, 0, 0⟩ ∧ (∀ h V, ¬ bench.Reaches 6 h V) := by
  refine ⟨by decide, by decide, Or.inl ⟨by decide, rfl⟩, Or.inr ⟨by decide, by decide⟩, fun h V hr => ?_⟩
  rcases hr with ⟨hr, _⟩ | ⟨hr, _⟩ <;> cases hr

/-- SoundRequestsAnswered: every sound of the link, one number, a number of the other link. -/
theorem test_soundStop :
    (reply .pl (exec (.soundStop .pl 1#8) (ask (full [tone 3 9]) .pl .soundStop [0#8, 0#8]))) =
      some (.normalCompletion, [5#8]) ∧
    (reply .pl (exec (.soundStop .pl 1#8) (ask (full [clip 1 0]) .pl .soundStop [2#8, 0#8]))) =
      some (.normalCompletion, [1#8]) ∧
    judged (full [{ clip 1 0 with link := .tl }]) .soundStop .soundStop [2, 0] = some .parameterError := by decide

theorem test_volumeSet : [100, 101].map (fun v => reply .pl (exec (.volumeSet .pl 1#8) (ask bench .pl .volumeSet
    (bytes [v])))) = [some (.normalCompletion, [100#8]), some (.normalCompletion, [100#8])] ∧
    judged bench .volumeSet .volumeSet [] = some .parameterError := by decide

/-- 4 × 8 bytes, the queue's length, the volumes and the cap (100 in NORMAL, 50 in LOW). -/
theorem test_soundState : [SupplyState.normal, .low].map (fun x => (reply .pl (exec (.soundState .pl 1#8)
    (ask { bench with supply := { bench.supply with state := some x } } .pl .soundState []))).map (fun x =>
      (x.2.length, x.2.drop 32))) = [some (36, bytes [0, 80, 80, 100]), some (36, bytes [0, 80, 80, 50])] := by decide

/-- A square of +16,000 at volumes 50 and 80 is 6,400; two of them in LOW are 6,400. -/
theorem test_outputSample :
    got (fun t => t.sound.speaker) (exec .outputSample (playing [voiceOf (tone 3 9) .playing 0 none] [])) = some 6400 ∧
    got (fun t => t.sound.speaker) (exec .outputSample { playing [voiceOf (tone 3 9) .playing 0 none,
      voiceOf (tone 3 9) .playing 0 none] [] with supply := { bench.supply with state := some .low } }) = some 6400 := by
  decide

/-- OutputSampleMixes: a clip byte of 129 is +256, at volumes 50 and 80 it is 102; without its page the voice starves;
a timer of 2 falls to 1; a hub not READY is silent. -/
theorem test_witness_output :
    got (fun t => (t.sound.speaker, (t.voice .v0).map (fun y => y.sound.part))) (exec .outputSample (playing [voiceOf (clip 1 1)
      .playing 0 (some ⟨0, bytes [0, 129, 0]⟩)] [])) = some (102, some (clip 1 2).part) ∧
    got (fun t => (t.voice .v0).map (fun y => (y.stage, y.timer))) (exec .outputSample (playing [voiceOf (clip 1 1)
      .playing 0 none] [])) = some (some (.starving, 1600)) ∧
    got (fun t => (t.voice .v0).map (fun y => y.timer)) (exec .outputSample (playing [voiceOf (clip 1 1)
      .priming 2 none] [])) = some (some 1) ∧
    got (fun t => t.sound.speaker) (exec .outputSample State.reset) = some 0 := by decide

theorem test_toneEnd : [1, 0].map (fun k => got (fun t => (t.voice .v0).isSome) (exec (.toneEnd .v0)
    (playing [voiceOf (tone 3 k) .playing 0 none] []))) = [some true, some false] := by decide

/-- A pass ends at 5,000 of 5,000: with loops 0 the clip goes on from its offset, after its last pass it ends. -/
theorem test_clipPassEnd : [(0, 5000), (1, 5000), (1, 4999)].map (fun x => got (fun t => (t.voice .v0).map (fun y =>
    y.sound.part)) (exec (.clipPassEnd .v0) (playing [voiceOf (clip x.1 x.2) .playing 0 (some ⟨2, []⟩)] []))) =
      [some (some (.clip 5 5 0 1 5000 .u8at16k 0 0 1 0)), some none, some (some (clip 1 4999).part)] := by decide

/-- SoundsEnd: the queue's head takes the voice a starved clip leaves. -/
theorem test_soundStarved :
    got (fun t => ((t.voice .v0).map (fun y => y.sound), t.sound.queue, (t.link .pl).notices.length)) (exec (.soundStarved .v0)
      (playing [voiceOf (clip 1 0) .starving 7 none] [tone 2 9])) = some (some (tone 2 9), [], 1) ∧
    bench.hub.held = false ∧ bench.voice .v0 = none := by decide

/-! ### Asset map (chapter 9) -/

/-- AssetReadsAnswered: the last asset number and the first beyond it, an alias, and a store OFFLINE. -/
theorem test_assetInfo :
    (∀ s c b, s.links = ⟨upUnit, upUnit⟩ → (ask s .pl c b).Waits .pl 1#8 c 0 b) ∧
    reply .pl (exec (.assetInfo .pl 1#8) (ask bench .pl .assetInfo (bytes [44, 1]))) = some (.normalCompletion,
      bytes [2, 200, 0, 0, 0, 0, 0, 0, 1, 4, 0, 2, 0, 0xB8, 0x0B, 0, 0, 1, 0]) ∧
    [[255, 3], [0, 4]].map (judged bench .assetInfo .assetInfo) = [some .normalCompletion, some .parameterError] ∧
    judged { bench with media := { bench.media with store := some .offline } } .assetInfo .assetInfo [5, 0] =
      some .mediaError := ⟨fun _ _ _ h => ask_waits h .., by decide, by decide, by decide⟩

/-- 512 bytes at 2,047 of 3,000 need pages 0 and 1 of block 20; byte 2,999 is the last. -/
theorem test_assetRead :
    got (fun t => (t.media.class3.map (fun o => (o.block, o.page)), (t.entry 200).read)) (exec (.assetRead .pl 1#8)
      (ask bench .pl .assetRead (bytes [200, 0, 0xFF, 7, 0, 0, 0, 2]))) = some ([(20, 0), (20, 1)], true) ∧
    got (fun t => t.assets.reads.map (fun j => j.count)) (exec (.assetRead .pl 1#8)
      (ask bench .pl .assetRead (bytes [200, 0, 0xB7, 0x0B, 0, 0, 2, 0]))) = some [1] ∧
    [[200, 0, 0xB8, 0x0B, 0, 0, 1, 0], [6, 0, 0, 0, 0, 0, 1, 0], [200, 0, 0, 0, 0, 0, 0, 0], [200, 0, 0, 0, 0, 0, 1, 2]].map
      (judged bench .assetRead .assetRead) =
        [some .parameterError, some .noSuchAsset, some .parameterError, some .parameterError] := by decide

/-- The first probe of a page misses the cache and enters it; the second hits. -/
theorem test_probePage :
    let first := (after (exec (.probePage .pl 1#8) (ask bench .pl .probePage (bytes [200, 0, 0, 8, 0, 0])))).getD bench
    first.assets.reads.map (fun j => (j.hit, j.pages.map (fun p => (p.block, p.page)))) = [(false, [(20, 1)])] ∧
    first.assets.cache = [⟨200, 0, 20, false⟩] ∧
    got (fun t => t.assets.reads.map (fun j => j.hit)) (exec (.probePage .pl 1#8) (ask { bench with
      assets := { bench.assets with cache := first.assets.cache } } .pl .probePage (bytes [200, 0, 0, 8, 0, 0]))) = some [true] ∧
    [[200, 0, 0xB8, 0x0B, 0, 0], [6, 0, 0, 0, 0, 0], [0, 4, 0, 0, 0, 0], [0, 0]].map (judged bench .probePage .probePage) =
      [some .parameterError, some .noSuchAsset, some .parameterError, some .parameterError] := by decide

/-- The bench with asset 300 READ ONLY and the store locked by TL. -/
def guarded : State := { bench with assets := { bench.assets with
  directory := bench.assets.directory.set .absent 300 ⟨.aliasOf 200, .readOnly, 0, false, false⟩, lock := some .tl } }

/-- DirectoryChangesAnswered: a record joins the append queue and its program is asked for; each refusal in its order. -/
theorem test_assetDelete :
    got (fun t => (t.media.records, t.media.class2.map (fun o => (o.kind, o.block, o.page)))) (exec (.assetDelete .pl 1#8)
      (ask bench .pl .assetDelete (bytes [200, 0]))) = some ([⟨.delete 200, .change, false⟩], [(.program, 0, 16)]) ∧
    [[127, 0], [128, 0], [0, 4]].map (judged bench .assetDelete .assetDelete) =
      [some .writeProtected, some .noSuchAsset, some .parameterError] ∧
    judged guarded .assetDelete .assetDelete [200, 0] = some .heldByOtherLink ∧
    judged { guarded with assets := { guarded.assets with lock := none } } .assetDelete .assetDelete [44, 1] =
      some .writeProtected := by decide

theorem test_assetAlias :
    got (fun t => t.media.records) (exec (.assetAlias .pl 1#8) (ask bench .pl .assetAlias (bytes [128, 0, 5, 0]))) =
      some [⟨.redirect 128 5, .change, false⟩] ∧
    [[128, 0, 128, 0], [128, 0, 44, 1], [128, 0, 6, 0], [5, 0, 200, 0]].map (judged bench .assetAlias .assetAlias) =
      [some .parameterError, some .parameterError, some .noSuchAsset, some .writeProtected] := by decide

theorem test_assetProtect :
    got (fun t => t.media.records) (exec (.assetProtect .pl 1#8) (ask bench .pl .assetProtect (bytes [200, 0, 2]))) =
      some [⟨.protect 200 .fixed, .change, false⟩] ∧
    [[200, 0, 0], [200, 0, 3], [128, 0, 1]].map (judged bench .assetProtect .assetProtect) =
      [some .normalCompletion, some .parameterError, some .noSuchAsset] := by decide

/-- Assets 1,000 and 1,010 are changed; the read starts at 1,001. -/
theorem test_marksRead :
    reply .pl (exec (.marksRead .pl 1#8) (ask { bench with assets := { bench.assets with
        directory := ⟨[(1000, ⟨.absent, .opened, 1, true, false⟩), (1010, ⟨.absent, .opened, 1, true, false⟩)]⟩ } } .pl
      .marksRead (bytes [0, 0xE9, 3]))) = some (.normalCompletion, bytes [1, 0, 255, 255, 0xF2, 3]) ∧
    [[2, 0, 0], [0, 0, 4]].map (judged bench .marksRead .marksRead) = [some .parameterError, some .parameterError] := by
  decide

/-- Factory numbers are cleared at once; a user number waits for its record. -/
theorem test_marksClear :
    judged bench .marksClear .marksClear [1, 5, 0] = some .normalCompletion ∧
    got (fun t => t.media.records) (exec (.marksClear .pl 1#8) (ask bench .pl .marksClear (bytes [2, 200, 0, 5, 0]))) =
      some [⟨.marksClear [200], .change, false⟩] ∧
    [[0], [1, 0, 4], [2, 0, 0]].map (judged bench .marksClear .marksClear) = List.replicate 3 (some .parameterError) := by
  decide

theorem test_storeLock :
    got (fun t => t.assets.lock) (exec (.storeLock .pl 1#8) (ask bench .pl .storeLock [1#8])) = some (some .pl) ∧
    [[0], [2]].map (judged bench .storeLock .storeLock) = [some .sequenceError, some .parameterError] ∧
    judged guarded .storeLock .storeLock [1] = some .heldByOtherLink := by decide

/-! ### Flash media, write sessions and the catalogue (chapter 10) -/

/-- The bench with a session of PL on asset 200 (block 30, 4,000 bytes declared). -/
def writing (written : Nat) (buffer : List Byte) : State := { bench with media := { bench.media with
  session := some ⟨.pl, 200, .data, .none, 4000, [30], [], written, buffer, none, [], []⟩
  blocks := bench.media.blocks.set .unscanned 30 ⟨.session, 0⟩ } }

/-- WriteSessionRequests, WRITE OPEN: its refusals, and a free block for a session of one. -/
theorem test_writeOpen :
    (∀ s c b, s.links = ⟨upUnit, upUnit⟩ → (ask s .pl c b).Waits .pl 1#8 c 0 b) ∧
    [[5, 0, 2, 0, 1, 0, 0, 0], [200, 0, 1, 0, 1, 0, 0, 0], [200, 0, 2, 1, 1, 0, 0, 0], [200, 0, 4, 0, 1, 0, 0, 0],
      [200, 0, 2, 0, 0, 0, 0, 0], [200, 0, 2, 0, 1, 0, 0x80, 0], [0, 4, 2, 0, 1, 0, 0, 0]].map
        (judged bench .writeOpen .writeOpen) =
      [some .writeProtected, some .parameterError, some .parameterError, some .parameterError, some .parameterError,
        some .parameterError, some .parameterError] ∧
    judged (writing 0 []) .writeOpen .writeOpen [128, 0, 2, 0, 1, 0, 0, 0] = some .busy ∧
    judged guarded .writeOpen .writeOpen [128, 0, 2, 0, 1, 0, 0, 0] = some .heldByOtherLink ∧
    (30 < 1024 ∧ (bench.block 30).state = .freeDirty ∧ bench.media.refresh = none ∧ [30].Nodup ∧
      (1 + 131071) / 131072 = [30].length) := ⟨fun _ _ _ h => ask_waits h .., by decide, by decide, by decide, by decide⟩

/-- A chunk at the next offset is buffered; the 2,048th byte asks for the page's program and gives no response yet. -/
theorem test_writeChunk :
    got (fun t => t.media.session.map (fun y => (y.written, y.buffer))) (exec (.writeChunk .pl 1#8) (ask (writing 2 [8#8, 9#8])
      .pl .writeChunk (bytes [2, 0, 0, 0, 7]))) = some (some (3, bytes [8, 9, 7])) ∧
    judged (writing 2 [8#8, 9#8]) .writeChunk .writeChunk [1, 0, 0, 0, 7] = some .sequenceError ∧
    judged (writing 4000 []) .writeChunk .writeChunk [0xA0, 0x0F, 0, 0, 7] = some .sequenceError ∧
    judged bench .writeChunk .writeChunk [0, 0, 0, 0, 7] = some .sequenceError ∧
    judged bench .writeChunk .writeChunk [0, 0, 0, 0] = some .parameterError := by decide

theorem test_writeChunk_page : got (fun t => (t.media.class2.map (fun o => (o.kind, o.page)), (t.link .pl).ready))
    (exec (.writeChunk .pl 1#8) (ask (writing 2047 (List.replicate 2047 0#8)) .pl .writeChunk
      (bytes [0xFF, 7, 0, 0, 7]))) = some ([(.program, 0)], []) := by decide

/-- With nothing left to program the COMMIT record follows: version 5, 2,048 bytes in block 30. -/
theorem test_writeClose :
    got (fun t => t.media.records) (exec (.writeClose .pl 1#8) (ask (writing 2048 []) .pl .writeClose [])) =
      some [⟨.commit 200 ⟨5, .data, .none, 2048, [(30, 1)]⟩, .commit, false⟩] ∧
    got (fun t => t.media.class2.map (fun o => (o.kind, o.page))) (exec (.writeClose .pl 1#8) (ask (writing 2049 [7#8])
      .pl .writeClose [])) = some [(.program, 1)] ∧
    judged (writing 0 []) .writeClose .writeClose [] = some .sequenceError ∧
    judged bench .writeClose .writeClose [] = some .sequenceError := by decide

theorem test_writeCancel :
    got (fun t => (t.media.session, (t.block 30).state)) (exec (.writeCancel .pl 1#8) (ask (writing 2049 [7#8]) .pl .writeCancel
      [])) = some (none, .freeDirty) ∧
    judged bench .writeCancel .writeCancel [] = some .sequenceError := by decide

/-- OFFLINE: 21 zeros, FFH and 5 zeros. -/
theorem test_storeState :
    reply .pl (exec (.storeState .pl 1#8) (ask { bench with media := { bench.media with store := some .offline } } .pl
      .storeState [])) = some (.normalCompletion, List.replicate 21 0#8 ++ [0xFF#8] ++ List.replicate 5 0#8) ∧
    judged bench .storeState .storeState [0] = some .parameterError ∧ bench.media.store = some .ready := by decide

/-- StoreStateAndFormat: FORMAT USER on TL and on PL. -/
theorem test_formatUser :
    (reply .tl (exec (.formatUser .tl 1#8) (ask bench .tl .formatUser []))) = some (.linkNotPermitted, []) ∧
    got (fun t => ((t.entry 5).protection, (t.entry 200).content, (t.entry 300).content)) (exec (.formatUser .pl 1#8)
      (ask bench .pl .formatUser [])) = some (.fixed, .absent, .absent) ∧
    judged guarded .formatUser .formatUser [] = some .heldByOtherLink := by decide

/-- The bench with a flash operation in progress. -/
def working (o : FlashOp) : State := { bench with media := { bench.media with op := some o } }

/-- FlashArbiterAndBackground: class 2 before class 3; a refill before both; an append takes the page after the last. -/
theorem test_flashArbiterChoose :
    got (fun t => (t.media.op, t.media.class3.length)) (exec .flashArbiterChoose { bench with media := { bench.media with
      class2 := [⟨.erase, 30, 0, .spareErase 30⟩], class3 := [⟨.read, 20, 0, .readJob ⟨.pl, 0⟩ 0⟩] } }) =
        some (some ⟨.erase, 30, 0, .spareErase 30⟩, 1) ∧
    got (fun t => t.media.op) (exec .flashArbiterChoose { playing [{ voiceOf (clip 1 0) .priming 9 none with
      refill := some ⟨false, 0, 9, 0⟩ }] [] with media := { bench.media with
        class2 := [⟨.erase, 30, 0, .spareErase 30⟩] } }) = some (some ⟨.read, 9, 0, .refill .v0⟩) ∧
    got (fun t => (t.media.op, t.media.records)) (exec .flashArbiterChoose { bench with media := { bench.media with
      class2 := [⟨.program, 0, 16, .record (.delete 200)⟩], records := [⟨.delete 200, .change, false⟩], appending := true } }) =
        some (some ⟨.program, 0, 16, .record (.delete 200)⟩, [⟨.delete 200, .change, true⟩]) ∧
    got (fun t => t.media.op) (exec .flashArbiterChoose (working ⟨.erase, 30, 0, .spareErase 30⟩)) =
      some (some ⟨.erase, 30, 0, .spareErase 30⟩) := by decide

/-- The background works start only in a READY hub with a READY store, one erase and one refresh at a time. -/
theorem test_backgroundEraseStart :
    [State.reset, working ⟨.erase, 30, 0, .dirtyErase 30⟩].map (fun s => got (fun t => t.media.class4) (exec .backgroundEraseStart s)) =
      [some [], some []] := by decide

theorem test_refreshStart : got (fun t => t.media.class4) (exec .refreshStart bench) = some [] ∧
    got (fun t => t.media.refreshList) (exec .refreshStart { bench with
      media := { bench.media with refreshList := [⟨20, false⟩] }
      assets := { bench.assets with
        directory := ⟨[(200, ⟨.present ⟨dataVersion, 1, 0⟩, .opened, 4, true, false⟩)]⟩ } }) = some [⟨20, true⟩] := by decide

/-- Witnesses of the background clauses: no block is FREE-CLEAN on the bench; block 9 is in use and 10 is free. -/
theorem test_witness_background :
    (bench.hub.state = .ready ∧ bench.media.store = some .ready ∧ bench.supply.state ≠ some .cutoff) ∧
    (bench.media.op.isNone ∧ bench.media.class4 = [] ∧ bench.media.refresh = none ∧ bench.media.refreshList = []) ∧
    (10 < 1024 ∧ (bench.block 10).state = .freeDirty ∧ (bench.block 10).erases = 0) ∧
    (bench.block 9).state = .factory ∧ (bench.block 0).state = .catalogue ∧ (bench.block 20).state = .live := by decide

/-- A page that a read or a refill waits for, with 3 bits corrected in one sector: block 20 is to be refreshed. -/
theorem test_pageReadComplete :
    got (fun t => ((t.link .pl).ready, t.media.refreshList, t.media.op)) (exec (.pageReadComplete ⟨[some 3, some 0, some 0, some 0],
      bytes [1, 2, 3]⟩) (((working ⟨.read, 20, 0, .readJob ⟨.pl, 0⟩ 0⟩).setLink .pl
        { upUnit with table := [⟨1#8, .assetRead, 0, 0, .working⟩] }).setAssets { bench.assets with
          reads := [⟨⟨.pl, 0⟩, .asset 200 1 2, 200, 4, 2, false, [⟨20, 0, none⟩]⟩] })) =
      some ([.response 0 1#8 .assetRead .normalCompletion (bytes [4, 0, 2, 0, 2, 3])], [⟨20, false⟩], none) := by decide

theorem test_refillComplete :
    got (fun t => (t.voice .v0).map (fun y => (y.stage, y.buffer0.map (fun p => p.page)))) (exec (.refillComplete
      ⟨[some 0, some 0, some 0, some 0], [5#8]⟩) ((working ⟨.read, 9, 0, .refill .v0⟩).setVoice .v0 (some
        { voiceOf (clip 1 0) .priming 9 none with refill := some ⟨false, 0, 9, 0⟩ }))) = some (some (.playing, some 0)) ∧
    got (fun t => (t.voice .v0).isSome) (exec (.refillComplete ⟨[none, some 0, some 0, some 0], []⟩)
      ((working ⟨.read, 9, 0, .refill .v0⟩).setVoice .v0 (some
        { voiceOf (clip 1 0) .priming 9 none with refill := some ⟨false, 0, 9, 0⟩ }))) = some false := by decide

/-- A program that succeeds is verified. -/
theorem test_programComplete : got (fun t => (t.media.op, t.media.class2)) (exec (.programComplete true)
    (working ⟨.program, 30, 0, .sessionPage 0 ⟨0, [], none⟩⟩)) =
      some (none, [⟨.verify, 30, 0, .sessionPage 0 ⟨0, [], none⟩⟩]) := by decide

/-- A verify with 2 bits corrected passes: the DELETE takes effect and is answered; with 3 bits it fails. -/
theorem test_verifyComplete :
    let s : State := { bench.setLink .pl { upUnit with table := [⟨1#8, .assetDelete, 0, 0, .working⟩] } with
      assets := { bench.assets with change := some ⟨⟨.pl, 0⟩, .delete 200, []⟩ }
      media := { bench.media with
        op := some ⟨.verify, 0, 16, .record (.delete 200)⟩
        records := [⟨.delete 200, .change, true⟩], appending := true } }
    got (fun t => ((t.link .pl).ready.length, (t.entry 200).content, t.media.pagesUsed))
        (exec (.verifyComplete [some 2, some 0, some 0, some 0]) s) = some (1, .absent, 17) ∧
      got (fun t => ((t.link .pl).ready.length, (t.entry 200).lastVersion, t.media.mustCompact))
        (exec (.verifyComplete [some 3, some 0, some 0, some 0]) s) = some (0, 4, true) := by decide

theorem test_eraseComplete :
    [true, false].map (fun ok => got (fun t => (t.block 30, t.media.records)) (exec (.eraseComplete ok)
      (working ⟨.erase, 30, 0, .dirtyErase 30⟩))) =
        [some (⟨.freeClean, 1⟩, []), some (⟨.bad, 1⟩, [⟨.bad 30, .bookkeeping, false⟩])] := by decide

/-- FlashOperationsEnd and VerifiesComplete: an operation of each kind, none, and a session page that waits. -/
theorem test_witness_flash :
    bench.hub.held = false ∧ bench.media.op.isNone ∧
    (∀ k w, (working ⟨k, 30, 0, w⟩).media.op = some ⟨k, 30, 0, w⟩) ∧ (bench.block 30).state = .freeDirty ∧
    (bench.block 30).erases < 4294967295 ∧ bench.assets.reads = [] ∧ bench.media.compaction = none ∧
    bench.media.ring = some 0 ∧ (∀ x ∈ [some 2, some 0], ∃ k, x = some k ∧ k < 3) ∧
    (∃ y, (writing 2048 []).media.session = some y ∧ y.closing = none ∧ y.reserved[0]? = some 30) := by
  refine ⟨rfl, rfl, fun _ _ => rfl, by decide, by decide, rfl, rfl, rfl, ?_, ⟨_, rfl, rfl, rfl⟩⟩
  intro x hx
  simp at hx
  rcases hx with rfl | rfl <;> exact ⟨_, rfl, by decide⟩

/-! ### Supply, start-up and hub reset (chapter 11) -/

/-- The eighth reading makes the first mean; 5,999 is LOW, 6,000 is not. -/
theorem test_supplyReading :
    [5999, 6000].map (fun v => got (fun t => (t.supply.mean, t.supply.state, t.hub.step)) (exec (.supplyReading v)
      { inStep 3 with supply := ⟨List.replicate 7 v, none, none, 0⟩ })) =
        [some (some 5999, some .low, 4), some (some 6000, some .normal, 4)] ∧
    got (fun t => (t.supply.state, t.supply.changedAt, (t.link .tl).notices.length, (t.motor .a).state)) (exec (.supplyReading 5399)
      { running (cmd .speed 0 .brake .fail) [] id with supply := ⟨List.replicate 8 5399, some 5400, some .low, 0⟩ }) =
        some (some .cutoff, 1000, 1, .free) := by decide

/-- SupplyReadingTaken and StartUpSteps: each step, each band at its border, fewer than 8 readings and 8. -/
theorem test_witness_supply :
    [1, 2, 4, 5, 6].map (fun n => ((inStep n).hub.held, (inStep n).hub.state, (inStep n).hub.step)) =
      [1, 2, 4, 5, 6].map (fun n => (false, .starting, n)) ∧
    bench.supply.readings.length = 8 ∧ ([6300, 6301].map (fun n => decide (n ≤ 6300))) = [true, false] ∧
    (List.replicate 8 5399).sum / 8 = 5399 ∧ bench.media.records = [] ∧ bench.supply.state = some .normal := by decide

/-- 30 bytes: READY, no failure, NORMAL at 7,200 mV (1C20H), store READY, hub time 1,000. -/
theorem test_hubStatus :
    (∀ l c b, (ask bench l c b).Waits l 1#8 c 0 b) ∧
    reply .pl (exec (.hubStatus .pl 1#8) (ask bench .pl .hubStatus [])) = some (.normalCompletion,
      bytes ([1, 0, 0, 0, 0] ++ List.replicate 16 0 ++ [0, 0, 0x20, 0x1C, 1, 0xE8, 3, 0, 0])) ∧
    judged bench .hubStatus .hubStatus [0] = some .parameterError := ⟨fun _ _ _ => ask_waits rfl .., by decide, by decide⟩

/-- HubRequestsAnswered: HUB RESET waits for its response to be sent, and PL alone may ask for it. -/
theorem test_hubReset :
    got (fun t => (t.hub.resetPending, (t.link .pl).ready.length)) (exec (.hubReset .pl 1#8) (ask bench .pl .hubReset [])) =
      some (true, 1) ∧
    reply .tl (exec (.hubReset .tl 1#8) (ask bench .tl .hubReset [])) = some (.linkNotPermitted, []) ∧
    judged bench .hubReset .hubReset [0] = some .parameterError ∧
    got (fun t => (t.hub, t.pins)) (exec (.frameSent .pl) ({ bench with hub := { bench.hub with resetPending := true } }.setLink .pl
      { upUnit with tx := some ⟨.response 0 .hubReset .normalCompletion, []⟩ })) = some (HubRec.reset, bench.pins) := by decide

/-- LinksStaySound: a state that is sound with an entry, and one that is not reset. -/
theorem test_witness_sound : (ask bench .pl .halt []).LinksSound ∧ bench.LinksSound ∧
    got (fun t => t.hub.time) (step bench) = some 1001 := by
  refine ⟨(ask_waits rfl .pl .halt []).sound, fun l => ?_, by decide⟩
  cases l <;> exact sound_upUnit

/-! ### Witnesses for ends, pairs, detectors, watches, services and the store -/

/-- R22: FFH exclusive-ORed with 40H, 2, 1 and 2 is BEH; a sensor's DATA with that check byte counts as received, with
another it is a check error. -/
theorem test_lineCheck : lineCheck 0x40#8 [1#8, 2#8] = 0xBE#8 ∧
    [0xBE#8, 0xBF#8].map (fun c => got (fun t => ((t.port .c).counts.received, (t.port .c).counts.checkErrors))
      (exec (.deviceData .c 0 [1] ⟨0x40#8, [1#8, 2#8], c⟩) bench)) = [some (1, 0), some (0, 1)] ∧
    (HubMsg.selectMode 1).message.body = [1#8] := by decide

/-- SupervisionOfASensor: DATA in the pending mode completes the change. -/
theorem test_modeChanged : got (fun t => ((t.port .c).mode, (t.port .c).pendingMode, (t.link .tl).notices.length))
    (exec (.deviceData .c 1 [5, 6] (msg 5)) (quiet none (some ⟨1, ⟨.pl, 0⟩⟩) false)) = some (some 1, none, 1) := by decide

/-- PortResetAnswered and DepartureOfAPort: a replacement of an ACTIVE port, and a port that leaves IDENTIFYING. -/
theorem test_departures :
    got (fun t => ((t.port .c).state, (t.port .c).holder, (t.link .tl).notices.length)) (exec (.detectChange .c .level1) bench) =
      some (.settling, none, 1) ∧
    got (fun t => (t.port .f).state) (exec (.detectChange .f .level2) (ident .enquiring none false)) = some .settling ∧
    got (fun t => ((t.port .f).state, (t.port .f).fault)) (exec (.driverFault .f true) (ident .enquiring none false)) =
      some (.fault, some .overload) ∧ (bench.port .c).pendingMode = none ∧ bench.pins.fault.get .c = false := by decide

/-- NextCommandStarts: a settled command, a timed-out one and a TIME command run down, each with one that waits. -/
theorem test_nextStarts :
    [Instr.settleDone .a, .settleTimeout .a].map (fun i => got (fun t => ((t.motor .a).active, (t.motor .a).waiting,
      (t.link .pl).notices.length)) (exec i (running (cmd .degrees 90 .hold .fail) [cmd .time 100 .coast .fail] (fun m =>
        { m with profile := { m.profile with settling := true, inTol := 3, settleTimer := 80 } })))) =
      List.replicate 2 (some (some (cmd .time 100 .coast .fail), [], 1)) ∧
    (let s := running (cmd .time 100 .hold .fail) [cmd .duty 500 .coast .fail] (fun m =>
      { m with profile := { m.profile with rampDown := true } })
    (((s.timeDone .a (cmd .time 100 .hold .fail)).motor .a).active, (s.motor .a).profile.v)) =
      (some (cmd .duty 500 .coast .fail), 0) := by decide

/-- Pair 2 RUNNING with a command of 50 % and 100 %, so that B leads, and one that waits. -/
def pairRuns (k : MoveKind) (f : Profile → Profile) : State :=
  let c := { cmd k 90 .brake .fail with speedB := 100, pair := some 2 }
  (paired.setMotor .a { paired.motors.a with state := .running, active := some c, waiting := [c], profile := f .reset }).setMotor
    .b { paired.motors.b with state := .running, profile := f .reset }

theorem pairRuns_bound (k : MoveKind) (f : Profile → Profile) : (pairRuns k f).Bound 2 ⟨.a, .b, 60, .pl⟩ := by
  refine ⟨rfl, by decide, ⟨rfl, rfl⟩, ⟨rfl, rfl⟩, fun c hc => ?_⟩
  simp [pairRuns, State.motor, State.setMotor, PerPort.set, PerPort.get] at hc
  subst hc; rfl

/-- PairMoveStarts: REPLACE over a running pair ends both its commands SUPERSEDED and starts the new one alone. -/
theorem test_pairReplaced :
    (∀ s c b, s.links = ⟨upUnit, upUnit⟩ → (ask s .pl c b).Waits .pl 1#8 c 0 b) ∧
    got (fun t => ((t.link .pl).notices.length, (t.motor .a).waiting.length, (t.motor .a).active.map (fun c => c.kind),
      (t.motor .b).state)) (exec (.pairMove .pl 1#8) (ask (pairRuns .degrees id) .pl .pairMove
        (bytes [2, 0, 50, 50, 0, 0, 0, 0, 0, 0, 0, 0, 0]))) = some (2, 0, some .speed, .running) :=
  ⟨fun _ _ _ h => ask_waits h .., by decide⟩

/-- ProfileStepsAndControlLaw, stage 2 of a pair: a lag of 100 counts holds it; without lag it steps; a TIME command at v = 0 in
its ramp-down ends, and with one command waiting that one starts. -/
theorem test_pairReference :
    (let s := pairRuns .degrees (fun p => { p with pRef := 100000, target := 180, dv := 34, vt := 1000 })
    (s.pairReference ⟨.a, .b, 60, .pl⟩ { cmd .degrees 90 .brake .fail with speedB := 100, pair := some 2 }).motor .b =
      s.motor .b) ∧
    (let s := pairRuns .degrees (fun p => { p with target := 180, dv := 34, vt := 1000 })
    ((s.pairReference ⟨.a, .b, 60, .pl⟩ { cmd .degrees 90 .brake .fail with speedB := 100, pair := some 2 }).motor
      .b).profile.v) = 34 ∧
    (let s := pairRuns .time (fun p => { p with rampDown := true })
    let t := s.setMotor .a { s.motor .a with waiting := [] }
    ((t.pairReference ⟨.a, .b, 60, .pl⟩ { cmd .time 90 .brake .fail with speedB := 100, pair := some 2 }).motor .b).state) =
      .braked := by decide

/-- The tap, free-fall and motion detectors in the middle of their work, with every kind subscribed by PL. -/
def sensing (tp ff mo : Bool) (w : DetectorWork) (b : BrickState) : State := { bench with
  brickSet := { bench.brickSet with tap := tp, freeFall := ff, motion := mo, stillTime := 500 }, brickWork := w, brick := b
  subs := ⟨127#8, 0#8⟩ }

/-- DetectorsTakeASample: a first spike, a second tap gone quiet, a single tap past its window, a fall that ends, a rest of
500 ms; each event has its notice, a spike none. -/
theorem test_detectorEvents :
    (let w := { DetectorWork.reset with tapPrev := some (0, 0, 0) }
    let see := fun (t : State) => (t.brickWork.tapStage, t.brick.counts.get 0 1, t.brick.counts.get 0 2, (t.link .pl).notices.length)
    [got see (exec (.portISample 1501 0 0 0 0 0) (sensing true false false w bench.brick)),
      got see (exec (.portISample 0 0 0 0 0 0) (sensing true false false { w with tapStage := .quiet, tapSecond := true } bench.brick)),
      got see (exec (.portISample 0 0 0 0 0 0) (sensing true false false { w with tapStage := .waiting } bench.brick))] =
      [some (.quiet, 0, 0, 0), some (.idle, 0, 1, 1), some (.idle, 1, 0, 1)]) ∧
    got (fun t => (t.brick.falling, t.brick.counts.get 0 4)) (exec (.portISample 301 0 0 0 0 0) (sensing false true false .reset
      { bench.brick with falling := true })) = some (false, 1) ∧
    got (fun t => (t.brick.moving, t.brick.counts.get 0 6, (t.link .pl).notices.length)) (exec (.portISample 0 0 0 0 0 0)
      (sensing false false true { DetectorWork.reset with stillRun := some 500 } { bench.brick with moving := true })) =
        some (false, 1, 1) := by decide

/-- WatchesFire: HALT PAIR on a running pair and HALT PORT on one of its ports end both commands; a free pair and a port
without a motor are skipped. -/
theorem test_watchHalts :
    let fires := fun (s : State) (a : WatchAction) => got (fun t => ((t.motor .b).state, (t.link .pl).notices.length,
      (t.watch .pl 7).map (fun w => w.skips))) (exec (.watchFired .pl 7) (s.setWatch .pl 7
        (some ⟨.port .c, 0, .above, 100, 0, 0, 3, true, a, some 0, .pending, 3, none, 0, 0⟩)))
    fires (pairRuns .degrees id) (.haltPair 2 .brake) = some (.braked, 3, some 0) ∧
    fires (pairRuns .degrees id) (.haltPort .b .coast) = some (.free, 3, some 0) ∧
    fires bench (.haltPair 1 .brake) = some (.free, 1, some 1) ∧
    fires (bench.setPort .c { bench.port .c with holder := some .pl }) (.haltPort .c .brake) = some (.free, 1, some 1) ∧
    ((watching .pending 2 3 .none).evalWatch .pl (.port .c) 7).watch .pl 7 =
      some ⟨.port .c, 0, .above, 100, 0, 0, 3, true, .none, some 0, .fired, 0, none, 1, 0⟩ := by decide

/-- ServiceAssembled: port C in streams 2 and 5 stands in both frames, fresh in the first alone. -/
theorem test_serviceTwice :
    let s := viewing.setSched .pl { Scheduler.reset with
      queues := { Scheduler.reset.queues with q0 := ⟨10, some 0, true⟩ }
      streams := ⟨[(2, ⟨true, .q0, [.port .c], true⟩), (5, ⟨true, .q0, [.port .c, .port .f], true⟩)]⟩ }
    (∀ n ∈ [2, 5], ((s.stream .pl n).members).Nodup) ∧
    (((s.beginService .pl .q0).sched .pl).service.map (fun v => v.frames.map (fun f => f.body.getD 8 0xFF#8))) =
      some [1#8, 0#8] := by decide

/-- FlashArbiterAndBackground: a refresh of block 20 starts where a block is FREE-CLEAN, and waits where none is. -/
def refreshing (st : BlockState) : State := { bench with media := { bench.media with
  refreshList := [⟨20, false⟩], blocks := bench.media.blocks.set .unscanned 30 ⟨st, 0⟩ } }

theorem test_refreshStarted :
    [BlockState.freeClean, .freeDirty].map (fun x => got (fun t => (t.media.refresh, t.media.class4))
      (exec .refreshStart (refreshing x))) =
      [some (some ⟨20, 30, 0⟩, [⟨.read, 20, 0, .refreshRead 0⟩]), some (none, [])] := by decide

/-- FlashOperationsEnd: the erased ring block of a compaction asks its header page, of the next sequence. -/
theorem test_ringErased :
    let s := { refreshing .spare with media := { (refreshing .spare).media with
      op := some ⟨.erase, 1, 0, .ringErase⟩, compaction := some ⟨some 0, 1, 1, none⟩ } }
    got (fun t => t.media.compaction.bind (fun c => c.page.map (fun x => (x.2.sequence, x.2.entries.length, x.2.spares))))
      (exec (.eraseComplete true) s) = some (some (2, 2, [30])) ∧
    got (fun t => t.media.class4.map (fun o => (o.kind, o.block, o.page))) (exec (.eraseComplete true) s) =
      some [(.program, 1, 0)] := by decide

/-- The state in which a record's verify is about to end. -/
def verifying (r : CatRecord) (a : Asker) (s : State) : State := { s with media := { s.media with
  op := some ⟨.verify, 0, 16, .record r⟩, records := [⟨r, a, true⟩], appending := true } }

/-- VerifiesComplete: MARKS CLEAR and REMAP take effect, the remapped version in its new block. -/
theorem test_recordsApplied :
    got (fun t => (t.entry 200).changed) (exec (.verifyComplete [some 0, some 0, some 0, some 0]) (verifying (.marksClear [200])
      .change { bench with assets := { bench.assets with change := some ⟨⟨.pl, 0⟩, .marksClear [200], [200]⟩ } })) = some false ∧
    (let s := verifying (.remap 20 30) .remap { refreshing .freeClean with media := { (refreshing .freeClean).media with
      refresh := some ⟨20, 30, 64⟩ } }
    s.assets.directory.wf .absent = true ∧
    got (fun t => ((t.entry 200).content, (t.block 20).state, (t.block 30).state, t.media.refresh))
      (exec (.verifyComplete [some 0, some 0, some 0, some 0]) s) =
        some (.present ⟨{ dataVersion with extents := [(30, 1)] }, 0, 0⟩, .freeDirty, .live, none)) := by decide

/-- VerifiesComplete: a session page that fails its verify goes to a SPARE block, else to a FREE-CLEAN one; with neither the
store becomes READ-ONLY. -/
theorem test_pageFailed :
    [BlockState.spare, .freeClean, .live].map (fun x =>
      let s := writing 2048 []
      got (fun t => (t.media.session.map (fun y => y.reserved), t.media.records.length, (t.block 30).state, t.media.store))
        (exec (.verifyComplete [some 3, some 0, some 0, some 0]) { s with media := { s.media with
          blocks := s.media.blocks.set .unscanned 31 ⟨x, 0⟩, op := some ⟨.verify, 30, 0, .sessionPage 0 ⟨0, [], none⟩⟩ } })) =
      [some (some [31], 2, .bad, some .ready), some (some [31], 1, .bad, some .ready), some (none, 1, .bad, some .readOnly)] ∧
    ((writing 2048 []).block 30).state = .session ∧ (∀ j, j < 1024 → (bench.block j).state ≠ .spare) := by decide

/-- ChannelsStayAgreed: the bench agrees, with no port held, and so does a hub with ports held and a command under way. -/
theorem bench_agrees : bench.ChannelsAgree where
  links := test_witness_sound.2.1
  held := fun p l h => by cases p <;> cases h
  heldI := fun l h => by cases h
  device := fun p d _ h => by cases p <;> cases h <;> decide
  stage := fun p => by cases p <;> decide
  running := fun p => by cases p <;> decide
  waiting := fun p => by cases p <;> decide
  commands := fun p c h => by cases p <;> cases h
  pairs := fun k q h => by cases h
  bound := fun p k h => by cases p <;> cases h

theorem running_agrees : (running (cmd .degrees 90 .coast .fail) [] id).ChannelsAgree where
  links := test_witness_sound.2.1
  held := fun p l h => by cases p <;> cases h <;> decide
  heldI := fun l h => by cases h
  device := fun p d _ h => by cases p <;> cases h <;> decide
  stage := fun p => by cases p <;> decide
  running := fun p => by cases p <;> decide
  waiting := fun p => by cases p <;> decide
  commands := fun p => by cases p <;> decide
  pairs := fun k q h => by cases h
  bound := fun p k h => by cases p <;> cases h

theorem test_witness_channels : got (fun t => t.hub.held) (step bench) = some false := by decide

/-- StoresStayAgreed: the bench agrees, with a sound waiting behind four voices too; an erase that ends adds 1 to its
block's count and leaves the others. -/
theorem test_witness_stores : bench.StoresAgree ∧ (full [tone 3 9]).StoresAgree ∧
    got (fun t => ((t.block 30).erases, (t.block 20).erases)) (exec (.eraseComplete true)
      (working ⟨.erase, 30, 0, .dirtyErase 30⟩)) = some (1, 3) :=
  ⟨⟨test_witness_sound.2.1, by decide, fun _ _ => rfl, by decide, by decide, by decide, by decide, by decide⟩,
    ⟨test_witness_sound.2.1, by decide, by intro v; cases v <;> decide, by decide, by decide, by decide, by decide,
      by decide⟩, by decide⟩


/-! ### Witnesses for bound pairs, the view chain, reads, refreshes, snapshots, formats and versions -/

/-- Binding some: a RUNNING pair with one command waiting. -/
theorem test_witness_binding : (pairRuns .degrees id).Binding .a (some (2, ⟨.a, .b, 60, .pl⟩)) ∧
    (pairRuns .degrees id).Binding .b (some (2, ⟨.a, .b, 60, .pl⟩)) ∧ held.Binding .c none ∧
    ((pairRuns .degrees id).port .a).state = .active :=
  ⟨⟨pairRuns_bound .., .inl rfl⟩, ⟨pairRuns_bound .., .inr rfl⟩, test_releasePort.2.1 .c, rfl⟩

/-- PairDissolved, DepartureOfAPort and PortResetAnswered: a driver fault, a removal and a PORT RESET of B end both commands
REMOVED (two MOTION DONE on PL beside PORT CHANGED), dissolve the pair and leave A FREE with its port as it was. -/
theorem test_pairDeparts :
    (let s := pairRuns .degrees id
    let see := fun (t : State) => (t.pair 2, (t.motor .a).state, (t.motor .a).pair, (t.link .pl).notices.length)
    [got see (exec (.driverFault .b true) s), got see (exec (.detectChange .b .openCircuit) s)] =
      List.replicate 2 (some (none, .free, none, 3))) ∧
    got (fun t => ((t.port .a).holder, (t.port .b).holder)) (exec (.driverFault .b true) (pairRuns .degrees id)) =
      some (some .pl, none) ∧
    got (fun t => (t.pair 2, (t.motor .a).state)) (exec (.portReset .pl 1#8)
      (ask (pairRuns .degrees id) .pl .portReset (bytes [1, 1]))) = some (none, .free) := by
  refine ⟨by decide, by decide, by decide⟩

/-- PairDissolved: RELEASE PORT and HALT of a running pair hand over two notices; the HALT counts both commands. -/
theorem test_pairEnds :
    (∀ c b, (ask (pairRuns .degrees id) .pl c b).Waits .pl 1#8 c 0 b) ∧
    got (fun t => (t.pair 2, (t.motor .a).state, (t.link .pl).notices.length)) (exec (.releasePort .pl 1#8)
      (ask (pairRuns .degrees id) .pl .releasePort (bytes [1, 1]))) = some (none, .free, 2) ∧
    reply .pl (exec (.halt .pl 1#8) (ask (pairRuns .degrees id) .pl .halt (bytes [1, 1, 1]))) =
      some (.normalCompletion, [2#8]) := ⟨fun _ _ => ask_waits rfl .., by decide, by decide⟩

theorem pairRuns_pair (m : MoveKind) (f : Profile → Profile) (k : Nat) :
    (pairRuns m f).pair k = if k = 2 then some ⟨.a, .b, 60, .pl⟩ else none := Table.get_set none ⟨[]⟩ 2 k _

/-- ChannelsStayAgreed with a pair bound, its command under way and another waiting. -/
theorem pair_agrees : (pairRuns .degrees id).ChannelsAgree where
  links := test_witness_sound.2.1
  held := fun p l h => by cases p <;> cases h <;> decide
  heldI := fun l h => by cases h
  device := fun p d _ h => by cases p <;> cases h <;> decide
  stage := fun p => by cases p <;> decide
  running := fun p => by cases p <;> decide
  waiting := fun p => by cases p <;> decide
  commands := fun p => by cases p <;> decide
  pairs := fun k q h => by
    rw [pairRuns_pair] at h
    split at h
    next hk => subst hk; cases h; refine ⟨by decide, pairRuns_bound .., fun p hp => ?_⟩; rcases hp with rfl | rfl <;> decide
    next => cases h
  bound := fun p k h => by
    cases p <;> cases h <;> exact ⟨⟨.a, .b, 60, .pl⟩, rfl, by decide⟩

/-- LinkGoesUpAndDown: the pair of a link that goes DOWN is dissolved and its channels are FREE, without a notice to it; its
session in OPEN ends, and awaits no response of the other link. -/
theorem test_linkDown_pair :
    got (fun t => (t.pair 2, (t.motor .a).state, (t.port .a).holder)) (exec (.linkDown .pl) (pairRuns .degrees id)) =
      some (none, .free, none) ∧
    got (fun t => t.link .tl) (exec (.linkDown .pl) (pairRuns .degrees id)) = some upUnit ∧
    got (fun t => (t.sound.queue.map (fun x => x.link), (t.voice .v0).map (fun y => y.sound.link))) (exec (.linkDown .pl)
      (full [{ tone 3 9 with link := .tl }, tone 2 9])) = some ([], some .tl) ∧
    (writing 1 [0#8]).sessionTickets = [] ∧ (writing 1 [0#8]).media.session.map (fun x => x.link) = some .pl := by
  refine ⟨by decide, by decide, by decide, by decide, by decide⟩

/-- CommandsEndByThemselves: a pair settled, late and stalled, with nothing waiting. -/
theorem test_pairSettles :
    let alone := fun (f : Profile → Profile) (n : Nat) => let s := pairRuns .degrees f
      s.setMotor .a { s.motor .a with waiting := [], stallTimer := n }
    let see := fun (t : State) => ((t.motor .a).state, (t.motor .b).state, (t.motor .a).active.isSome, (t.link .pl).notices.length)
    [got see (exec (.settleDone .b) (alone (fun p => { p with settling := true, inTol := 3 }) 0)),
      got see (exec (.settleTimeout .a) (alone (fun p => { p with settling := true, settleTimer := 80 }) 0)),
      got see (exec (.settleTimeout .a) (alone (fun p => { p with settling := true, settleTimer := 79 }) 0)),
      got see (exec (.stallRecognised .b) (alone id 100))] =
    [some (.braked, .braked, false, 1), some (.braked, .braked, false, 1), some (.running, .running, true, 0),
      some (.free, .free, false, 1)] := by decide

/-- ControlPeriodLaw, a pair that runs: the first period of a DEGREES command moves the lead B by 34 × 5 milli-counts and A by
half of it; in SETTLE two tests short of tolerance count for each motor. -/
theorem test_pairPeriod :
    (let s := pairRuns .degrees (fun p => { p with target := 180, dv := 34, vt := 1000, vmax := 2000, tol := 6 })
    got (fun t => ((t.motor .b).profile.pRef, (t.motor .a).profile.pRef, (t.motor .b).profile.phase)) (exec .controlPeriod s) =
        some (170, 85, .accel) ∧
      s.motorPart .a = some ⟨720, 1000, 1⟩ ∧ s.classOf .a = some .motor ∧ s.classOf .b = some .motor) ∧
    (let s := pairRuns .degrees (fun p => { p with target := 3, tol := 6, vmax := 2000, settling := true, inTol := 1 })
    got (fun t => ((t.motor .a).profile.inTol, (t.motor .b).profile.inTol)) (exec .controlPeriod s) = some (2, 2)) := by decide

/-- ControlPeriodLaw: its premises on a hub with a running pair. -/
theorem test_witness_pairPeriod (f : Profile → Profile) :
    (∀ p, (pairRuns .degrees f).Unpaired p ∨
      ∃ k q, (pairRuns .degrees f).Bound k q ∧ (p = q.first ∨ p = q.second)) ∧
    (∀ k q, (pairRuns .degrees f).pair k = some q → (pairRuns .degrees f).Bound k q) ∧
    (∀ l k w, (pairRuns .degrees f).watch l k = some w → w.action = .none) ∧
    ((pairRuns .degrees f).motor .a).profile.settling = ((pairRuns .degrees f).motor .b).profile.settling ∧
    ((pairRuns .degrees f).motor .a).profile.settleTimer = ((pairRuns .degrees f).motor .b).profile.settleTimer ∧
    (MoveKind.degrees ≠ .duty) := by
  refine ⟨fun p => ?_, fun k q h => ?_, fun (l : Link) (k : Nat) (w : Watch) h => ?_, rfl, rfl, by decide⟩
  rotate_left
  · rw [pairRuns_pair] at h
    split at h
    next e => subst e; cases h; exact pairRuns_bound ..
    next => cases h
  · cases l <;> cases h
  cases p
  · exact .inr ⟨2, _, pairRuns_bound .., .inl rfl⟩
  · exact .inr ⟨2, _, pairRuns_bound .., .inr rfl⟩
  all_goals exact .inl ⟨rfl, fun c h => (by cases h), fun c h => (by cases h)⟩

/-- ViewSetAnswered: a view of the sensor at 50 ms sends SET INTERVAL 50; one of port I at 5 ms lowers its interval. -/
theorem test_viewRecomputes :
    got (fun t => ((t.port .c).sent, (t.port .c).sentInterval)) (exec (.viewSet .pl 1#8) (ask bench .pl .viewSet
      (bytes [2, 1, 50, 0, 0, 0, 255, 0, 0, 0, 0, 0]))) = some ([.setInterval 50], some 50000) ∧
    got (fun t => (t.sharedI.interval, t.sharedI.accelRange)) (exec (.viewSet .pl 1#8) (ask bench .pl .viewSet
      (bytes [6, 1, 5, 0, 0, 0, 255, 0, 0, 0, 0, 0]))) = some (5000, 2000) := by decide

/-- PortISampleTaken: a LOW view of strength 1 whose filter stands at 100 takes 200 (150), limited at its own 120 mg; a
counter of 1 of 2 makes no output and returns to 0. -/
theorem test_viewChain :
    let v : View := { bench.view .pl .internal with
      interval := 80, filter := .low, strength := 1, accelRange := 120, filters := List.replicate 8 ⟨25600, 0, true⟩ }
    let see := fun (t : State) => ((t.view .pl .internal).output.values.head?, (t.view .pl .internal).output.clipped.head?,
      (t.view .pl .internal).counter, (t.view .pl .internal).fresh)
    [0, 1].map (fun n => got see (exec (.portISample 200 0 0 0 0 0) (bench.setView .pl .internal { v with counter := n }))) =
      [some (some 120, some true, 1, true), some (some 0, some false, 0, false)] := by decide

/-- PlayClipAnswered: PLAY CLIP at priority 7 steals voice 0 from a pinned clip of asset 5: the version keeps one pin. -/
theorem test_clipSteals :
    let s0 := playing (List.replicate 4 (voiceOf (clip 1 0) .playing 0 none)) []
    let s : State := { s0 with assets := { s0.assets with
      directory := s0.assets.directory.set .absent 5 ⟨.present ⟨clipVersion, 4, 0⟩, .fixed, 1, false, false⟩ } }
    got (fun t => ((t.entry 5).content, (t.entry 5).read, (t.voice .v0).map (fun y => y.sound.priority),
        (t.link .pl).notices.length)) (exec (.playClip .pl 1#8) (ask s .pl .playClip (bytes [5, 0, 7, 50, 0, 0, 0, 0, 1]))) =
      some (.present ⟨clipVersion, 4, 0⟩, true, some 7, 1) := by decide

/-- SoundsEnd: the last pin of a retired version in block 20 takes it off the list and frees the block. -/
theorem test_lastPin :
    let x : Sound := { clip 1 0 with part := .clip 200 200 1 4 3000 .u8at16k 0 1 0 0 }
    let s0 := playing [voiceOf x .priming 9 none] []
    got (fun t => (t.assets.retired, (t.block 20).state)) (exec (.soundStarved .v0) { s0 with
      assets := { s0.assets with retired := [⟨200, dataVersion, 1, 1⟩] }
      media := { s0.media with blocks := s0.media.blocks.set .unscanned 20 ⟨.retired, 3⟩ } }) = some ([], .freeDirty) := by decide

/-- A page read without corrections, and one with an uncorrectable sector. -/
def goodRead (data : List Byte) : PageRead := ⟨[some 0, some 0, some 0, some 0], data⟩
def badRead : PageRead := ⟨[none, some 0, some 0, some 0], []⟩

/-- The bench with a read or a probe of PL's whose page 0 is in progress. -/
def reading (p : ReadPurpose) (pages : List ReadPage) : State :=
  ((working ⟨.read, 20, 0, .readJob ⟨.pl, 0⟩ 0⟩).setLink .pl { upUnit with table := [⟨1#8, .assetRead, 0, 0, .working⟩] }).setAssets
    { bench.assets with reads := [⟨⟨.pl, 0⟩, p, 200, 4, 2, false, pages⟩] }

/-- FlashOperationsEnd: the first of two pages waits for the other and the second answers across the border of the pages;
a bad one answers at once; a probe answers its record of 16 bytes, MEDIA ERROR without version, block and page. -/
theorem test_readsEnd :
    got (fun t => ((t.link .pl).ready.length, t.assets.reads.map (fun j => j.pages.map (fun p => p.data.isSome)))) (exec
      (.pageReadComplete (goodRead [1#8])) (reading (.asset 200 2047 2) [⟨20, 0, none⟩, ⟨20, 1, none⟩])) =
        some (0, [[true, false]]) ∧
    reply .pl (exec (.pageReadComplete (goodRead [9#8])) (reading (.asset 200 0 2) [⟨20, 0, none⟩, ⟨20, 1, some [7#8]⟩])) =
      some (.normalCompletion, bytes [4, 0, 2, 0, 9, 7]) ∧
    reply .pl (exec (.pageReadComplete badRead) (reading (.asset 200 0 2) [⟨20, 0, none⟩, ⟨20, 1, none⟩])) =
      some (.mediaError, []) ∧
    (let s := reading (.probe 300 0) [⟨20, 0, none⟩]
    let t := s.setLink .pl { upUnit with table := [⟨1#8, .probePage, 0, 0, .working⟩] }
    [goodRead [], badRead].map (fun r => reply .pl (exec (.pageReadComplete r) t)) =
      [some (.normalCompletion, bytes [0, 44, 1, 200, 0, 4, 0, 20, 0, 0, 0, 0, 0]),
        some (.mediaError, bytes [9, 44, 1, 200, 0, 0, 0, 0, 0, 0, 0, 0, 0])] ∧
      s.assets.reads.find? (fun j => decide (j.ticket = ⟨.pl, 0⟩)) = some ⟨⟨.pl, 0⟩, .probe 300 0, 200, 4, 2, false, [⟨20, 0, none⟩]⟩) := by
  decide

/-- The bench with a refresh of block 20 into block 30, and this operation of it in progress. -/
def copying (page : Nat) (o : FlashOp) : State := { refreshing .freeClean with media := { (refreshing .freeClean).media with
  refresh := some ⟨20, 30, page⟩, op := some o } }

/-- FlashOperationsEnd: a refresh's read asks its program into the destination; an uncorrectable one abandons the refresh. -/
theorem test_refreshRead :
    let s := copying 5 ⟨.read, 20, 5, .refreshRead 5⟩
    got (fun t => t.media.class4) (exec (.pageReadComplete (goodRead [1#8])) s) =
      some [⟨.program, 30, 5, .refreshProgram 5 [1#8]⟩] ∧
    got (fun t => (t.media.refresh, t.media.refreshList, (t.block 30).state)) (exec (.pageReadComplete badRead) s) =
      some (none, [], .freeDirty) ∧ s.media.refresh = some ⟨20, 30, 5⟩ := by decide

/-- A refresh whose old block is pinned by a clip. -/
def pinnedCopy : State :=
  let s := copying 63 ⟨.verify, 30, 63, .refreshProgram 63 []⟩
  { s with assets := { s.assets with
    directory := s.assets.directory.set .absent 200 ⟨.present ⟨dataVersion, 1, 0⟩, .opened, 4, true, false⟩ } }

/-- VerifiesComplete: page 6 after page 5; after page 63 the REMAP record, or a postponed block where it is pinned now; a
failed page takes a SPARE block, else a FREE-CLEAN one, else ends the refresh and leaves READ-ONLY. -/
theorem test_refreshPages :
    let ok := [some 0, some 0, some 0, some 0]
    got (fun t => t.media.class4) (exec (.verifyComplete ok) (copying 5 ⟨.verify, 30, 5, .refreshProgram 5 []⟩)) =
      some [⟨.read, 20, 6, .refreshRead 6⟩] ∧
    got (fun t => (t.media.records, t.media.refresh)) (exec (.verifyComplete ok) (copying 63 ⟨.verify, 30, 63, .refreshProgram 63 []⟩)) =
      some ([⟨.remap 20 30, .remap, false⟩], some ⟨20, 30, 64⟩) ∧
    got (fun t => (t.media.refreshList, t.media.refresh, (t.block 30).state)) (exec (.verifyComplete ok) pinnedCopy) =
      some ([⟨20, true⟩], none, .freeDirty) := by decide

theorem test_refreshFails : [BlockState.spare, .freeClean, .live].map (fun x =>
      let s := copying 5 ⟨.verify, 30, 5, .refreshProgram 5 []⟩
      got (fun t => (t.media.refresh, (t.block 30).state, t.media.records.length, t.media.store)) (exec
        (.verifyComplete [some 3, some 0, some 0, some 0]) { s with media := { s.media with
          blocks := s.media.blocks.set .unscanned 31 ⟨x, 0⟩ } })) =
    [some (some ⟨20, 31, 0⟩, .bad, 2, some .ready), some (some ⟨20, 31, 0⟩, .bad, 1, some .ready),
      some (none, .bad, 1, some .readOnly)] := by decide

/-- A compaction that writes snapshot page `i` into ring block 1, perhaps for a format. -/
def snapping (i tried : Nat) (source : Option Nat) (f : Option Format) (rs : List PendingRecord) : State :=
  { bench.setLink .pl { upUnit with table := [⟨1#8, .formatUser, 0, 0, .working⟩] } with
    assets := { bench.assets with change := some ⟨⟨.pl, 0⟩, .delete 200, []⟩ }
    media := { bench.media with
      op := some ⟨.verify, 1, i, .snapshotPage i (.body [])⟩, format := f, records := rs
      compaction := some ⟨source, 1, tried, some (i, ⟨2, [], [], []⟩)⟩ } }

/-- VerifiesComplete: a snapshot has 2 to 16 pages, so page 0 is followed by another and page 15 by none. -/
theorem test_witness_snapshot (x : SnapshotImage) :
    0 + 1 < 2 + min 14 (Config.entryPages x) ∧ 2 + min 14 (Config.entryPages x) ≤ 15 + 1 ∧
    (snapping 15 8 none (some ⟨⟨.pl, 0⟩, []⟩) []).media.op = some ⟨.verify, 1, 15, .snapshotPage 15 (.body [])⟩ ∧
    (snapping 15 7 (some 0) none []).media.compaction = some ⟨some 0, 1, 7, some (15, ⟨2, [], [], []⟩)⟩ :=
  ⟨by omega, by omega, rfl, rfl⟩

/-- A snapshot that is complete puts its ring block in use, and makes a formatted store READY with its response. -/
theorem test_snapshotDone :
    let done := fun (s : State) => s.snapshotDone ⟨none, 1, 1, none⟩ ⟨2, [], [], []⟩
    (let t := done (snapping 15 1 (some 0) none [])
    (t.media.ring, t.media.sequence, t.media.compaction) = (some 1, 2, none)) ∧
    (let t := done (snapping 15 1 none (some ⟨⟨.pl, 0⟩, []⟩) [])
    (t.media.format, (t.link .pl).ready.length, (t.link .tl).notices.length) = (none, 1, 1)) := by decide

/-- VerifiesComplete: a failed page passes to ring block 2; with seven tried the change is answered MEDIA ERROR and the store
is READ-ONLY; a format tries eight and leaves OFFLINE. -/
theorem test_snapshotFails :
    let bad := [some 3, some 0, some 0, some 0]
    got (fun t => (t.media.compaction, t.media.class4)) (exec (.verifyComplete bad) (snapping 0 6 (some 0) none [])) =
      some (some ⟨some 0, 2, 7, none⟩, [⟨.erase, 2, 0, .ringErase⟩]) ∧
    (let s := snapping 0 7 (some 0) none [⟨.delete 200, .change, false⟩]
    reply .pl (exec (.verifyComplete bad) s) = some (.mediaError, []) ∧
      got (fun t => (t.media.store, t.media.records, t.assets.change)) (exec (.verifyComplete bad) s) =
        some (some .readOnly, [], none)) ∧
    got (fun t => (t.media.store, t.media.format, t.media.ring, (t.link .tl).notices.length)) (exec (.verifyComplete bad)
      (snapping 0 8 none (some ⟨⟨.pl, 0⟩, []⟩) [])) = some (some .offline, none, none, 1) := by
  refine ⟨by decide, by decide, by decide⟩

/-- The bench with a format whose spares these blocks are, the erase of block 30 in progress. -/
def sparing (bs : List Nat) : State := { working ⟨.erase, 30, 0, .spareErase 30⟩ with media := {
  (working ⟨.erase, 30, 0, .spareErase 30⟩).media with format := some ⟨⟨.pl, 0⟩, bs⟩ } }

/-- FlashOperationsEnd: an erased spare leaves the list, the last one begins the snapshot in ring block 1; a failed one is BAD
and block 9, being FACTORY, is passed over for block 10; the erase writes its count, here 1, into the header. -/
theorem test_spares :
    got (fun t => (t.media.format.map (fun f => f.toErase), t.media.compaction)) (exec (.eraseComplete true) (sparing [30, 31])) =
      some (some [31], none) ∧
    got (fun t => (t.media.compaction, t.media.class2)) (exec (.eraseComplete true) (sparing [30])) =
      some (some ⟨none, 1, 1, none⟩, [⟨.erase, 1, 0, .ringErase⟩]) ∧
    (sparing [30]).flashContent = some (.header 1) := by decide

theorem test_spareFails :
    got (fun t => ((t.block 30).state, (t.block 10).state, t.media.format.map (fun f => f.toErase)))
      (exec (.eraseComplete false) (sparing [30])) = some (.bad, .spare, some [10]) := by decide

/-- The bench's directory and block table, number by number. -/
theorem bench_entry (n : Nat) : bench.entry n =
    if n = 5 then ⟨.present ⟨clipVersion, 0, 0⟩, .fixed, 1, false, false⟩
    else if n = 200 then ⟨.present ⟨dataVersion, 0, 0⟩, .opened, 4, true, false⟩
    else if n = 300 then ⟨.aliasOf 200, .opened, 0, false, false⟩ else .absent := by
  simp only [bench, State.entry, Table.get, cellsGet, eq_comm (a := n)]
  

theorem bench_block (b : Nat) : bench.block b = if b = 20 then ⟨.live, 3⟩ else if b ≤ 7 then ⟨.catalogue, 0⟩
    else if b ≤ 9 then ⟨.factory, 0⟩ else ⟨.freeDirty, 0⟩ := by
  by_cases h : b ≤ 20
  · interval_cases b <;> rfl
  · rw [if_neg (by omega), if_neg (by omega), if_neg (by omega)]
    simp only [bench, State.block, Media.reset, initialBlocks, Table.get, List.cons_append, List.nil_append, cellsGet]
    repeat rw [if_neg (by omega)]
    rfl

/-- A clip of asset 5 in a voice and in the map cache, block 20 listed, and a session of PL on asset 200 in block 30. -/
def storing : State := { playing [voiceOf (clip 1 0) .priming 9 none] [] with
  assets := { bench.assets with
    directory := bench.assets.directory.set .absent 5 ⟨.present ⟨clipVersion, 1, 0⟩, .fixed, 1, false, false⟩
    cache := [⟨5, 0, 9, true⟩] }
  media := { (writing 0 []).media with refreshList := [⟨20, false⟩] } }

theorem storing_entry (n : Nat) : storing.entry n =
    if n = 5 then ⟨.present ⟨clipVersion, 1, 0⟩, .fixed, 1, false, false⟩ else bench.entry n := by
  simp only [storing, State.entry, Table.get_set]

theorem storing_block (b : Nat) : storing.block b = if b = 30 then ⟨.session, 0⟩ else bench.block b := by
  simp only [storing, writing, State.block, Table.get_set]

/-- VersionsStayAgreed: a store at work agrees. -/
theorem storing_agrees : storing.VersionsAgree where
  stores := ⟨test_witness_sound.2.1, by decide, fun _ _ => rfl, by decide, by decide, by decide, by decide, by decide⟩
  directory := by decide
  numbers := by decide
  current := fun h V hv => by
    simp only [storing_entry, bench_entry] at hv
    split at hv
    next e => cases hv; subst e; decide
    split at hv
    next e => cases hv; subst e; decide
    split at hv <;> cases hv
  retired := fun r hr => by cases hr
  once := by decide
  sounds := fun x hx h n hp => by
    cases hx with
    | tail _ hx => cases hx
    | head => 
      simp [Sound.plays, voiceOf, clip] at hp
      obtain ⟨rfl, rfl⟩ := hp
      exact .inl ⟨⟨clipVersion, 1, 0⟩, by decide, rfl⟩
  cached := fun e he => by
    cases he with
    | tail _ he => cases he
    | head => exact ⟨by decide, 5, ⟨clipVersion, 1, 0⟩, .inl ⟨by decide, rfl⟩, by decide⟩
  keys := by decide
  factory := fun n hn t ht => by
    simp only [storing_entry, bench_entry] at ht
    split at ht
    next => cases ht
    split at ht
    next => cases ht
    split at ht
    next => omega
    next => cases ht
  change := fun c hc => by cases hc
  live := fun b hb => ⟨200, ⟨dataVersion, 0, 0⟩, by decide, by decide, by
    simp only [storing_block, bench_block] at hb
    by_cases h : b = 20
    · subst h; decide
    · simp only [h, if_false] at hb; (repeat' split at hb) <;> cases hb⟩
  retiredBlocks := fun b hb => by
    simp only [storing_block, bench_block] at hb
    (repeat' split at hb) <;> cases hb
  sessionBlocks := fun b hb => ⟨_, rfl, by
    simp only [storing_block, bench_block] at hb
    by_cases h : b = 30
    · subst h; decide
    · simp only [h, if_false] at hb; (repeat' split at hb) <;> cases hb⟩
  session := fun x hx => by cases hx; decide
  commits := fun r hr => by cases hr
  commit := by decide
  refreshing := fun r hr => by cases hr
  listed := fun i hi => by
    cases hi with
    | tail _ hi => cases hi
    | head => decide
  starting := fun h => absurd rfl h

/-- VersionsStayAgreed: its step premise, with a well-formed command and with none. -/
theorem test_witness_versions : storing.pending = [] ∧ (Instr.soundStarved .v0).wf = true ∧
    got (fun t => (t.entry 5).content) (exec (.soundStarved .v0) storing) = some (.present ⟨clipVersion, 0, 0⟩) := by decide

/-- CommandsEndByThemselves: a pair's TIME command past its 5 periods turns its lead B to the ramp-down, one at 5 does not;
a channel and a pair without an active command stay as they are, and so does a hub under RESET. -/
theorem test_timeRunEnd_pair :
    (let run := fun (n : Nat) => let s := pairRuns .time (fun p => { p with elapsed := n })
      s.setMotor .a { s.motor .a with active := (s.motor .a).active.map (fun c => { c with amount := 25 }) }
    [5, 6].map (fun n => got (fun t => ((t.motor .a).profile.rampDown, (t.motor .b).profile.rampDown, (t.motor .b).profile.phase))
      (exec (.timeRunEnd .a) (run n))) = [some (false, false, .idle), some (false, true, .decel)]) ∧
    (bench.motor .a).active = none ∧ bench.Unpaired .a ∧ paired.Bound 2 ⟨.a, .b, 60, .pl⟩ ∧ (paired.motor .a).active = none ∧
    got (fun t => decide (t = paired)) (exec (.settleDone .b) paired) = some true := by
  refine ⟨by decide, rfl, ⟨rfl, fun c h => (by cases h), fun c h => (by cases h)⟩,
    ⟨rfl, by decide, ⟨rfl, rfl⟩, ⟨rfl, rfl⟩, fun c h => (by cases h)⟩, rfl, by decide⟩

/-- DetectorsTakeASample: a sample that confirms a double tap, ends a fall and begins motion hands PL its notices in the order
of the kinds 2, 4 and 5. -/
theorem test_severalEvents :
    got (fun t => (t.link .pl).notices.map (fun n => match n.body with | .brickEvent k .. => brickKindCode k | _ => 9))
      (exec (.portISample 301 0 0 501 0 0) (sensing true true true { DetectorWork.reset with
        tapPrev := some (0, 0, 0), tapStage := .quiet, tapSecond := true } { bench.brick with falling := true })) =
      some [2, 4, 5] ∧ (∀ l, (bench.view l .internal).interval = 0) := by
  refine ⟨by decide, fun l => by cases l <;> rfl⟩

/-- OutputSampleMixes: the last byte of page 0 empties the first buffer, output passes to the second, and page 2 is asked for
the first from block 9; a full second buffer and its page 1 stay. -/
theorem test_pageLeft :
    let y : Voice := { voiceOf (clip 1 2047) .playing 0 (some ⟨0, []⟩) with buffer1 := some ⟨1, []⟩ }
    got (fun t => (t.voice .v0).map (fun z => (z.buffer0, z.buffer1, z.cur, z.refill))) (exec .outputSample (playing [y] [])) =
      some (some (none, some ⟨1, []⟩, true, some ⟨false, 2, 9, 2⟩)) := by decide

/-- OutputSampleMixes: in one sample the last sample of a tone, the last byte of a clip and a timer that runs out end their
sounds; the queue heads take their voices in voice order, and a clip with loops left goes on at its offset. -/
theorem test_sampleEnds :
    let ys := [voiceOf (tone 3 1) .playing 0 none, voiceOf (clip 1 4999) .playing 0 (some ⟨2, []⟩),
      voiceOf (clip 1 0) .starving 1 none, voiceOf (clip 2 4999) .playing 0 (some ⟨2, []⟩)]
    got (fun t => ((t.link .pl).notices.length, [VoiceId.v0, .v1, .v2].map (fun v => (t.voice v).map (fun z => z.sound.priority))))
      (exec .outputSample (playing ys [tone 6 9, tone 5 9])) = some (3, [some 6, some 5, none]) ∧
    got (fun t => (t.voice .v3).map (fun z => (z.sound.part, z.refill))) (exec .outputSample (playing ys [])) =
      some (some (.clip 5 5 0 1 5000 .u8at16k 0 2 1 0, some ⟨false, 0, 9, 0⟩)) ∧
    (∀ r ∈ (playing ys []).assets.retired, 0 < r.version.pins) := by
  refine ⟨by decide, by decide, fun r h => by cases h⟩

/-- AssetReadsAnswered: a read over the border of two pages of block 20 puts its key into the cache and finds it there for the
second page. -/
theorem test_readCache :
    got (fun t => (t.assets.cache, t.assets.reads.map (fun j => j.pages.map (fun p => (p.block, p.page))))) (exec
      (.assetRead .pl 1#8) (ask bench .pl .assetRead (bytes [200, 0, 0xFF, 7, 0, 0, 0, 2]))) =
      some ([⟨200, 0, 20, false⟩], [[(20, 0), (20, 1)]]) := by decide

/-- The bench's session on block 30 with page 0 stored in block 29, a repair of place 0 under way, and this operation of it in
progress; the chunk of the page to program again awaits its answer. -/
def repairing (o : FlashOp) : State :=
  let again : PageWork := ⟨1, [5#8], some ⟨.pl, 0⟩⟩
  { bench.setLink .pl { upUnit with table := [⟨1#8, .writeChunk, 0, 0, .working⟩] } with media := { bench.media with
    op := some o, blocks := (bench.media.blocks.set .unscanned 29 ⟨.bad, 0⟩).set .unscanned 30 ⟨.session, 0⟩
    session := some ⟨.pl, 200, .data, .none, 4000, [30], [30], 4000, [], none, [⟨0, 0, 29⟩], [⟨0, [again]⟩]⟩ } }

/-- FlashOperationsEnd and VerifiesComplete: the copy of a page is programmed into the replacement, then the failed page again;
a copy that cannot be read ends the session, with MEDIA ERROR to the chunk and STORE EVENT to both links. -/
theorem test_copies :
    got (fun t => t.media.class2) (exec (.pageReadComplete (goodRead [1#8])) (repairing ⟨.read, 29, 0, .copyRead 0 0⟩)) =
      some [⟨.program, 0, 0, .copyProgram 0 0 [1#8]⟩] ∧
    (let t := exec (.pageReadComplete badRead) (repairing ⟨.read, 29, 0, .copyRead 0 0⟩)
    reply .pl t = some (.mediaError, []) ∧
      got (fun t => ((t.link .tl).notices.length, t.media.session, (t.block 30).state)) t = some (1, none, .freeDirty)) ∧
    got (fun t => (t.media.class2, t.media.session.map (fun y => (y.pages, y.repairs)))) (exec (.verifyComplete [some 2])
      (repairing ⟨.verify, 30, 0, .copyProgram 0 0 []⟩)) =
      some ([⟨.program, 0, 1, .sessionPage 0 ⟨1, [5#8], some ⟨.pl, 0⟩⟩⟩], some ([⟨0, 0, 30⟩], [])) := by decide

/-- VerifiesComplete: a copy that fails goes on into the next replacement; with no block left the chunk is answered MEDIA ERROR,
STORE EVENT goes to both links and the store is READ-ONLY. -/
theorem test_copyFails :
    (let s := repairing ⟨.verify, 30, 0, .copyProgram 0 0 []⟩
    got (fun t => (t.media.session.map (fun y => (y.reserved, y.unerased)), (t.block 30).state,
        t.media.class2.filter (fun o => decide (o.kind = .read)))) (exec (.verifyComplete [some 3]) { s with media := { s.media with
          blocks := s.media.blocks.set .unscanned 31 ⟨.spare, 0⟩ } }) =
      some (some ([31], []), .bad, [⟨.read, 29, 0, .copyRead 0 0⟩]) ∧
    reply .pl (exec (.verifyComplete [some 3]) s) = some (.mediaError, []) ∧
    got (fun t => ((t.link .tl).notices.length, t.media.store, (t.block 30).state)) (exec (.verifyComplete [some 3]) s) =
      some (1, some .readOnly, .bad)) ∧ ((repairing ⟨.read, 29, 0, .copyRead 0 0⟩).block 30).state = .session := by decide

/-- FlashOperationsEnd: an erase for the session, its own or a background one begun before, leaves the block reserved and
erased; a failed one brings the replacement. -/
theorem test_sessionErases :
    [Work.sessionErase 30, .dirtyErase 30].map (fun w => got (fun t => (t.media.session.map (fun y => y.unerased), t.block 30))
      (exec (.eraseComplete true) (repairing ⟨.erase, 30, 0, w⟩))) =
      [some (some [], ⟨.session, 1⟩), some (some [], ⟨.session, 1⟩)] ∧
    got (fun t => (t.block 30, t.media.store)) (exec (.eraseComplete false) (repairing ⟨.erase, 30, 0, .sessionErase 30⟩)) =
      some (⟨.bad, 1⟩, some .readOnly) ∧
    [30].findIdx? (fun j => j == 30) = some 0 := by decide

/-- R155: a block of the list that goes BAD under the program of an ended session is not erased for the present one. -/
theorem test_badNotErased :
    let s := repairing ⟨.program, 30, 0, .orphan⟩
    got (fun t => (t.media.class2.filter (fun o => decide (o.kind = .erase)), (t.block 30).state,
        t.media.session.map (fun y => y.reserved))) (exec (.programComplete false) { s with media := { s.media with
      class2 := [⟨.erase, 30, 0, .sessionErase 30⟩], blocks := s.media.blocks.set .unscanned 31 ⟨.spare, 0⟩ } }) =
      some ([], .bad, some [31]) := by decide

/-- SupplyReadingTaken: at CUTOFF SUPPLY CHANGED comes first, then a pair's two commands SUPPLY, then a sound, and the chunk that
waits is answered SUPPLY LOW; every port of a hub with a pair is bound or outside any pair. -/
theorem test_cutoffTells :
    (let s := { pairRuns .degrees id with
      links := (repairing ⟨.read, 29, 0, .copyRead 0 0⟩).links, media := (repairing ⟨.read, 29, 0, .copyRead 0 0⟩).media
      sound := (playing [voiceOf (tone 3 9) .playing 0 none] []).sound
      supply := ⟨List.replicate 8 5399, some 5400, some .low, 0⟩ }
    let o := exec (.supplyReading 5399) s
    got (fun t => (t.link .pl).notices.map (fun n => noticeCode n.body)) o = some [0x87, 0x82, 0x82, 0x85] ∧
      reply .pl o = some (.supplyLow, [])) ∧
    (∀ p, ∃ bound, (pairRuns .degrees id).Binding p bound) := by
  refine ⟨by decide, fun p => ?_⟩
  cases p
  · exact ⟨some (2, ⟨.a, .b, 60, .pl⟩), pairRuns_bound .., .inl rfl⟩
  · exact ⟨some (2, ⟨.a, .b, 60, .pl⟩), pairRuns_bound .., .inr rfl⟩
  all_goals exact ⟨none, rfl, fun c h => (by cases h), fun c h => (by cases h)⟩

/-- WriteSessionRequests: a session opened beside a refresh copy of the LIVE block 20 passes over its destination 30. -/
theorem test_openBesideCopy :
    let s := refreshing .freeClean
    let t : State := { s with media := { s.media with refresh := some ⟨20, 30, 5⟩ } }
    (t.block 20).state = .live ∧
    got (fun u => (u.media.session.map (fun y => decide (30 ∈ y.reserved)), u.media.refresh)) (exec (.writeOpen .pl 1#8)
      (ask t .pl .writeOpen (bytes [128, 0, 2, 0, 1, 0, 0, 0]))) = some (some false, some ⟨20, 30, 5⟩) := by decide

/-- The bench's session on blocks 30 and 31 with 2,048 bytes written, the program of page 0 waiting for its verify, and this
close. -/
def closing (c : Option Closing) (w : PageWork) : State :=
  { bench.setLink .pl { upUnit with table := [⟨1#8, .writeChunk, 0, 0, .working⟩, ⟨2#8, .writeClose, 1, 0, .working⟩] } with
    media := { bench.media with
      op := some ⟨.verify, 30, 0, .sessionPage 0 w⟩
      blocks := (bench.media.blocks.set .unscanned 30 ⟨.session, 0⟩).set .unscanned 31 ⟨.session, 0⟩
      session := some ⟨.pl, 200, .data, .none, 140000, [30, 31], [31], 2048, [], c, [], []⟩ } }

/-- WriteSessionRequests and VerifiesComplete: WRITE CLOSE with a program outstanding only turns the session CLOSING; the verify
that ends it answers the chunk, gives up block 31 and hands over the COMMIT record; in OPEN it answers the chunk alone. -/
theorem test_closingGoesOn :
    got (fun t => (t.media.session.map (fun y => (y.closing, y.reserved)), t.media.records)) (exec (.writeClose .pl 1#8)
      { ask bench .pl .writeClose [] with media := (closing none ⟨0, [], none⟩).media }) =
      some (some (some ⟨⟨.pl, 0⟩, false⟩, [30, 31]), []) ∧
    [none, some ⟨⟨.pl, 1⟩, false⟩].map (fun c => got (fun t => ((t.link .pl).ready.length, t.media.session.map (fun y =>
        y.reserved), (t.block 31).state, t.media.records.map (fun r => r.record)))
      (exec (.verifyComplete [some 2]) (closing c ⟨0, [], some ⟨.pl, 0⟩⟩))) =
      [some (1, some [30, 31], .session, []),
        some (1, some [30], .freeDirty, [.commit 200 ⟨5, .data, .none, 2048, [(30, 1)]⟩])] := ⟨by decide, by decide⟩

/-- VerifiesComplete: a page that passes in a block replaced meanwhile answers its chunk, and its copy is asked; the copy that
ends the last repair of a CLOSING session hands over the COMMIT record. -/
theorem test_movedPage :
    (let s := closing none ⟨0, [], some ⟨.pl, 0⟩⟩
    got (fun t => ((t.link .pl).ready.length, t.media.class2, t.media.session.map (fun y => y.repairs))) (exec
      (.verifyComplete [some 2]) { s with media := { s.media with op := some ⟨.verify, 29, 0, .sessionPage 0 ⟨0, [], some ⟨.pl, 0⟩⟩⟩ } }) =
      some (1, [⟨.read, 29, 0, .copyRead 0 0⟩], some [⟨0, []⟩])) ∧
    (let s := closing (some ⟨⟨.pl, 1⟩, false⟩) ⟨0, [], none⟩
    got (fun t => (t.media.session.map (fun y => (y.pages, y.repairs)), t.media.records.length)) (exec
      (.verifyComplete [some 2]) { s with media := { s.media with
        op := some ⟨.verify, 30, 0, .copyProgram 0 0 []⟩
        session := s.media.session.map (fun y => { y with pages := [⟨0, 0, 29⟩], repairs := [⟨0, []⟩] }) } }) =
      some (some ([⟨0, 0, 30⟩], []), 1)) := ⟨by decide, by decide⟩

/-- FlashArbiterAndBackground: the program of a copy goes to the block now at its place. -/
theorem test_copyPlaced :
    let s := closing none ⟨0, [], none⟩
    got (fun t => t.media.op) (exec .flashArbiterChoose { s with media := { s.media with
      op := none, class2 := [⟨.program, 0, 0, .copyProgram 1 4 []⟩] } }) =
      some (some ⟨.program, 31, 4, .copyProgram 1 4 []⟩) := by decide

/-- VerifiesComplete: the record in the last page of ring block 0 brings the compaction into block 1, in class 2 where another
record waits on it and in class 4 where none does. -/
theorem test_ringFull :
    [[], [⟨.bad 3, .bookkeeping, false⟩]].map (fun more => got (fun t => (t.media.mustCompact, t.media.compaction.map (fun c => c.target),
        t.media.class2.map (fun o => o.block), t.media.class4.map (fun o => o.block))) (exec (.verifyComplete [some 0]) { bench with media := { bench.media with
          pagesUsed := 63, op := some ⟨.verify, 0, 63, .record (.bad 3)⟩, appending := true
          records := ⟨.bad 3, .bookkeeping, true⟩ :: more } })) =
      [some (true, some 1, [], [1]), some (true, some 1, [1], [])] := by decide

/-- VerifiesComplete: a COMMIT of 100 bytes in block 30 starts the reads of the superseded version again: one of byte 50 finds
block 30, one of byte 200 lies beyond the end, and a probe by the alias comes last. -/
theorem test_readsRestart :
    let job := fun (k : Nat) (p : ReadPurpose) => (⟨⟨.pl, k⟩, p, 200, 4, 2, false, [⟨20, 0, none⟩]⟩ : ReadJob)
    let s := closing (some ⟨⟨.pl, 1⟩, true⟩) ⟨0, [], none⟩
    let t := exec (.verifyComplete [some 0]) { s with
      links := ⟨{ upUnit with table := [⟨1#8, .assetRead, 0, 0, .working⟩, ⟨2#8, .writeClose, 1, 0, .working⟩,
        ⟨3#8, .assetRead, 2, 0, .working⟩, ⟨4#8, .probePage, 3, 0, .working⟩] }, upUnit⟩
      assets := { s.assets with reads := [job 0 (.asset 200 200 2), job 2 (.asset 200 50 2), job 3 (.probe 300 0)] }
      media := { s.media with
        op := some ⟨.verify, 0, 16, .record (.commit 200 ⟨5, .data, .none, 100, [(30, 1)]⟩)⟩
        class3 := [⟨.read, 20, 0, .readJob ⟨.pl, 0⟩ 0⟩, ⟨.read, 20, 0, .readJob ⟨.pl, 2⟩ 0⟩, ⟨.read, 20, 0, .readJob ⟨.pl, 3⟩ 0⟩]
        records := [⟨.commit 200 ⟨5, .data, .none, 100, [(30, 1)]⟩, .commit, true⟩] } }
    got (fun u => (u.assets.reads.map (fun j => (j.ticket.serial, j.version, j.pages)), u.media.class3.map (fun o => o.block))) t =
        some ([(2, 5, [⟨30, 0, none⟩]), (3, 5, [⟨30, 0, none⟩])], [30, 30]) ∧
      got (fun u => (u.link .pl).ready) t = some [.response 0 1#8 .assetRead .parameterError [],
        .response 1 2#8 .writeClose .normalCompletion (bytes [5, 0])] := by decide

/-- StoreStateAndFormat: a read of a user version under way is answered NO SUCH ASSET by the format. -/
theorem test_formatEndsReads :
    let s := reading (.asset 200 0 2) [⟨20, 0, none⟩]
    let x := ask bench .pl .formatUser []
    got (fun t => (t.assets.reads, t.media.op.map (fun o => o.work), (t.link .pl).ready)) (exec (.formatUser .pl 1#8)
      { s with links := ⟨{ (x.link .pl) with table := (x.link .pl).table ++ [⟨2#8, .assetRead, 1, 0, .working⟩] }, upUnit⟩
               assets := { s.assets with reads := s.assets.reads.map (fun j => { j with ticket := ⟨.pl, 1⟩ }) }
               media := { s.media with op := some ⟨.read, 20, 0, .readJob ⟨.pl, 1⟩ 0⟩ } }) =
      some ([], some .orphan, [.response 1 2#8 .assetRead .noSuchAsset []]) := by decide

/-- SupplyReadingTaken: the entry to CUTOFF withdraws a waiting background erase and abandons the refresh. -/
theorem test_cutoffStops :
    let s := copying 5 ⟨.read, 20, 5, .refreshRead 5⟩
    got (fun t => (t.media.class4, t.media.refresh, t.media.op.map (fun o => o.work), (t.block 30).state)) (exec (.supplyReading 0)
      { s with
        media := { s.media with class4 := [⟨.erase, 40, 0, .dirtyErase 40⟩] }
        supply := ⟨List.replicate 8 5400, some 5400, some .low, 0⟩ }) = some ([], none, some .orphan, .freeDirty) := by decide

/-- PlayToneAnswered and SoundRequestsAnswered: a tone that steals from a clip, and SOUND STOP of both clips, drop their pins. -/
theorem test_pinsDropped :
    let pinned := fun (s : State) => { s with assets := { s.assets with
      directory := s.assets.directory.set .absent 5 ⟨.present ⟨clipVersion, 4, 0⟩, .fixed, 1, false, false⟩ } }
    got (fun t => (t.entry 5).content) (exec (.playTone .pl 1#8) (ask (pinned (playing (List.replicate 4
      (voiceOf (clip 1 0) .playing 0 none)) [])) .pl .playTone (bytes [7, 50, 0xB8, 1, 0, 100, 0, 0, 0]))) =
      some (.present ⟨clipVersion, 3, 0⟩) ∧
    got (fun t => (t.entry 5).content) (exec (.soundStop .pl 1#8) (ask (pinned (playing [voiceOf (clip 1 0) .playing 0 none,
      voiceOf (clip 1 0) .playing 0 none] [])) .pl .soundStop (bytes [0, 0]))) = some (.present ⟨clipVersion, 2, 0⟩) ∧
    bench.RefreshLive := ⟨by decide, by decide, fun r hr => by cases hr⟩

/-- LinkGoesUpAndDown: LINK DOWN ends its link's session in OPEN and frees its blocks, and leaves one in CLOSING and one of the
other link. -/
theorem test_linkDown_session :
    [(none, .pl), (some ⟨⟨.pl, 1⟩, false⟩, .pl), (none, Link.tl)].map (fun x => got (fun t => (t.media.session.isSome,
      (t.block 30).state)) (exec (.linkDown x.2) (closing x.1 ⟨0, [], none⟩))) =
      [some (false, .freeDirty), some (true, .session), some (true, .session)] := by decide

/-! ### Samples through the views, halves, and the lines the hub drives -/

/-- SupervisionOfASensor and WatchesFire: raw 50 of 0 to 100 is 500 of 0 to 1,000. With the decimation counter at 0 it is
an output, which fires the watch above 100; at 1 of 2 the output and the watch stand and the counter returns to 0. -/
theorem test_dataReachesViews :
    let s := watching .armed 0 1 .none
    let see := fun (t : State) => ((t.view .pl (.port .c)).output.values, (t.view .pl (.port .c)).counter,
      (t.watch .pl 7).map (fun w => w.state))
    [0, 1].map (fun n => got see (exec (.deviceData .c 0 [50] (msg 10)) (s.setView .pl (.port .c)
      { s.view .pl (.port .c) with counter := n }))) =
      [some ([500], 1, some .fired), some ([120], 0, some .armed)] := by decide

/-- SupervisionOfASensor: a completed mode change restarts the view, so its sample is an output at once, and disarms the
watch before it. IdentificationMessages: so is the first DATA, whose view keeps its counter of 0. -/
theorem test_newModeReachesViews :
    let s := watching .armed 0 1 .none
    let see := fun (t : State) => ((t.view .pl (.port .c)).output.values, (t.view .pl (.port .c)).output.mode,
      (t.watch .pl 7).map (fun w => w.state))
    got see (exec (.deviceData .c 1 [5, 6] (msg 5)) ((s.setView .pl (.port .c) { s.view .pl (.port .c) with counter := 1 }).setPort
      .c { s.port .c with pendingMode := some ⟨1, ⟨.pl, 0⟩⟩ })) = some ([5, 6], some 1, some .disarmed) ∧
    got see (exec (.deviceData .c 0 [50] (msg 10)) (s.setPort .c { s.port .c with
      state := .identifying, stage := some .firstData, mode := none })) = some ([500], some 0, some .fired) := by decide

/-- ControlPeriodLaw: the motor sample of `test_controlPeriod` reaches TL's view of the port, with its offset of 7. -/
theorem test_motorReachesViews : got (fun t => ((t.view .tl (.port .a)).output.values, (t.view .tl (.port .a)).fresh))
    (exec .controlPeriod ((bench.setMotor .a { bench.motors.a with edges := 4 }).setView .tl (.port .a)
      { bench.view .tl (.port .a) with interval := 5, offsets := [7, 0, 0, 0, 0, 0, 0, 0] })) =
      some ([9, 100, 0, 0], true) := by decide

/-- IdentificationMessages: a MOTOR has no modes, so DATA on its port is unexpected. -/
theorem test_motorData : (bench.port .a).line ≠ .closed ∧ (bench.port .a).state = .active ∧ motorDevice.modes = [] ∧
    got (fun t => ((t.port .a).counts.received, (t.port .a).counts.unexpected)) (exec (.deviceData .a 0 [1] (msg 10)) bench) =
      some (1, 1) := by decide

/-- SourceAndFilterArithmetic: halves go away from zero (section 0.5). -/
theorem test_halves : [5, -5, 1, -1, 4, -4].map (fun a => nearest a 2) = [3, -3, 1, -1, 2, -2] ∧
    [1, -1].map (fun m => (scaleRaw ⟨0, 1, 0, 0, 2, 0, m, 0, 1⟩ 1).1) = [1, -1] := by decide

/-- LinkGoesUpAndDown: the view of `viewing` at its reset record. -/
theorem test_linkDown_view : got (fun t => t.view .pl (.port .c)) (exec (.linkDown .pl) viewing) =
    some (.reset 1) := by decide

/-- FrameSentEnds: ATTENTION with nothing to send, with a notice, with a rate queue, and the notice on a link that is DOWN
or while RESET is asserted. -/
theorem test_attention :
    let told := bench.notify .pl (.supplyChanged .low .normal 6000)
    [bench, told, rateWaits .q2, told.setLink .pl { told.link .pl with up := false },
      { told with hub := { told.hub with held := true } }].map State.attention = [false, true, true, false, false] := by decide

/-- ControlPeriodLaw: the bridge in each channel state (R42), on a port in FAULT (R30), on a sensor's port and under RESET. -/
theorem test_bridge :
    let at_ := fun (x : ChanState) => bench.setMotor .a { bench.motor .a with state := x, duty := 77 }
    [.free, .braked, .holding, .running].map (fun x => (at_ x).bridge .a) = [.off, .brake, .drive 77, .drive 77] ∧
    ((at_ .running).setPort .a { bench.port .a with state := .fault, fault := some .overload }).bridge .a = .off ∧
    bench.bridge .c = .off ∧ { at_ .running with hub := { bench.hub with held := true } }.bridge .a = .off := by decide

end Sys2Proof.Tests
end

/-! SUPPORT. Hand-overs: what the blocks of the hub can do to a Link Unit outside chapter 1. They take requests, answer
them and hand notices over (R8, R10), and nothing else. -/

namespace Sys2Proof.Machine

/-! ### One Link Unit -/

/-- `LinkUnit.Told a u v`: the unit `v` comes from `u` by hand-overs alone. Where `a` fails there has been none. -/
inductive LinkUnit.Told (a : Prop) (u : LinkUnit) : LinkUnit → Prop
  | same : LinkUnit.Told a u u
  | notice {v : LinkUnit} (n : Notice) : a → v.up = true → LinkUnit.Told a u v → LinkUnit.Told a u (v.queueNotice n)
  | take {v : LinkUnit} (serial : Nat) : a → LinkUnit.Told a u v → LinkUnit.Told a u (v.take serial)
  | response {v : LinkUnit} (serial : Nat) (j : Judgement) (b : List Byte) :
      a → LinkUnit.Told a u v → LinkUnit.Told a u (v.handOver serial j b)

@[simp] theorem LinkUnit.queueNotice_up (u : LinkUnit) (n : Notice) : (u.queueNotice n).up = u.up := by
  unfold LinkUnit.queueNotice
  split <;> rfl

@[simp] theorem LinkUnit.handOver_up (u : LinkUnit) (serial : Nat) (j : Judgement) (b : List Byte) :
    (u.handOver serial j b).up = u.up := by
  unfold LinkUnit.handOver
  split <;> rfl

theorem LinkUnit.take_empty {u : LinkUnit} (h : u.table = []) (serial : Nat) : u.take serial = u := by
  cases u
  simp_all [LinkUnit.take]

theorem LinkUnit.handOver_empty {u : LinkUnit} (h : u.table = []) (serial : Nat) (j : Judgement) (b : List Byte) :
    u.handOver serial j b = u := by
  simp [LinkUnit.handOver, h]

section Told
variable {a : Prop} {u v w : LinkUnit}

theorem LinkUnit.Told.trans (h : LinkUnit.Told a u v) (k : LinkUnit.Told a v w) : LinkUnit.Told a u w := by
  induction k with
  | same => exact h
  | notice n ha hu _ ih => exact .notice n ha hu ih
  | take serial ha _ ih => exact .take serial ha ih
  | response serial j b ha _ ih => exact .response serial j b ha ih

theorem LinkUnit.Told.mono {a' : Prop} (ha : a → a') (h : LinkUnit.Told a u v) : LinkUnit.Told a' u v := by
  induction h with
  | same => exact .same
  | notice n h1 hu _ ih => exact .notice n (ha h1) hu ih
  | take serial h1 _ ih => exact .take serial (ha h1) ih
  | response serial j b h1 _ ih => exact .response serial j b (ha h1) ih

/-- A unit that nothing is handed to is as it was. -/
theorem LinkUnit.Told.eq_of_not (ha : ¬ a) (h : LinkUnit.Told a u v) : v = u := by
  cases h with
  | same => rfl
  | notice _ h1 => exact absurd h1 ha
  | take _ h1 => exact absurd h1 ha
  | response _ _ _ h1 => exact absurd h1 ha

theorem LinkUnit.Told.up_eq (h : LinkUnit.Told a u v) : v.up = u.up := by
  induction h with
  | same => rfl
  | notice n _ _ _ ih => rw [LinkUnit.queueNotice_up, ih]
  | take _ _ _ ih => exact ih
  | response serial j b _ _ ih => rw [LinkUnit.handOver_up, ih]

/-- A DOWN unit without entries takes nothing (R8, R10). -/
theorem LinkUnit.Told.eq_of_down (h : LinkUnit.Told a u v) (hd : u.up = false) (ht : u.table = []) : v = u := by
  induction h with
  | same => rfl
  | notice _ _ hu _ ih => rw [ih, hd] at hu; cases hu
  | take serial _ _ ih => rw [ih]; exact LinkUnit.take_empty ht serial
  | response serial j b _ _ ih => rw [ih]; exact LinkUnit.handOver_empty ht serial j b

/-- Hand-overs keep a Link Unit sound (R8 to R11, R14). -/
theorem LinkUnit.Told.sound (h : LinkUnit.Told a u v) (hu : u.Bounded ∧ u.DownEmpty) : v.Bounded ∧ v.DownEmpty := by
  induction h with
  | same => exact hu
  | notice n _ hup _ ih => exact ⟨ih.1.queueNotice n, LinkUnit.downEmpty_of_up (by simpa using hup)⟩
  | take serial _ _ ih => exact ⟨ih.1.take serial, ih.2.take serial⟩
  | response serial j b _ _ ih => exact ⟨ih.1.handOver serial j b, ih.2.handOver serial j b⟩

end Told

/-! ### The state -/

/-- From `s` to `t` the two Link Units have changed by hand-overs alone, and only those of the links that `A` names. -/
def State.Tells (A : Link → Prop) (s t : State) : Prop := ∀ l, LinkUnit.Told (A l) (s.link l) (t.link l)

/-- Every link may be told. -/
def anyLink : Link → Prop := fun _ => True

section Tells
variable {A : Link → Prop} {s t u : State}

theorem State.Tells.refl (A : Link → Prop) (s : State) : s.Tells A s := fun _ => .same

theorem State.Tells.trans (h : s.Tells A t) (k : t.Tells A u) : s.Tells A u := fun l => (h l).trans (k l)

theorem State.Tells.any (h : s.Tells A t) : s.Tells anyLink t := fun l => (h l).mono (fun _ => trivial)

/-- What leaves the Link Units alone tells no one. -/
theorem State.Tells.of_links (h : s.Tells A t) (e : u.links = t.links) : s.Tells A u := by
  intro l
  have : u.link l = t.link l := by simp [State.link, e]
  rw [this]
  exact h l

theorem State.Tells.up_eq (h : s.Tells A t) (l : Link) : (t.link l).up = (s.link l).up := (h l).up_eq

theorem State.Tells.link_of_not (h : s.Tells A t) {l : Link} (ha : ¬ A l) : t.link l = s.link l := (h l).eq_of_not ha

theorem State.Tells.link_of_down (h : s.Tells A t) {l : Link} (hd : (s.link l).up = false)
    (ht : (s.link l).table = []) : t.link l = s.link l := (h l).eq_of_down hd ht

theorem State.LinksSound.tells (hs : s.LinksSound) (h : s.Tells A t) : t.LinksSound := fun l => (h l).sound (hs l)

theorem State.Tells.setLink (h : s.Tells A t) (l : Link) {x : LinkUnit} (hx : LinkUnit.Told (A l) (t.link l) x) :
    s.Tells A (t.setLink l x) := by
  intro k
  rw [State.setLink_link]
  split
  · rename_i hk
    rw [hk]
    exact (h l).trans hx
  · exact h k

theorem State.Tells.setPort (h : s.Tells A t) (p : Port) (r : PortRec) : s.Tells A (t.setPort p r) := h.of_links rfl

theorem State.Tells.setMotor (h : s.Tells A t) (p : Port) (m : Motor) : s.Tells A (t.setMotor p m) := h.of_links rfl

theorem State.Tells.notify (h : s.Tells A t) {l : Link} (ha : A l) (b : NoticeBody) : s.Tells A (t.notify l b) := by
  unfold State.notify
  split
  · rename_i hu
    exact h.setLink l (.notice _ ha hu .same)
  · exact h

theorem State.Tells.notifyBoth (h : s.Tells anyLink t) (b : NoticeBody) : s.Tells anyLink (t.notifyBoth b) :=
  (h.notify trivial b).notify trivial b

theorem State.Tells.taken (h : s.Tells anyLink t) (l : Link) (serial : Nat) : s.Tells anyLink (t.taken l serial) :=
  h.setLink l (.take serial trivial .same)

theorem State.Tells.respond (h : s.Tells A t) {k : Ticket} (ha : A k.link) (j : Judgement) (b : List Byte) :
    s.Tells A (t.respond k j b) :=
  h.setLink k.link (.response k.serial j b ha .same)

theorem State.Tells.refuse (h : s.Tells A t) {k : Ticket} (ha : A k.link) (j : Judgement) :
    s.Tells A (t.refuse k j) := h.respond ha j []

theorem State.Tells.complete (h : s.Tells A t) {k : Ticket} (ha : A k.link) (b : List Byte) :
    s.Tells A (t.complete k b) := h.respond ha .normalCompletion b

/-- Acts one after another tell only what each of them tells. -/
theorem State.Tells.foldl {β : Type} {f : State → β → State} (h : s.Tells A t) (xs : List β)
    (hf : ∀ x ∈ xs, ∀ u, s.Tells A u → s.Tells A (f u x)) : s.Tells A (xs.foldl f t) :=
  List.foldlRecOn xs f h fun u hu x hx => hf x hx u hu

/-- A checked request tells what its effect tells, and else its refusal (section 1.3). -/
theorem State.Tells.check (h : s.Tells anyLink t) (k : Ticket) (cs : List (Bool × Judgement)) {f : State → State}
    (hf : s.Tells anyLink (f t)) : s.Tells anyLink (t.check k cs f) := by
  unfold State.check
  split
  · exact h.refuse trivial _
  · exact hf

/-- A request tells what its handling tells. -/
theorem State.Tells.serve {f : Ticket → List Byte → State → State} (l : Link) (tag : Byte) (code : ReqCode)
    (hf : ∀ k b x, s.Tells anyLink x → s.Tells anyLink (f k b x)) : s.Tells anyLink (s.serve l tag code f) := by
  unfold State.serve
  split
  · exact .refl _ s
  · exact hf _ _ _ (State.Tells.taken (.refl _ s) l _)

/-- Nothing happens in a held hub (R169). -/
theorem State.Tells.unlessHeld {f : State → State} (h : s.Tells A (f s)) : s.Tells A (s.unlessHeld f) := by
  unfold State.unlessHeld
  split
  · exact .refl A s
  · exact h

/-- Moving hub time to the end of a timer tells no one. -/
theorem State.Tells.expire (h : s.Tells A t) (start : Word32) (ms : Nat) : s.Tells A (t.expire start ms) := by
  unfold State.expire
  split
  · exact h.of_links rfl
  · exact h

end Tells

/-- Acts one after another that each leave the Link Units alone leave them alone. -/
theorem foldl_links {β : Type} {f : State → β → State} (hf : ∀ t x, (f t x).links = t.links) (xs : List β) (s : State) :
    (xs.foldl f s).links = s.links :=
  List.foldlRecOn (motive := fun t => t.links = s.links) xs f rfl fun t ht x _ => (hf t x).trans ht

end Sys2Proof.Machine

/-! SUPPORT. What each operation of the Motion, Detector and Sensing Units and of the Port Service tells the links. -/

namespace Sys2Proof.Machine

/-! ### Motion Unit: what leaves the Link Units alone -/

@[simp] theorem State.attachMotor_links (s : State) (p : Port) : (s.attachMotor p).links = s.links := rfl

@[simp] theorem State.startCommand_links (s : State) (p : Port) (c : Command) (o : StartFrom) :
    (s.startCommand p c o).links = s.links := by
  unfold State.startCommand
  split
  · rfl
  · split <;> rfl
  · rfl

@[simp] theorem State.enterAll_links (s : State) (ps : List Port) (e : EndAction) : (s.enterAll ps e).links = s.links :=
  foldl_links (fun _ _ => by rfl) ps s

@[simp] theorem State.freePair_links (s : State) (k : Nat) : (s.freePair k).links = s.links := by
  unfold State.freePair
  split <;> rfl

@[simp] theorem State.unpair_links (s : State) (p : Port) : (s.unpair p).links = s.links := by
  unfold State.unpair
  split
  · rfl
  · exact s.freePair_links _

@[simp] theorem State.timeRunEnd_links (s : State) (p : Port) : (s.timeRunEnd p).links = s.links := by
  unfold State.timeRunEnd
  dsimp only
  split
  · rfl
  · split <;> rfl

/-- The notices of the commands of a channel record `m` of port `p` that all end with one outcome: the active one's, then
those of the waiting ones (R43). -/
def State.endNotices (s : State) (p : Port) (m : Motor) (o : EndOutcome) : State :=
  m.waiting.foldl (fun t c => t.motionDone p c o false)
    (match m.active with
      | none => s
      | some c => s.motionDone p c o true)

theorem State.endAll_eq (s : State) (p : Port) (o : EndOutcome) :
    s.endAll p o = (s.endNotices p (s.motor p) o).setMotor p
      { (s.endNotices p (s.motor p) o).motor p with active := none, waiting := [] } := rfl

theorem State.replaceCommand_eq (s : State) (p : Port) (c : Command) :
    s.replaceCommand p c = ((s.endNotices p (s.motor p) .superseded).setMotor p
      { (s.endNotices p (s.motor p) .superseded).motor p with waiting := [] }).startCommand p c .request := rfl

section Motion
variable {A : Link → Prop} {s t : State}

/-! ### Motion Unit: the ends of commands (R43, R49 to R52, R58, R59) -/

theorem State.Tells.motionDone (h : s.Tells A t) (p : Port) {c : Command} (hc : A c.link) (o : EndOutcome) (b : Bool) :
    s.Tells A (t.motionDone p c o b) := by
  unfold State.motionDone
  dsimp only
  split <;> exact h.notify hc _

/-- The links that issued the commands of a channel. -/
def Motor.issued (A : Link → Prop) (m : Motor) : Prop := ∀ c ∈ m.active.toList ++ m.waiting, A c.link

theorem Motor.issued_any (m : Motor) : m.issued anyLink := fun _ _ => trivial

theorem State.Tells.endNotices (h : s.Tells A t) (p : Port) {m : Motor} (hm : m.issued A) (o : EndOutcome) :
    s.Tells A (t.endNotices p m o) := by
  refine State.Tells.foldl ?_ _ fun c hc u hu => hu.motionDone p (hm c (by simp [hc])) o false
  split
  · exact h
  · rename_i c hc
    exact h.motionDone p (hm c (by simp [hc])) o true

theorem State.Tells.endAll (h : s.Tells A t) {p : Port} (hp : (t.motor p).issued A) (o : EndOutcome) :
    s.Tells A (t.endAll p o) := by
  rw [State.endAll_eq]
  exact (h.endNotices p hp o).setMotor _ _

theorem State.Tells.finish (h : s.Tells anyLink t) (p : Port) (o : EndOutcome) (f : StartFrom) :
    s.Tells anyLink (t.finish p o f) := by
  unfold State.finish
  dsimp only
  split
  · exact h
  · rename_i c _
    have hd := h.motionDone p (c := c) trivial o true
    split
    · exact hd.of_links (by simp)
    · exact hd.of_links (foldl_links (fun _ _ => by rfl) _ _)

theorem State.Tells.haltMotor (h : s.Tells anyLink t) (p : Port) (e : EndAction) : s.Tells anyLink (t.haltMotor p e) :=
  (h.endAll (Motor.issued_any _) .halted).of_links (State.enterAll_links _ _ _)

theorem State.Tells.dropMotor (h : s.Tells A t) {p : Port} (hp : (t.motor (t.queuePort p)).issued A) (o : EndOutcome) :
    s.Tells A (t.dropMotor p o) :=
  (h.endAll hp o).of_links (by simp [State.dropMotor])

theorem State.Tells.departMotor (h : s.Tells anyLink t) (p : Port) : s.Tells anyLink (t.departMotor p) :=
  (h.endAll (p := t.queuePort p) (Motor.issued_any _) .removed).of_links (by simp [State.departMotor])

theorem State.Tells.cutoffMotors (h : s.Tells anyLink t) : s.Tells anyLink t.cutoffMotors :=
  (h.foldl allPorts fun _ _ _ hu => hu.endAll (Motor.issued_any _) .supply).of_links (State.enterAll_links _ _ _)

theorem State.Tells.replaceCommand (h : s.Tells anyLink t) (p : Port) (c : Command) :
    s.Tells anyLink (t.replaceCommand p c) := by
  rw [State.replaceCommand_eq]
  exact ((h.endNotices p (Motor.issued_any _) .superseded).setMotor _ _).of_links (State.startCommand_links _ _ _ _)

theorem State.Tells.placeCommand (h : s.Tells anyLink t) (p : Port) (c : Command) (append : Bool) :
    s.Tells anyLink (t.placeCommand p c append) := by
  unfold State.placeCommand
  split
  · exact h.of_links (by rfl)
  · exact h.replaceCommand p c

/-! ### Motion Unit: the control period (R65) -/

theorem State.Tells.settleDone (h : s.Tells anyLink t) (p : Port) : s.Tells anyLink (t.settleDone p) := by
  unfold State.settleDone
  dsimp only
  split
  · exact h
  · split
    · exact h.finish _ _ _
    · exact h

theorem State.Tells.settleTimeout (h : s.Tells anyLink t) (p : Port) : s.Tells anyLink (t.settleTimeout p) := by
  unfold State.settleTimeout
  dsimp only
  split
  · exact h
  · split
    · exact h.finish _ _ _
    · exact h

theorem State.Tells.timeDone (h : s.Tells anyLink t) (p : Port) (c : Command) : s.Tells anyLink (t.timeDone p c) := by
  unfold State.timeDone
  dsimp only
  split
  · exact h.finish _ _ _
  · exact h

theorem State.Tells.singleReference (h : s.Tells anyLink t) (p : Port) : s.Tells anyLink (t.singleReference p) := by
  unfold State.singleReference
  dsimp only
  split
  · split
    · exact h.of_links (by rfl)
    · split
      · exact ((h.of_links (by rfl)).settleDone p).settleTimeout p
      · exact State.Tells.timeDone (h.of_links (by simp)) p _
  · exact h
  · exact h.of_links (by rfl)

theorem State.Tells.pairReference (h : s.Tells anyLink t) (q : Pair) (c : Command) :
    s.Tells anyLink (t.pairReference q c) := by
  unfold State.pairReference
  dsimp only
  split
  · exact ((h.of_links (by rfl)).settleDone _).settleTimeout _
  · split
    · exact h.of_links (by simp)
    · exact State.Tells.timeDone (h.of_links (by simp)) _ _

theorem State.Tells.recogniseStall (h : s.Tells anyLink t) (p : Port) : s.Tells anyLink (t.recogniseStall p) := by
  unfold State.recogniseStall
  dsimp only
  split
  · exact h
  · split
    · split
      · exact (h.endAll (Motor.issued_any _) .stalled).of_links (State.enterAll_links _ _ _)
      · exact h.finish _ _ _
    · exact h

theorem State.Tells.controlAndStall (h : s.Tells anyLink t) (ps : List Port) (qp : Port) :
    s.Tells anyLink (t.controlAndStall ps qp) := by
  have hs : s.Tells anyLink (ps.foldl (fun t x => t.setMotor x (t.motor x).control.stallTest) t) :=
    h.of_links (foldl_links (fun _ _ => by rfl) ps t)
  unfold State.controlAndStall
  dsimp only
  split
  · exact (hs.recogniseStall qp).of_links (foldl_links (fun _ _ => by rfl) ps _)
  · exact hs

theorem State.Tells.periodStages (h : s.Tells anyLink t) (ps : List Port) : s.Tells anyLink (t.periodStages ps) := by
  have hs : s.Tells anyLink (ps.foldl (fun t x => t.setMotor x (t.motor x).takePosition) t) :=
    h.of_links (foldl_links (fun _ _ => by rfl) ps t)
  unfold State.periodStages
  refine State.Tells.of_links (State.Tells.controlAndStall ?_ _ _) (foldl_links (fun _ _ => by rfl) ps _)
  split
  · exact hs.singleReference _
  · split
    · exact hs.pairReference _ _
    · exact hs.foldl _ fun x _ u hu => hu.singleReference x
  · exact hs

/-! ### Detector Unit -/

theorem State.Tells.brickNotice (h : s.Tells anyLink t) (l : Link) (e : BrickRaise) (n : Nat) :
    s.Tells anyLink (t.brickNotice l e n) := by
  unfold State.brickNotice
  split
  · exact h.notify trivial _
  · exact h

theorem State.Tells.raiseBrick (h : s.Tells anyLink t) (e : Option BrickRaise) : s.Tells anyLink (t.raiseBrick e) := by
  unfold State.raiseBrick
  split
  · exact h
  · exact ((h.of_links (by rfl)).brickNotice .pl _ _).brickNotice .tl _ _

theorem State.Tells.runDetector (h : s.Tells anyLink t) (on : Bool) (f : BrickState → DetectorWork → DetectorResult) :
    s.Tells anyLink (t.runDetector on f) :=
  State.Tells.raiseBrick (h.of_links (by rfl)) _

theorem State.Tells.detect (h : s.Tells anyLink t) (now : Word32) (xs : List Int) : s.Tells anyLink (t.detect now xs) := by
  unfold State.detect
  split
  · exact (((h.runDetector _ _).runDetector _ _).runDetector _ _).runDetector _ _
  · exact h

theorem State.Tells.carryOut (h : s.Tells anyLink t) (a : WatchAction) : s.Tells anyLink (t.carryOut a) := by
  unfold State.carryOut
  split
  · exact h
  · exact h.haltMotor _ _
  · split
    · exact h
    · exact h.haltMotor _ _

theorem State.Tells.fireWatch (h : s.Tells anyLink t) (l : Link) (slot : Nat) : s.Tells anyLink (t.fireWatch l slot) := by
  unfold State.fireWatch
  split
  · exact h
  · split
    · have hn : ∀ w b, s.Tells anyLink ((t.setWatch l slot w).notify l b) := fun w b =>
        State.Tells.notify (h.of_links (by rfl)) trivial b
      dsimp only
      split
      · exact (hn _ _).carryOut _
      · exact hn _ _
    · exact h

theorem State.Tells.evalWatch (h : s.Tells anyLink t) (l : Link) (c : Chan) (slot : Nat) :
    s.Tells anyLink (t.evalWatch l c slot) := by
  unfold State.evalWatch
  dsimp only
  split
  · exact h
  · split
    · split
      · split
        · exact State.Tells.fireWatch (h.of_links (by rfl)) l slot
        · exact h
      · split
        · exact State.Tells.fireWatch (h.of_links (by rfl)) l slot
        · exact h.of_links (by rfl)
      · split
        · exact h.of_links (by rfl)
        · exact h
      · exact h
    · exact h

theorem State.Tells.evalWatches (h : s.Tells anyLink t) (l : Link) (c : Chan) : s.Tells anyLink (t.evalWatches l c) :=
  h.foldl slots fun n _ _ hu => hu.evalWatch l c n

@[simp] theorem State.disarm_links (s : State) (l : Link) (c : Chan) (r : DisarmReason) :
    (s.disarm l c r).links = s.links := by
  refine foldl_links (fun t n => ?_) slots s
  split
  · rfl
  · split <;> rfl

@[simp] theorem State.disarmBoth_links (s : State) (c : Chan) (r : DisarmReason) : (s.disarmBoth c r).links = s.links := by
  simp [State.disarmBoth]

/-! ### Sensing Unit -/

@[simp] theorem State.recomputePort_links (s : State) (p : Port) : (s.recomputePort p).links = s.links := by
  unfold State.recomputePort
  split <;> rfl

@[simp] theorem State.recompute_links (s : State) (c : Chan) : (s.recompute c).links = s.links := by
  cases c
  · exact s.recomputePort_links _
  · rfl

@[simp] theorem State.bothViews_links (s : State) (c : Chan) (f : View → View) : (s.bothViews c f).links = s.links := rfl

@[simp] theorem State.sensingDeparture_links (s : State) (p : Port) : (s.sensingDeparture p).links = s.links := rfl

@[simp] theorem State.sensingAttach_links (s : State) (p : Port) : (s.sensingAttach p).links = s.links := by
  simp [State.sensingAttach]

@[simp] theorem State.viewsDown_links (s : State) (l : Link) : (s.viewsDown l).links = s.links := by
  unfold State.viewsDown
  dsimp only
  rw [foldl_links (fun t c => t.recompute_links c), foldl_links (fun _ _ => by rfl)]

theorem State.Tells.viewTake (h : s.Tells anyLink t) (l : Link) (c : Chan) : s.Tells anyLink (t.viewTake l c) := by
  unfold State.viewTake
  dsimp only
  split
  · exact h
  · split
    · exact State.Tells.evalWatches (h.of_links (by rfl)) l c
    · exact h.of_links (by rfl)

theorem State.Tells.takeSample (h : s.Tells anyLink t) (c : Chan) (mode : Option Nat) (values : List Int)
    (clipped : List Bool) (interval : Nat) : s.Tells anyLink (t.takeSample c mode values clipped interval) :=
  (State.Tells.viewTake (h.of_links (by rfl)) .pl c).viewTake .tl c

theorem State.Tells.sensorSample (h : s.Tells anyLink t) (p : Port) (mode : Nat) (values : List Int) :
    s.Tells anyLink (t.sensorSample p mode values) := by
  unfold State.sensorSample
  split
  · exact h
  · exact h.takeSample _ _ _ _ _

theorem State.Tells.motorSample (h : s.Tells anyLink t) (p : Port) : s.Tells anyLink (t.motorSample p) :=
  h.takeSample _ _ _ _ _

theorem State.Tells.internalSample (h : s.Tells anyLink t) (ax ay az gx gy gz : Int) :
    s.Tells anyLink (t.internalSample ax ay az gx gy gz) :=
  (h.detect _ _).takeSample _ _ _ _ _

theorem State.Tells.periodGroup (h : s.Tells anyLink t) (ps : List Port) : s.Tells anyLink (t.periodGroup ps) :=
  (h.periodStages ps).foldl ps fun p _ _ hu => hu.motorSample p

theorem State.Tells.controlPeriod (h : s.Tells anyLink t) : s.Tells anyLink t.controlPeriod :=
  h.foldl _ fun ps _ _ hu => hu.periodGroup ps

/-! ### Port Service -/

theorem State.Tells.depart (h : s.Tells anyLink t) (p : Port) (r : PortRec) : s.Tells anyLink (t.depart p r) := by
  unfold State.depart
  dsimp only
  refine State.Tells.of_links (t := State.departMotor _ p) (State.Tells.departMotor ?_ p) (by simp; rfl)
  split
  · exact h
  · exact h.refuse trivial _

theorem State.Tells.changePort (h : s.Tells anyLink t) (p : Port) (r : PortRec) :
    s.Tells anyLink (t.changePort p r) := by
  have hn : s.Tells anyLink (if noticed (t.port p).state r.state then t.notifyBoth (portNotice p r (t.port p).state)
      else t) := by
    split
    · exact h.notifyBoth _
    · exact h
  unfold State.changePort
  dsimp only
  split
  · exact hn.depart p r
  · exact hn.of_links (by rfl)

theorem State.Tells.faultPort (h : s.Tells anyLink t) (p : Port) (r : FaultReason) : s.Tells anyLink (t.faultPort p r) :=
  h.changePort _ _

theorem State.Tells.settlePort (h : s.Tells anyLink t) (p : Port) (level : Level) :
    s.Tells anyLink (t.settlePort p level) := by
  unfold State.settlePort
  dsimp only
  split
  · exact (h.changePort _ _).faultPort _ _
  · exact h.changePort _ _

theorem State.Tells.emptyPort (h : s.Tells anyLink t) (p : Port) : s.Tells anyLink (t.emptyPort p) := h.changePort _ _

theorem State.Tells.identifyPort (h : s.Tells anyLink t) (p : Port) : s.Tells anyLink (t.identifyPort p) :=
  h.changePort _ _

theorem State.Tells.activate (h : s.Tells anyLink t) (p : Port) : s.Tells anyLink (t.activate p) := by
  refine State.Tells.of_links (h.changePort p ((t.port p).toActive t.now)) ?_
  unfold State.activate
  dsimp only
  split <;> simp

theorem State.Tells.detectInput (h : s.Tells anyLink t) (p : Port) (level : Level) :
    s.Tells anyLink (t.detectInput p level) := by
  unfold State.detectInput
  dsimp only
  split
  · exact h
  · exact h.changePort _ _
  · exact h.of_links (by rfl)
  · exact h.emptyPort p
  · exact h.settlePort p _

theorem State.Tells.settled (h : s.Tells anyLink t) (p : Port) : s.Tells anyLink (t.settled p) := by
  unfold State.settled
  split
  · exact h
  · exact State.Tells.activate (h.of_links (by rfl)) p
  · exact State.Tells.activate (h.of_links (by rfl)) p
  · exact h.identifyPort p

theorem State.Tells.beginDetection (h : s.Tells anyLink t) (p : Port) : s.Tells anyLink (t.beginDetection p) := by
  unfold State.beginDetection
  dsimp only
  split
  · exact State.Tells.faultPort (h.of_links (by rfl)) p _
  · split
    · exact h
    · exact h.settlePort p _

theorem State.Tells.identity (h : s.Tells anyLink t) (p : Port) (d : DeviceRecord) :
    s.Tells anyLink (t.identity p d) := by
  unfold State.identity
  dsimp only
  split
  · exact h.changePort _ _
  · exact h.of_links (by rfl)

theorem State.Tells.speedAck (h : s.Tells anyLink t) (p : Port) : s.Tells anyLink (t.speedAck p) := by
  unfold State.speedAck
  dsimp only
  split
  · exact State.Tells.activate (h.of_links (by rfl)) p
  · exact h.of_links (by rfl)

theorem State.Tells.restartSupervision (h : s.Tells A t) (p : Port) : s.Tells A (t.restartSupervision p) := h.setPort _ _

theorem State.Tells.firstData (h : s.Tells anyLink t) (p : Port) (values : List Int) :
    s.Tells anyLink (t.firstData p values) :=
  (((h.setPort p _).activate p).restartSupervision p).sensorSample p 0 values

theorem State.Tells.dataTaken (h : s.Tells anyLink t) (p : Port) (mode : Nat) (values : List Int) :
    s.Tells anyLink (t.dataTaken p mode values) :=
  (h.restartSupervision p).sensorSample p mode values

theorem State.Tells.modeChanged (h : s.Tells anyLink t) (p : Port) (w : PendingMode) (values : List Int) :
    s.Tells anyLink (t.modeChanged p w values) := by
  have hn : s.Tells anyLink ((t.setPort p { t.port p with mode := some w.mode, pendingMode := none }).notifyBoth
      (.modeChanged p (t.port p).generation w.mode (t.port p).mode)) := State.Tells.notifyBoth (h.of_links (by rfl)) _
  unfold State.modeChanged
  exact State.Tells.complete (State.Tells.sensorSample (hn.of_links (by simp [State.restartSupervision])) p w.mode values)
    trivial []

theorem State.Tells.silent (h : s.Tells anyLink t) (p : Port) : s.Tells anyLink (t.silent p) := by
  unfold State.silent
  split
  · exact h.faultPort _ _
  · exact h.changePort _ _

theorem State.Tells.data (h : s.Tells anyLink t) {p : Port} {mode : Nat} {values : List Int} {u : State}
    (hu : t.data p mode values = some u) : s.Tells anyLink u := by
  unfold State.data at hu
  dsimp only at hu
  split at hu
  · cases hu
  · split at hu
    · split at hu
      · cases hu; exact h.firstData p values
      · cases hu
    · split at hu
      · split at hu
        · cases hu; exact h.modeChanged p _ values
        · split at hu
          · cases hu; exact h
          · cases hu
      · split at hu
        · cases hu; exact h.dataTaken p mode values
        · cases hu
    · cases hu

/-- A message on a device line tells what its rule tells (R23). -/
theorem State.Tells.lineMessage (h : s.Tells anyLink t) (p : Port) (m : LineMessage) {rule : State → Option State}
    (hr : ∀ x y, s.Tells anyLink x → rule x = some y → s.Tells anyLink y) : s.Tells anyLink (t.lineMessage p m rule) := by
  unfold State.lineMessage
  split
  · exact h
  · split
    · have hc : s.Tells anyLink (t.setPort p (t.port p).countReceived) := h.of_links (by rfl)
      dsimp only
      cases hx : rule (t.setPort p (t.port p).countReceived) with
      | none => exact hc.of_links (by rfl)
      | some y => exact hr _ _ hc hx
    · exact h.of_links (by rfl)

@[simp] theorem State.setHolder_links (s : State) (c : Chan) (x : Option Link) : (s.setHolder c x).links = s.links := by
  cases c <;> rfl

theorem State.Tells.releaseChan (h : s.Tells A t) (c : Chan)
    (hc : ∀ p, c = .port p → (t.motor (t.queuePort p)).issued A) : s.Tells A (t.releaseChan c) := by
  cases c with
  | internal => exact h.of_links (by rfl)
  | port p => exact (h.dropMotor (hc p rfl) .released).of_links (by rfl)

theorem State.Tells.releaseAll (h : s.Tells anyLink t) (l : Link) : s.Tells anyLink (t.releaseAll l) := by
  refine h.foldl allChans fun c _ u hu => ?_
  split
  · exact hu.releaseChan c fun _ _ => Motor.issued_any _
  · exact hu

end Motion

end Sys2Proof.Machine

/-! SUPPORT. What each operation of the Sound Unit, the Asset Map and the Media Controller tells the links. -/

namespace Sys2Proof.Machine

/-! ### What changes the Media Controller alone -/

/-- `t` is `s` with another Media Controller record. -/
def State.MediaOnly (s t : State) : Prop := ∃ m, t = { s with media := m }

section Media
variable {s t u : State}

theorem State.MediaOnly.refl (s : State) : s.MediaOnly s := ⟨s.media, rfl⟩

theorem State.MediaOnly.trans (h : s.MediaOnly t) (k : t.MediaOnly u) : s.MediaOnly u := by
  obtain ⟨m, rfl⟩ := h
  obtain ⟨n, rfl⟩ := k
  exact ⟨n, rfl⟩

theorem State.MediaOnly.eq (h : s.MediaOnly t) : t = { s with media := t.media } := by
  obtain ⟨m, rfl⟩ := h
  rfl

theorem State.MediaOnly.links_eq (h : s.MediaOnly t) : t.links = s.links := by rw [h.eq]

theorem State.MediaOnly.foldl {β : Type} {f : State → β → State} (h : s.MediaOnly t) (xs : List β)
    (hf : ∀ x u, s.MediaOnly u → s.MediaOnly (f u x)) : s.MediaOnly (xs.foldl f t) :=
  List.foldlRecOn xs f h fun u hu x _ => hf x u hu

theorem State.MediaOnly.setWork (h : s.MediaOnly t) (m : Media) : s.MediaOnly (t.setWork m) := h.trans ⟨m, rfl⟩

theorem State.MediaOnly.setBlock (h : s.MediaOnly t) (b : Nat) (x : Block) : s.MediaOnly (t.setBlock b x) :=
  h.trans ⟨_, rfl⟩

theorem State.MediaOnly.setBlockState (h : s.MediaOnly t) (b : Nat) (st : BlockState) :
    s.MediaOnly (t.setBlockState b st) := h.trans (State.KeepsErases.setBlockState t b st).2

theorem State.MediaOnly.setBlockStates (h : s.MediaOnly t) (bs : List Nat) (st : BlockState) :
    s.MediaOnly (t.setBlockStates bs st) := h.trans (State.KeepsErases.setBlockStates t bs st).2

theorem State.MediaOnly.abandonRefresh (h : s.MediaOnly t) (st : BlockState) : s.MediaOnly (t.abandonRefresh st) :=
  h.trans (State.KeepsErases.abandonRefresh t st).2

theorem State.MediaOnly.tidyErases (h : s.MediaOnly t) : s.MediaOnly t.tidyErases := h.setWork _

theorem State.MediaOnly.setSession (h : s.MediaOnly t) (x : Session) : s.MediaOnly (t.setSession x) := h.setWork _

theorem State.MediaOnly.ask2 (h : s.MediaOnly t) (o : FlashOp) : s.MediaOnly (t.ask2 o) := h.setWork _

theorem State.MediaOnly.ask4 (h : s.MediaOnly t) (o : FlashOp) : s.MediaOnly (t.ask4 o) := h.setWork _

theorem State.MediaOnly.startOp (h : s.MediaOnly t) (o : FlashOp) : s.MediaOnly (t.startOp o) := h.setWork _

theorem State.MediaOnly.askCompaction (h : s.MediaOnly t) (o : FlashOp) : s.MediaOnly (t.askCompaction o) := by
  unfold State.askCompaction
  split
  · exact h.ask2 o
  · exact h.ask4 o

theorem State.MediaOnly.startCompaction (h : s.MediaOnly t) (source : Option Nat) (target : Nat) :
    s.MediaOnly (t.startCompaction source target) := by
  unfold State.startCompaction
  split
  · exact h
  · exact (h.setWork _).askCompaction _

theorem State.MediaOnly.pumpRecords (h : s.MediaOnly t) : s.MediaOnly t.pumpRecords := by
  unfold State.pumpRecords
  split
  · split
    · exact h
    · split
      · exact h.setWork _
      · split
        · exact h.startCompaction _ _
        · exact (h.setWork _).ask2 _
  · exact h

theorem State.MediaOnly.append (h : s.MediaOnly t) (r : CatRecord) (a : Asker) : s.MediaOnly (t.append r a) :=
  (h.setWork _).pumpRecords

theorem State.MediaOnly.bookkeep (h : s.MediaOnly t) (r : CatRecord) : s.MediaOnly (t.bookkeep r) := by
  unfold State.bookkeep
  split
  · exact h
  · exact h.append r _

theorem State.MediaOnly.badBlock (h : s.MediaOnly t) (b : Nat) : s.MediaOnly (t.badBlock b) :=
  (((h.setBlockState b .bad).tidyErases).setWork _).bookkeep _

theorem State.MediaOnly.takeReplacement (h : s.MediaOnly t) (r : Nat × Bool) (st : BlockState) :
    s.MediaOnly (t.takeReplacement r st) := by
  unfold State.takeReplacement
  dsimp only
  split
  · exact (h.setBlockState _ _).bookkeep _
  · exact h.setBlockState _ _

theorem State.MediaOnly.stopAllBackground (h : s.MediaOnly t) : s.MediaOnly t.stopAllBackground := by
  have hb : s.MediaOnly t.stopBackground := (h.setWork _).abandonRefresh _
  unfold State.stopAllBackground State.stopCompaction
  split
  · exact hb
  · exact hb.setWork _

theorem State.MediaOnly.stepRepair (h : s.MediaOnly t) (place : Nat) : s.MediaOnly (t.stepRepair place) := by
  unfold State.stepRepair
  split
  · exact h
  · split
    · exact h
    · split
      · exact h
      · split
        · exact h.ask2 _
        · exact (h.setSession _).foldl _ fun _ _ hu => hu.ask2 _

theorem State.MediaOnly.pumpClose (h : s.MediaOnly t) : s.MediaOnly t.pumpClose := by
  unfold State.pumpClose
  split
  · exact h
  · split
    · exact h
    · split
      · exact h
      · exact ((h.setWork _).foldl _ fun _ _ hu => hu.setBlockState _ _).append _ _

theorem State.MediaOnly.refreshCopied (h : s.MediaOnly t) (r : RefreshCopy) : s.MediaOnly (t.refreshCopied r) := by
  unfold State.refreshCopied
  split
  · exact (h.setWork _).setBlockState _ _
  · split
    · exact h.abandonRefresh _
    · split
      · exact h.abandonRefresh _
      · exact (h.setWork _).append _ _

theorem State.MediaOnly.refreshPageDone (h : s.MediaOnly t) (page : Nat) : s.MediaOnly (t.refreshPageDone page) := by
  unfold State.refreshPageDone
  split
  · exact h
  · split
    · exact h.refreshCopied _
    · exact (h.setWork _).ask4 _

theorem State.MediaOnly.askSnapshotPage (h : s.MediaOnly t) (c : Compaction) (x : SnapshotImage) (i : Nat) :
    s.MediaOnly (t.askSnapshotPage c x i) := (h.setWork _).askCompaction _

theorem State.MediaOnly.ringErased (h : s.MediaOnly t) : s.MediaOnly t.ringErased := by
  unfold State.ringErased
  split
  · exact h
  · exact h.askSnapshotPage _ _ _

theorem State.MediaOnly.setFormatSpares (h : s.MediaOnly t) (f : Format) (bs : List Nat) :
    s.MediaOnly (t.setFormatSpares f bs) := by
  unfold State.setFormatSpares
  dsimp only
  split
  · exact (h.setWork _).startCompaction _ _
  · exact h.setWork _

theorem State.MediaOnly.spareFailed (h : s.MediaOnly t) (f : Format) (b : Nat) : s.MediaOnly (t.spareFailed f b) := by
  have hb : s.MediaOnly (t.setBlockState b .bad) := h.setBlockState b .bad
  unfold State.spareFailed
  dsimp only
  split
  · exact (State.MediaOnly.setFormatSpares (State.MediaOnly.setBlockState (hb.setWork _) _ _).tidyErases f _).ask2 _
  · exact (hb.setWork _).setFormatSpares f _

theorem State.MediaOnly.sessionErased (h : s.MediaOnly t) (b : Nat) : s.MediaOnly (t.sessionErased b) := by
  unfold State.sessionErased
  split
  · exact h
  · exact h.setSession _

theorem State.MediaOnly.afterAppend (h : s.MediaOnly t) : s.MediaOnly t.afterAppend := by
  unfold State.afterAppend
  split
  · split
    · exact h.startCompaction _ _
    · exact h.pumpRecords
  · exact h

theorem State.MediaOnly.copyDone (h : s.MediaOnly t) (place page b : Nat) : s.MediaOnly (t.copyDone place page b) := by
  unfold State.copyDone
  split
  · exact h
  · exact ((h.setSession _).stepRepair place).pumpClose

theorem State.MediaOnly.askVerify (h : s.MediaOnly t) (o : FlashOp) : s.MediaOnly (t.askVerify o) := by
  unfold State.askVerify
  split
  · exact h
  · exact h.ask4 _
  · exact h.askCompaction _
  · exact h.ask2 _

theorem State.MediaOnly.erased (h : s.MediaOnly t) (o : FlashOp) : s.MediaOnly (t.erased o) := by
  unfold State.erased
  split
  · exact h.sessionErased _
  · split
    · exact h.setBlockState _ _
    · split
      · exact h.sessionErased _
      · exact h
  · split
    · exact h.setFormatSpares _ _
    · exact h
  · exact h.ringErased
  · exact h

theorem State.MediaOnly.noteCorrections (h : s.MediaOnly t) (b : Nat) (sectors : List (Option Nat)) :
    s.MediaOnly (t.noteCorrections b sectors) := by
  unfold State.noteCorrections
  dsimp only
  split
  · exact h.setWork _
  · exact h

theorem State.MediaOnly.refreshReadEnded (h : s.MediaOnly t) (page : Nat) (data : Option (List Byte)) :
    s.MediaOnly (t.refreshReadEnded page data) := by
  unfold State.refreshReadEnded
  split
  · exact h.ask4 _
  · exact h.abandonRefresh _
  · exact h

theorem State.MediaOnly.startErase (h : s.MediaOnly t) : s.MediaOnly t.startErase := by
  unfold State.startErase
  split
  · exact h
  · exact h.ask4 _

theorem State.MediaOnly.startRefresh (h : s.MediaOnly t) : s.MediaOnly t.startRefresh := by
  unfold State.startRefresh
  dsimp only
  split
  · exact h
  · split
    · exact h.setWork _
    · split
      · exact h
      · exact (h.setWork _).ask4 _

theorem State.MediaOnly.openSession (h : s.MediaOnly t) (l : Link) (asset : Nat) (k : AssetKind) (f : SoundFormat)
    (length : Nat) (bs : List Nat) : s.MediaOnly (t.openSession l asset k f length bs) := by
  unfold State.openSession
  exact ((h.setBlockStates _ _).tidyErases.setSession _).foldl _ fun _ _ hu => hu.ask2 _

end Media

/-! ### What leaves the Link Units alone in the stores -/

@[simp] theorem State.setBlockStates_links (s : State) (bs : List Nat) (st : BlockState) :
    (s.setBlockStates bs st).links = s.links := ((State.MediaOnly.refl s).setBlockStates bs st).links_eq

@[simp] theorem State.setEntry_links (s : State) (n : Nat) (e : DirEntry) : (s.setEntry n e).links = s.links := rfl

@[simp] theorem State.pin_links (s : State) (h : Nat) : (s.pin h).links = s.links := by
  unfold State.pin
  split <;> rfl

@[simp] theorem State.unpin_links (s : State) (h serial : Nat) : (s.unpin h serial).links = s.links := by
  have hr : (s.unpinRetired h serial).links = s.links := by simp [State.unpinRetired]
  unfold State.unpin
  split
  · split
    · rfl
    · exact hr
  · exact hr

@[simp] theorem State.supersede_links (s : State) (h : Nat) (v : Version) : (s.supersede h v).links = s.links := by
  unfold State.supersede
  split <;> simp

@[simp] theorem State.cachedBlock_links (s : State) (n logical : Nat) (v : VersionImage) :
    (s.cachedBlock n logical v).1.links = s.links := by
  unfold State.cachedBlock
  split <;> rfl

@[simp] theorem State.lookupPages_links (s : State) (n : Nat) (v : VersionImage) (ps : List (Nat × Nat)) :
    (s.lookupPages n v ps).1.links = s.links := by
  induction ps generalizing s with
  | nil => rfl
  | cons p rest ih => exact (ih _).trans (s.cachedBlock_links n p.1 v)

@[simp] theorem State.dropRead_links (s : State) (k : Ticket) : (s.dropRead k).links = s.links := rfl

@[simp] theorem State.askRefill_links (s : State) (v : VoiceId) : (s.askRefill v).links = s.links := by
  unfold State.askRefill
  split
  · rfl
  · split <;> rfl

@[simp] theorem State.takeVoice_links (s : State) (v : VoiceId) (x : Sound) : (s.takeVoice v x).links = s.links := by
  simp [State.takeVoice]

@[simp] theorem State.fillVoice_links (s : State) (v : VoiceId) : (s.fillVoice v).links = s.links := by
  unfold State.fillVoice
  split <;> simp

@[simp] theorem State.fillVoices_links (s : State) : s.fillVoices.links = s.links :=
  foldl_links State.fillVoice_links allVoices s

@[simp] theorem State.dropPin_links (s : State) (x : Sound) : (s.dropPin x).links = s.links := by
  unfold State.dropPin
  split <;> simp

@[simp] theorem State.takeOp_links (s : State) : s.takeOp.links = s.links := by
  unfold State.takeOp
  split
  · rfl
  · split
    · rfl
    · split <;> rfl

@[simp] theorem State.chooseOp_links (s : State) : s.chooseOp.links = s.links := by
  unfold State.chooseOp
  split <;> simp [State.setWork]

@[simp] theorem State.remapApplied_links (s : State) (old new : Nat) : (s.remapApplied old new).links = s.links := by
  unfold State.remapApplied
  split
  · split
    · simp only [State.flushBlock, State.flushUser]
      exact (((State.MediaOnly.refl _).setBlockState new .live).setBlockState old .freeDirty).links_eq
    · rfl
  · rfl

section Store
variable {A : Link → Prop} {s t u : State}

/-- What changes the Media Controller alone tells no one. -/
theorem State.Tells.media (h : s.Tells A t) (hm : t.MediaOnly u) : s.Tells A u := h.of_links hm.links_eq

/-! ### Reads (R146, R150) -/

theorem State.Tells.readFails (h : s.Tells anyLink t) (k : Ticket) (p : ReadPurpose) (j : Judgement) (hit factory : Bool) :
    s.Tells anyLink (t.readFails k p j hit factory) := by
  unfold State.readFails
  split
  · exact h.refuse trivial j
  · exact h.respond trivial j _

theorem State.Tells.beginRead (h : s.Tells anyLink t) (k : Ticket) (p : ReadPurpose) :
    s.Tells anyLink (t.beginRead k p) := by
  unfold State.beginRead
  dsimp only
  split
  · exact h.of_links (State.lookupPages_links _ _ _ _)
  · exact h.readFails _ _ _ _ _
  · exact h.readFails _ _ _ _ _
  · exact h.readFails _ _ _ _ _

/-- Reads that start again from their lookup. -/
theorem State.Tells.readsAgain (h : s.Tells anyLink t) (js : List ReadJob) :
    s.Tells anyLink (js.foldl (fun t j => (t.dropRead j.ticket).beginRead j.ticket j.purpose) t) :=
  h.foldl js fun j _ u hu => State.Tells.beginRead (hu.of_links (u.dropRead_links j.ticket)) _ _

theorem State.Tells.finishRead (h : s.Tells anyLink t) (j : ReadJob) : s.Tells anyLink (t.finishRead j) := by
  have hd : s.Tells anyLink (t.dropRead j.ticket) := h.of_links (t.dropRead_links _)
  unfold State.finishRead
  dsimp only
  split
  · exact hd.complete trivial _
  · exact hd.complete trivial _

theorem State.Tells.readArrived (h : s.Tells anyLink t) (k : Ticket) (slot : Nat) (data : Option (List Byte)) :
    s.Tells anyLink (t.readArrived k slot data) := by
  unfold State.readArrived
  split
  · exact h
  · exact State.Tells.readFails (h.of_links (t.dropRead_links k)) _ _ _ _ _
  · dsimp only
    split
    · exact h.finishRead _
    · exact h.of_links (by rfl)

/-- A change of the directory, with the reads of the version it supersedes (R143, R144). -/
theorem State.Tells.applyChange (h : s.Tells anyLink t) (n : Nat) (r : CatRecord) (replaces : Bool) :
    s.Tells anyLink (t.applyChange n r replaces) := by
  unfold State.applyChange
  dsimp only
  split
  · exact State.Tells.readsAgain (h.of_links (by exact State.supersede_links _ _ _)) _
  · exact h.of_links (by rfl)

/-! ### Sounds (R133) -/

theorem State.Tells.endVoice (h : s.Tells A t) (v : VoiceId) (o : EndOutcome)
    (hv : ∀ x, t.voice v = some x → A x.sound.link) : s.Tells A (t.endVoice v o) := by
  unfold State.endVoice
  split
  · exact h
  · rename_i x hx
    exact State.Tells.notify (h.of_links (by exact State.dropPin_links _ _)) (hv x hx) _

theorem State.Tells.endWaiting (h : s.Tells A t) {x : Sound} (hx : A x.link) (o : EndOutcome) :
    s.Tells A (t.endWaiting x o) :=
  State.Tells.notify (h.of_links (by exact State.dropPin_links _ _)) hx _

/-- The sounds that one act ends tell the links that they belong to. -/
theorem State.Tells.endSounds (h : s.Tells A t) {p : Sound → Bool} (hp : ∀ x, p x = true → A x.link) (o : EndOutcome) :
    s.Tells A (t.endSounds p o) := by
  unfold State.endSounds
  refine State.Tells.of_links (State.Tells.foldl ?_ _ fun x hx u hu => hu.endWaiting (hp x ?_) o)
    (State.fillVoices_links _)
  · refine h.foldl allVoices fun v _ u hu => ?_
    split
    · rename_i x hx
      split
      · rename_i hpx
        refine hu.endVoice v o fun y hy => ?_
        rw [hx] at hy
        cases hy
        exact hp x.sound hpx
      · exact hu
    · exact hu
  · exact (List.mem_filter.mp hx).2

theorem State.Tells.finishVoice (h : s.Tells anyLink t) (v : VoiceId) (o : EndOutcome) :
    s.Tells anyLink (t.finishVoice v o) :=
  (h.endVoice v o fun _ _ => trivial).of_links (State.fillVoice_links _ _)

theorem State.Tells.placeSound (h : s.Tells anyLink t) (x : Sound) : s.Tells anyLink (t.placeSound x).1 := by
  unfold State.placeSound
  split
  · exact h.of_links (State.takeVoice_links _ _ _)
  · split
    · exact (h.endVoice t.victim .preempted fun _ _ => trivial).of_links (State.takeVoice_links _ _ _)
    · exact h.of_links (by rfl)

@[simp] theorem State.refillArrived_links (s : State) (v : VoiceId) (data : List Byte) :
    (s.refillArrived v data).links = s.links := by
  unfold State.refillArrived
  split
  · rfl
  · split
    · rfl
    · exact State.askRefill_links _ _

theorem State.Tells.toneEnd (h : s.Tells anyLink t) (v : VoiceId) : s.Tells anyLink (t.toneEnd v) := by
  unfold State.toneEnd
  split
  · exact h.finishVoice _ _
  · exact h

theorem State.Tells.passEnd (h : s.Tells anyLink t) (v : VoiceId) : s.Tells anyLink (t.passEnd v) := by
  unfold State.passEnd
  split
  · exact h
  · split
    · split
      · dsimp only
        split
        · exact h.of_links (State.askRefill_links _ _)
        · exact State.Tells.finishVoice (h.of_links (by rfl)) _ _
      · exact h
    · exact h

theorem State.Tells.starved (h : s.Tells anyLink t) (v : VoiceId) : s.Tells anyLink (t.starved v) := by
  unfold State.starved
  split
  · exact h
  · exact h.finishVoice _ _
  · exact h

theorem State.Tells.voiceSample (h : s.Tells anyLink t) (v : VoiceId) : s.Tells anyLink (t.voiceSample v).1 := by
  unfold State.voiceSample
  split
  · exact h
  · split
    · dsimp only
      split
      · exact State.Tells.passEnd (h.of_links (by exact State.askRefill_links _ _)) v
      · exact State.Tells.toneEnd (h.of_links (by exact State.askRefill_links _ _)) v
    · split
      · exact h.starved v
      · exact h.of_links (by rfl)

theorem State.Tells.voiceSamples (h : s.Tells anyLink t) (vs : List VoiceId) :
    s.Tells anyLink (t.voiceSamples vs).1 := by
  induction vs generalizing t with
  | nil => exact h
  | cons v rest ih => exact ih (h.voiceSample v)

theorem State.Tells.outputSample (h : s.Tells anyLink t) : s.Tells anyLink t.outputSample :=
  (h.voiceSamples allVoices).of_links (by rfl)

/-! ### The session and the store state (R157 to R159, R162) -/

theorem State.Tells.storeEvent (h : s.Tells anyLink t) (k : StoreEventKind) (previous : StoreState) (n : Option Nat)
    (v : Nat) : s.Tells anyLink (t.storeEvent k previous n v) := h.notifyBoth _

theorem State.Tells.endSession (h : s.Tells A t) (hk : ∀ k ∈ t.sessionTickets, A k.link) (j : Judgement) :
    s.Tells A (t.endSession j) := by
  unfold State.endSession
  split
  · exact h
  · have hr : s.Tells A (t.sessionTickets.foldl (fun u k => u.refuse k j) t) :=
      h.foldl _ fun k hm u hu => hu.refuse (hk k hm) j
    exact hr.media (((State.MediaOnly.refl _).setWork _).setBlockStates _ _)

theorem State.Tells.failSession (h : s.Tells anyLink t) (previous : StoreState) : s.Tells anyLink (t.failSession previous) := by
  unfold State.failSession
  split
  · exact h
  · exact (h.endSession (fun _ _ => trivial) _).storeEvent _ _ _ _

theorem State.Tells.enterReadOnly (h : s.Tells anyLink t) : s.Tells anyLink t.enterReadOnly := by
  unfold State.enterReadOnly
  split
  · have hw : s.Tells anyLink (t.setWork { t.media with store := some .readOnly }) := h.of_links (by rfl)
    dsimp only
    split
    · exact (hw.failSession _).media (State.MediaOnly.refl _).stopAllBackground
    · exact (hw.storeEvent _ _ _ _).media (State.MediaOnly.refl _).stopAllBackground
  · exact h

theorem State.Tells.replaceReserved (h : s.Tells anyLink t) (x : Session) (place b : Nat) (todo : List PageWork) :
    s.Tells anyLink (t.replaceReserved x place b todo) := by
  unfold State.replaceReserved
  dsimp only
  have hb : ∀ y : Session, s.Tells anyLink ((t.setSession y).badBlock b) := fun y =>
    h.media (((State.MediaOnly.refl t).setSession y).badBlock b)
  split
  · exact (hb _).media ((((State.MediaOnly.refl _).setSession _).takeReplacement _ _).stepRepair _)
  · exact (hb _).enterReadOnly

theorem State.Tells.sessionBlockFailed (h : s.Tells anyLink t) (place : Nat) (todo : List PageWork) :
    s.Tells anyLink (t.sessionBlockFailed place todo) := by
  unfold State.sessionBlockFailed
  split
  · exact h
  · split
    · exact h
    · split
      · exact h.media ((State.MediaOnly.refl t).badBlock _)
      · exact h.replaceReserved _ _ _ _

/-! ### Records, refresh, compaction and format (R144, R154, R158, R160, R163) -/

theorem State.Tells.committed (h : s.Tells anyLink t) (n : Nat) (v : VersionImage) : s.Tells anyLink (t.committed n v) := by
  unfold State.committed
  split
  · exact h
  · have hc : s.Tells anyLink ((t.setWork { t.media with session := none }).applyChange n (.commit n v) true) :=
      State.Tells.applyChange (h.of_links (by rfl)) _ _ _
    have he := (hc.media ((State.MediaOnly.refl _).setBlockStates (versionBlocks v) .live)).storeEvent .committed
      (t.media.store.getD .offline) (some n) v.number
    dsimp only
    split
    · exact he.complete trivial _
    · exact he

theorem State.Tells.changeApplied (h : s.Tells anyLink t) : s.Tells anyLink t.changeApplied := by
  unfold State.changeApplied
  split
  · exact h
  · have h1 : s.Tells anyLink { t with assets := { t.assets with change := none } } := h.of_links (by rfl)
    refine State.Tells.complete ?_ trivial []
    split
    · exact h1.applyChange _ _ _
    · exact h1.applyChange _ _ _
    · exact h1.applyChange _ _ _
    · exact h1.of_links (by rfl)

theorem State.Tells.refreshFailed (h : s.Tells anyLink t) : s.Tells anyLink t.refreshFailed := by
  unfold State.refreshFailed
  split
  · exact h
  · dsimp only
    split
    · exact h.media (((((State.MediaOnly.refl t).badBlock _).setWork _).takeReplacement _ _).ask4 _)
    · exact State.Tells.enterReadOnly (h.media (((State.MediaOnly.refl t).badBlock _).abandonRefresh _))

theorem State.Tells.recordFails (h : s.Tells anyLink t) (a : Asker) : s.Tells anyLink (t.recordFails a) := by
  unfold State.recordFails
  split
  · split
    · exact State.Tells.refuse (h.of_links (by rfl)) trivial _
    · exact h
  · exact h.media ((State.MediaOnly.refl t).abandonRefresh _)
  · exact h

theorem State.Tells.compactionFails (h : s.Tells anyLink t) : s.Tells anyLink t.compactionFails :=
  State.Tells.enterReadOnly (State.Tells.foldl (h.of_links (by rfl)) _ fun _ _ _ hu => hu.recordFails _)

theorem State.Tells.formatFails (h : s.Tells anyLink t) (f : Format) : s.Tells anyLink (t.formatFails f) := by
  unfold State.formatFails
  dsimp only
  have hb : ∀ u : State, u.links = t.links → s.Tells anyLink u.stopAllBackground := fun u hu =>
    (h.of_links hu).media (State.MediaOnly.refl u).stopAllBackground
  refine State.Tells.refuse ?_ trivial _
  split
  · exact hb _ rfl
  · exact State.Tells.storeEvent (hb _ (by rfl)) _ _ _ _

theorem State.Tells.snapshotDone (h : s.Tells anyLink t) (c : Compaction) (x : SnapshotImage) :
    s.Tells anyLink (t.snapshotDone c x) := by
  unfold State.snapshotDone
  dsimp only
  split
  · refine State.Tells.media (State.Tells.complete (State.Tells.storeEvent (h.of_links ?_) _ _ _ _) trivial _)
      (State.MediaOnly.refl _).pumpRecords
    rfl
  · exact h.media ((State.MediaOnly.refl t).setWork _).pumpRecords

theorem State.Tells.ringFailed (h : s.Tells anyLink t) : s.Tells anyLink t.ringFailed := by
  unfold State.ringFailed
  split
  · exact h
  · rename_i c _
    generalize (if c.source.isSome then 7 else 8) = limit
    split
    · split
      · exact h.formatFails _
      · exact h.compactionFails
    · exact h.media (((State.MediaOnly.refl t).setWork _).askCompaction _)

theorem State.Tells.snapshotPageDone (h : s.Tells anyLink t) (i : Nat) : s.Tells anyLink (t.snapshotPageDone i) := by
  unfold State.snapshotPageDone
  split
  · exact h
  · split
    · exact h
    · split
      · exact h.media ((State.MediaOnly.refl t).askSnapshotPage _ _ _)
      · exact h.snapshotDone _ _

theorem State.Tells.beginFormat (h : s.Tells anyLink t) (k : Ticket) : s.Tells anyLink (t.beginFormat k) := by
  unfold State.beginFormat
  extract_lets s1 s2 m s3 a s4 chosen others s5 s6 s7
  have h2 : s.Tells anyLink s2 :=
    ((h.endSounds (fun _ _ => trivial) _).endSession (fun _ _ => trivial) _).media
      ((State.MediaOnly.refl _).abandonRefresh _)
  have h4 : s.Tells anyLink s4 := h2.of_links (by simp only [s4, s3, State.flushUser, State.setWork])
  have h5 : s.Tells anyLink s5 :=
    h4.media (((State.MediaOnly.refl s4).setBlockStates others _).setBlockStates chosen _).tidyErases
  have h6 : s.Tells anyLink s6 := h5.media ((State.MediaOnly.refl s5).foldl chosen fun _ _ hu => hu.ask2 _)
  have h7 : s.Tells anyLink s7 := h6.readsAgain _
  exact h7.media ((State.MediaOnly.refl s7).setFormatSpares _ _)

/-! ### Completions (R152 to R160) -/

theorem State.Tells.blockLost (h : s.Tells anyLink t) (b : Nat) : s.Tells anyLink (t.blockLost b) := by
  unfold State.blockLost
  dsimp only
  split
  · exact h.sessionBlockFailed _ _
  · split
    · exact h.media ((State.MediaOnly.refl t).spareFailed _ _)
    · split
      · exact h.media ((State.MediaOnly.refl t).badBlock _)
      · exact h
  · split
    · exact h.media ((State.MediaOnly.refl t).badBlock _)
    · exact h

theorem State.Tells.recordDone (h : s.Tells anyLink t) : s.Tells anyLink t.recordDone := by
  unfold State.recordDone
  split
  · exact h.of_links (by rfl)
  · have h1 : ∀ m, s.Tells anyLink (t.setWork m) := fun m => h.of_links (by rfl)
    refine State.Tells.media ?_ (State.MediaOnly.refl _).afterAppend
    split
    · exact (h1 _).changeApplied
    · exact (h1 _).committed _ _
    · exact (h1 _).of_links (State.remapApplied_links _ _ _)
    · exact h1 _

theorem State.Tells.sessionPageDone (h : s.Tells anyLink t) (place : Nat) (w : PageWork) (b : Nat) :
    s.Tells anyLink (t.sessionPageDone place w b) := by
  unfold State.sessionPageDone
  split
  · exact h
  · rename_i x _
    have h2 : ∀ y : Session, ∀ moved : Bool,
        s.Tells anyLink (if moved then (t.setSession y).stepRepair place else t.setSession y) := by
      intro y moved
      split
      · exact h.media (((State.MediaOnly.refl t).setSession y).stepRepair place)
      · exact h.of_links (by rfl)
    refine State.Tells.media ?_ (State.MediaOnly.refl _).pumpClose
    split
    · exact (h2 _ _).complete trivial _
    · exact h2 _ _

theorem State.Tells.workDone (h : s.Tells anyLink t) (o : FlashOp) : s.Tells anyLink (t.workDone o) := by
  unfold State.workDone
  split
  · exact h.sessionPageDone _ _ _
  · exact h.media ((State.MediaOnly.refl t).copyDone _ _ _)
  · exact h.recordDone
  · exact h.snapshotPageDone _
  · exact h.media ((State.MediaOnly.refl t).refreshPageDone _)
  · exact h

theorem State.Tells.workFailed (h : s.Tells anyLink t) (o : FlashOp) : s.Tells anyLink (t.workFailed o) := by
  unfold State.workFailed
  split
  · split
    · exact h.sessionBlockFailed _ _
    · exact h.of_links (by rfl)
  · split
    · exact h.sessionBlockFailed _ _
    · exact h.media ((State.MediaOnly.refl t).stepRepair _)
  · exact h.media ((State.MediaOnly.refl t).setWork _).afterAppend
  · exact h.ringFailed
  · exact h.refreshFailed
  · exact h.blockLost _

theorem State.Tells.programEnded (h : s.Tells anyLink t) (ok : Bool) : s.Tells anyLink (t.programEnded ok) := by
  unfold State.programEnded
  split
  · split
    · dsimp only
      split
      · exact h.media (((State.MediaOnly.refl t).setWork _).askVerify _)
      · exact State.Tells.workFailed (h.of_links (by rfl)) _
    · exact h
  · exact h

theorem State.Tells.verifyEnded (h : s.Tells anyLink t) (sectors : List (Option Nat)) :
    s.Tells anyLink (t.verifyEnded sectors) := by
  unfold State.verifyEnded
  split
  · split
    · dsimp only
      split
      · exact State.Tells.workDone (h.of_links (by rfl)) _
      · exact State.Tells.workFailed (h.of_links (by rfl)) _
    · exact h
  · exact h

theorem State.Tells.eraseFailed (h : s.Tells anyLink t) (o : FlashOp) : s.Tells anyLink (t.eraseFailed o) := by
  unfold State.eraseFailed
  split
  · exact h.ringFailed
  · exact h.blockLost _

theorem State.Tells.eraseEnded (h : s.Tells anyLink t) (ok : Bool) : s.Tells anyLink (t.eraseEnded ok) := by
  unfold State.eraseEnded
  split
  · split
    · dsimp only
      split
      · exact h.media ((((State.MediaOnly.refl t).setWork _).setBlock _ _).erased _)
      · exact State.Tells.eraseFailed (h.of_links (by rfl)) _
    · exact h
  · exact h

theorem State.Tells.readEnded (h : s.Tells anyLink t) (o : FlashOp) (data : Option (List Byte)) :
    s.Tells anyLink (t.readEnded o data) := by
  unfold State.readEnded
  split
  · unfold State.refillEnded
    split
    · exact h.of_links (State.refillArrived_links _ _ _)
    · split
      · exact h.finishVoice _ _
      · exact h
  · exact h.readArrived _ _ _
  · unfold State.copyReadEnded
    split
    · exact h.of_links (by rfl)
    · exact h.failSession _
  · exact h.media ((State.MediaOnly.refl t).refreshReadEnded _ _)
  · exact h

theorem State.Tells.pageRead (h : s.Tells anyLink t) (refill : Bool) (r : PageRead) :
    s.Tells anyLink (t.pageRead refill r) := by
  unfold State.pageRead
  split
  · split
    · exact State.Tells.readEnded (h.media (((State.MediaOnly.refl t).setWork _).noteCorrections _ _)) _ _
    · exact h
  · exact h

theorem State.Tells.mediaCutoff (h : s.Tells anyLink t) : s.Tells anyLink t.mediaCutoff := by
  unfold State.mediaCutoff
  refine State.Tells.media ?_ (((State.MediaOnly.refl _).setWork _).abandonRefresh _)
  split
  · exact h
  · exact h.endSession (fun _ _ => trivial) _

theorem State.Tells.mediaDown (h : s.Tells A t) {l : Link}
    (hk : ∀ x, t.media.session = some x → x.link = l → ∀ k ∈ t.sessionTickets, A k.link) :
    s.Tells A (t.mediaDown l) := by
  unfold State.mediaDown
  split
  · rename_i x hx
    split
    · rename_i hl
      exact h.endSession (hk x hx hl.1) _
    · exact h
  · exact h

end Store

end Sys2Proof.Machine

/-! SUPPORT. Every command outside chapter 1 and the resets changes the Link Units by hand-overs alone. -/

namespace Sys2Proof.Machine

section Supply
variable {s t : State}

/-! ### Supply Monitor and Start-up Control -/

theorem State.Tells.enterCutoff (h : s.Tells anyLink t) : s.Tells anyLink t.enterCutoff :=
  (h.cutoffMotors.endSounds (fun _ _ => trivial) .supply).mediaCutoff

theorem State.Tells.supplyChange (h : s.Tells anyLink t) (previous new : SupplyState) (mean : Nat) :
    s.Tells anyLink (t.supplyChange previous new mean) := by
  have hn : s.Tells anyLink ((t.setSupply { t.supply with state := some new, changedAt := t.now }).notifyBoth
      (.supplyChanged new previous mean)) := State.Tells.notifyBoth (h.of_links (by rfl)) _
  unfold State.supplyChange
  dsimp only
  split
  · exact hn.enterCutoff
  · exact hn

theorem State.Tells.takeReading (h : s.Tells anyLink t) (mv : Nat) : s.Tells anyLink (t.takeReading mv) := by
  have hs : ∀ x, s.Tells anyLink (t.setSupply x) := fun x => h.of_links rfl
  unfold State.takeReading
  dsimp only
  split
  · exact hs _
  · split
    · split
      · exact h.of_links (by rfl)
      · exact h.of_links (by rfl)
    · split
      · exact hs _
      · exact (hs _).supplyChange _ _ _

theorem State.Tells.enterReady (h : s.Tells anyLink t) : s.Tells anyLink t.enterReady := by
  unfold State.enterReady
  refine State.Tells.foldl ?_ allPorts fun p _ _ hu => hu.beginDetection p
  exact h.of_links (by rfl)

theorem State.Tells.memoryTested (h : s.Tells anyLink t) (r : MemoryResult) : s.Tells anyLink (t.memoryTested r) := by
  cases r <;> exact h.of_links (by rfl)

theorem State.Tells.driversChecked (h : s.Tells anyLink t) : s.Tells anyLink t.driversChecked := by
  unfold State.driversChecked
  dsimp only
  split <;> exact h.of_links (by rfl)

@[simp] theorem State.setStep_links (s : State) (n : Nat) : (s.setStep n).links = s.links := rfl

@[simp] theorem State.setWork_links (s : State) (m : Media) : (s.setWork m).links = s.links := rfl

theorem State.Tells.flashScanned (h : s.Tells anyLink t) (x : FlashScan) : s.Tells anyLink (t.flashScanned x) := by
  have hu : ∀ minor ps, s.Tells anyLink (t.storeUnusable minor ps) := fun minor ps => by
    unfold State.storeUnusable
    exact State.Tells.enterReady (h.of_links (by rfl))
  unfold State.flashScanned
  split
  · exact hu _ _
  · exact hu _ _
  · exact h.of_links (by rw [State.setStep_links, State.setWork_links])

theorem State.Tells.factoryRead (h : s.Tells anyLink t) (x : FactoryIndex) : s.Tells anyLink (t.factoryRead x) := by
  cases x
  · exact h.of_links (by rfl)
  · exact h.of_links (by rfl)
  · exact h.of_links (by exact State.setBlockStates_links _ _ _)

theorem State.Tells.replayRing (h : s.Tells anyLink t) (ring : List RingImage) : s.Tells anyLink (t.replayRing ring) := by
  unfold State.replayRing
  split <;> exact h.of_links (by rfl)

/-! ### Asset requests -/

theorem State.Tells.awaitChange (h : s.Tells anyLink t) (k : Ticket) (r : CatRecord) (numbers : List Nat) :
    s.Tells anyLink (t.awaitChange k r numbers) :=
  State.Tells.media (h.of_links (by rfl)) ((State.MediaOnly.refl _).append _ _)

theorem State.Tells.acceptRead (h : s.Tells anyLink t) (k : Ticket) (n offset count : Nat) :
    s.Tells anyLink (t.acceptRead k n offset count) := by
  unfold State.acceptRead
  split
  · exact State.Tells.beginRead (h.of_links (by rfl)) _ _
  · exact h.beginRead _ _

theorem State.Tells.assetRead (h : s.Tells anyLink t) (k : Ticket) (b : List Byte) :
    s.Tells anyLink (State.assetRead k b t) := h.check _ _ (h.acceptRead _ _ _ _)

theorem State.Tells.probePage (h : s.Tells anyLink t) (k : Ticket) (b : List Byte) :
    s.Tells anyLink (State.probePage k b t) := by
  unfold State.probePage
  dsimp only
  split
  · exact h.refuse trivial _
  · split
    · exact h.readFails _ _ _ _ _
    · split
      · exact h.readFails _ _ _ _ _
      · exact h.beginRead _ _

theorem State.Tells.assetProtect (h : s.Tells anyLink t) (k : Ticket) (b : List Byte) :
    s.Tells anyLink (State.assetProtect k b t) := by
  refine h.check _ _ ?_
  split
  · exact h.complete trivial _
  · exact h.awaitChange _ _ _

theorem State.Tells.marksClear (h : s.Tells anyLink t) (k : Ticket) (b : List Byte) :
    s.Tells anyLink (State.marksClear k b t) := by
  refine h.check _ _ ?_
  unfold State.clearMarks
  dsimp only
  split
  · exact State.Tells.complete (h.of_links (by rfl)) trivial _
  · exact h.awaitChange _ _ _

/-! ### Write session requests -/

theorem State.Tells.writeOpen (h : s.Tells anyLink t) (k : Ticket) (b : List Byte) :
    s.Tells anyLink (State.writeOpen k b t) :=
  h.check _ _ ((h.media ((State.MediaOnly.refl t).openSession _ _ _ _ _ _)).complete trivial _)

theorem State.Tells.writeChunk (h : s.Tells anyLink t) (k : Ticket) (b : List Byte) :
    s.Tells anyLink (State.writeChunk k b t) := by
  refine h.check _ _ ?_
  unfold State.takeChunk
  split
  · exact h
  · dsimp only
    split
    · exact State.Tells.complete (h.of_links (by rfl)) trivial _
    · exact h.of_links (by rfl)

theorem State.Tells.writeClose (h : s.Tells anyLink t) (k : Ticket) (b : List Byte) :
    s.Tells anyLink (State.writeClose k b t) := by
  refine h.check _ _ ?_
  unfold State.beginClose
  split
  · exact h
  · refine h.media (State.MediaOnly.pumpClose ?_)
    split
    · exact (State.MediaOnly.refl t).setSession _
    · exact ((State.MediaOnly.refl t).setSession _).ask2 _

theorem State.Tells.writeCancel (h : s.Tells anyLink t) (k : Ticket) (b : List Byte) :
    s.Tells anyLink (State.writeCancel k b t) :=
  h.check _ _ ((h.endSession (fun _ _ => trivial) _).complete trivial _)

/-! ### Detector and motion requests -/

theorem State.Tells.brickDetectSet (h : s.Tells anyLink t) (k : Ticket) (b : List Byte) :
    s.Tells anyLink (State.brickDetectSet k b t) := by
  refine h.check _ _ (State.Tells.complete (h.of_links ?_) trivial _)
  unfold State.setBrick
  dsimp only
  split <;> rfl

theorem State.Tells.watchClear (h : s.Tells anyLink t) (k : Ticket) (b : List Byte) :
    s.Tells anyLink (State.watchClear k b t) :=
  h.check _ _ (State.Tells.complete (h.of_links (foldl_links (fun _ _ => by rfl) _ t)) trivial _)

theorem State.Tells.move (h : s.Tells anyLink t) (k : Ticket) (b : List Byte) : s.Tells anyLink (State.move k b t) :=
  h.check _ _ (State.Tells.complete (State.Tells.placeCommand (h.of_links (by rfl)) _ _ _) trivial _)

theorem State.Tells.halt (h : s.Tells anyLink t) (k : Ticket) (b : List Byte) : s.Tells anyLink (State.halt k b t) :=
  h.check _ _ (State.Tells.complete (State.Tells.haltMotor (h.of_links (by rfl)) _ _) trivial _)

theorem State.Tells.pairUnbind (h : s.Tells anyLink t) (k : Ticket) (b : List Byte) :
    s.Tells anyLink (State.pairUnbind k b t) := by
  unfold State.pairUnbind
  split
  · exact h.refuse trivial _
  · exact h.check _ _ (State.Tells.complete (h.of_links (t.freePair_links _)) trivial _)

theorem State.Tells.pairMove (h : s.Tells anyLink t) (k : Ticket) (b : List Byte) :
    s.Tells anyLink (State.pairMove k b t) := by
  unfold State.pairMove
  split
  · exact h.refuse trivial _
  · exact h.check _ _ (State.Tells.complete (State.Tells.placeCommand (h.of_links (by rfl)) _ _ _) trivial _)

/-! ### Port requests and sensing requests -/

theorem State.Tells.releasePort (h : s.Tells anyLink t) (k : Ticket) (b : List Byte) :
    s.Tells anyLink (State.releasePort k b t) :=
  h.check _ _ ((h.releaseChan _ fun _ _ => Motor.issued_any _).complete trivial _)

theorem State.Tells.portReset (h : s.Tells anyLink t) (k : Ticket) (b : List Byte) :
    s.Tells anyLink (State.portReset k b t) := by
  refine h.check _ _ (State.Tells.complete ?_ trivial _)
  unfold State.resetPort
  split
  · exact h.emptyPort _
  · exact h.settlePort _ _

theorem State.Tells.viewSet (h : s.Tells anyLink t) (k : Ticket) (b : List Byte) :
    s.Tells anyLink (State.viewSet k b t) :=
  h.check _ _ (State.Tells.complete (h.of_links (by simp [State.setViewOf])) trivial _)

/-! ### Report requests -/

@[simp] theorem State.withdraw_links (s : State) (l : Link) (q : QueueId) : (s.withdraw l q).links = s.links := by
  unfold State.withdraw
  split <;> rfl

theorem State.Tells.streamSet (h : s.Tells anyLink t) (k : Ticket) (b : List Byte) :
    s.Tells anyLink (State.streamSet k b t) :=
  h.check _ _ (State.Tells.complete (h.of_links (by simp [State.setStreamTo, State.setStream])) trivial _)

theorem State.Tells.streamEnable (h : s.Tells anyLink t) (k : Ticket) (b : List Byte) :
    s.Tells anyLink (State.streamEnable k b t) :=
  h.check _ _ (State.Tells.complete (h.of_links (by simp [State.enableStream, State.setStream])) trivial _)

/-! ### Sound requests -/

theorem State.Tells.acceptSound (h : s.Tells anyLink t) (x : Sound) : s.Tells anyLink (t.acceptSound x).1 :=
  State.Tells.placeSound (h.of_links (by rfl)) x

theorem State.Tells.playTone (h : s.Tells anyLink t) (k : Ticket) (b : List Byte) :
    s.Tells anyLink (State.playTone k b t) := h.check _ _ ((h.acceptSound _).complete trivial _)

theorem State.Tells.playClip (h : s.Tells anyLink t) (k : Ticket) (b : List Byte) :
    s.Tells anyLink (State.playClip k b t) := by
  refine h.check _ _ ?_
  split
  · exact h.refuse trivial _
  · refine h.check _ _ (State.Tells.complete (State.Tells.acceptSound (h.of_links ?_) _) trivial _)
    simp [State.setReadMark]

theorem State.Tells.soundStop (h : s.Tells anyLink t) (k : Ticket) (b : List Byte) :
    s.Tells anyLink (State.soundStop k b t) :=
  h.check _ _ ((h.endSounds (fun _ _ => trivial) _).complete trivial _)

end Supply

end Sys2Proof.Machine

/-! SUPPORT. Every command outside chapter 1 acts on the Link Units by hand-overs alone. -/

namespace Sys2Proof.Machine

/-- The commands that write the Link Units' own records: the resets, those of chapter 1, LINK COUNTS, which clears
counts, and RATE QUEUE EXPIRY, which counts overruns. -/
def writesLinks : Instr → Bool
  | .powerOn | .resetAsserted | .resetReleased | .linkUp _ | .linkDown _ | .overlength .. | .frameReceived ..
  | .fragmentTimeout _ | .badStopBit | .transmitArbiterChoose _ | .frameSent _ | .syncByteReceived _
  | .linkCounts .. | .rateQueueExpiry .. => true
  | _ => false

/-- Whether the command is a request. -/
def isRequest : Instr → Bool
  | .hubStatus .. | .linkCounts .. | .hubReset .. | .portInfo .. | .claimPort .. | .releasePort .. | .selectMode ..
  | .portReset .. | .move .. | .halt .. | .setZero .. | .setGains .. | .motorState .. | .pairBind .. | .pairUnbind ..
  | .pairMove .. | .viewSet .. | .readValues .. | .brickDetectSet .. | .subscribe .. | .watchSet .. | .watchClear ..
  | .watchState .. | .brickState .. | .rateSet .. | .streamSet .. | .streamEnable .. | .playTone .. | .playClip ..
  | .soundStop .. | .volumeSet .. | .soundState .. | .assetInfo .. | .assetRead .. | .writeOpen .. | .writeChunk ..
  | .writeClose .. | .writeCancel .. | .assetDelete .. | .assetAlias .. | .assetProtect .. | .marksRead ..
  | .marksClear .. | .storeLock .. | .probePage .. | .storeState .. | .formatUser .. => true
  | _ => false

section
variable {A : Link → Prop} {s t u : State}

/-- An act under a condition, in a hub that is not held, tells what the act tells. -/
theorem State.Tells.unlessHeld_ite {c : State → Prop} [∀ x, Decidable (c x)] {f : State → State}
    (h : s.Tells A (f s)) : s.Tells A (s.unlessHeld fun x => if c x then f x else x) := by
  refine State.Tells.unlessHeld ?_
  split
  · exact h
  · exact .refl A s

/-- A request whose effect leaves the Link Units alone tells its answer. -/
theorem State.Tells.answer (h : s.Tells anyLink t) {k : Ticket} {cs : List (Bool × Judgement)}
    {f : State → State} {g : State → List Byte} (e : (f t).links = t.links) :
    s.Tells anyLink (t.check k cs fun x => (f x).complete k (g x)) :=
  h.check _ _ ((h.of_links e).complete trivial _)

/-! ### The requests -/

theorem State.Tells.selectMode (h : s.Tells anyLink t) (k : Ticket) (b : List Byte) :
    s.Tells anyLink (State.selectMode k b t) := h.check _ _ (h.of_links (by rfl))

theorem exec_request_tells {i : Instr} (hr : isRequest i = true) (hi : writesLinks i = false)
    (h : exec i s = .next t) : s.Tells anyLink t := by
  cases i <;> cases hr
  case linkCounts => cases hi
  all_goals cases h
  all_goals refine State.Tells.serve _ _ _ fun k b x hx => ?_
  case hubStatus => exact hx.answer rfl
  case hubReset => exact hx.answer rfl
  case portInfo => exact hx.answer rfl
  case claimPort => exact hx.answer (State.setHolder_links _ _ _)
  case releasePort => exact hx.releasePort k b
  case selectMode => exact hx.selectMode k b
  case portReset => exact hx.portReset k b
  case move => exact hx.move k b
  case halt => exact hx.halt k b
  case setZero => exact hx.answer rfl
  case setGains => exact hx.answer rfl
  case motorState => exact hx.answer rfl
  case pairBind => exact hx.answer rfl
  case pairUnbind => exact hx.pairUnbind k b
  case pairMove => exact hx.pairMove k b
  case viewSet => exact hx.viewSet k b
  case readValues => exact hx.answer rfl
  case brickDetectSet => exact hx.brickDetectSet k b
  case subscribe => exact hx.answer rfl
  case watchSet => exact hx.answer rfl
  case watchClear => exact hx.watchClear k b
  case watchState => exact hx.answer rfl
  case brickState => exact hx.answer rfl
  case rateSet => exact hx.answer rfl
  case streamSet => exact hx.streamSet k b
  case streamEnable => exact hx.streamEnable k b
  case playTone => exact hx.playTone k b
  case playClip => exact hx.playClip k b
  case soundStop => exact hx.soundStop k b
  case volumeSet => exact hx.answer rfl
  case soundState => exact hx.answer rfl
  case assetInfo => exact hx.answer rfl
  case assetRead => exact hx.assetRead k b
  case writeOpen => exact hx.writeOpen k b
  case writeChunk => exact hx.writeChunk k b
  case writeClose => exact hx.writeClose k b
  case writeCancel => exact hx.writeCancel k b
  case assetDelete => exact hx.check _ _ (hx.awaitChange _ _ _)
  case assetAlias => exact hx.check _ _ (hx.awaitChange _ _ _)
  case assetProtect => exact hx.assetProtect k b
  case marksRead => exact hx.answer rfl
  case marksClear => exact hx.marksClear k b
  case storeLock => exact hx.answer rfl
  case probePage => exact hx.probePage k b
  case storeState => exact hx.answer rfl
  case formatUser => exact hx.check _ _ (hx.beginFormat k)

/-! ### The other commands -/

theorem State.Tells.lineRule (p : Port) (m : LineMessage) {rule : State → Option State}
    (hr : ∀ x y, s.Tells anyLink x → rule x = some y → s.Tells anyLink y) :
    s.Tells anyLink (s.unlessHeld fun x => x.lineMessage p m rule) :=
  State.Tells.unlessHeld ((State.Tells.refl _ s).lineMessage p m hr)

theorem exec_other_tells {i : Instr} (hr : isRequest i = false) (hi : writesLinks i = false)
    (h : exec i s = .next t) : s.Tells anyLink t := by
  have hs : s.Tells anyLink s := .refl _ s
  cases i <;> cases hr <;> cases hi <;> cases h
  case memoryTest r => exact State.Tells.unlessHeld_ite (hs.memoryTested r)
  case driverCheck => exact State.Tells.unlessHeld_ite hs.driversChecked
  case flashIdentification x => exact State.Tells.unlessHeld_ite (hs.flashScanned x)
  case factoryIndexRead x => exact State.Tells.unlessHeld_ite (hs.factoryRead x)
  case catalogueReplay r => exact State.Tells.unlessHeld_ite (hs.replayRing r).enterReady
  case supplyReading mv => exact State.Tells.unlessHeld_ite (hs.takeReading mv)
  case holdRises => exact hs.of_links rfl
  case holdFalls => exact hs.of_links rfl
  case detectChange p level =>
    have h1 : s.Tells anyLink (s.setPins { s.pins with detect := s.pins.detect.set p level }) := hs.of_links rfl
    split
    · exact h1.detectInput p level
    · exact h1
  case driverFault p a =>
    have h1 : s.Tells anyLink (s.setPins { s.pins with fault := s.pins.fault.set p a }) := hs.of_links rfl
    split
    · exact h1.faultPort p .overload
    · exact h1
  case debounceExpiry p => exact State.Tells.unlessHeld_ite ((hs.expire _ _).settled p)
  case deviceLineGapTimeout p =>
    refine State.Tells.unlessHeld ?_
    split
    · exact hs
    · exact hs.setPort _ _
  case deviceNotReady p m =>
    refine State.Tells.lineRule p m fun x y hx hy => ?_
    split at hy <;> cases hy
    exact hx
  case deviceIdentity p d m =>
    refine State.Tells.lineRule p m fun x y hx hy => ?_
    split at hy <;> cases hy
    exact hx.identity p d
  case deviceAck p m =>
    refine State.Tells.lineRule p m fun x y hx hy => ?_
    split at hy <;> cases hy
    exact hx.speedAck p
  case deviceData p mode values m => exact State.Tells.lineRule p m fun x y hx hy => hx.data hy
  case enquirePoll p => exact State.Tells.unlessHeld_ite ((hs.expire _ _).setPort _ _)
  case identDeadlineExpiry p => exact State.Tells.unlessHeld_ite ((hs.expire _ _).faultPort p _)
  case speedAckTimeout p =>
    refine State.Tells.unlessHeld_ite ?_
    dsimp only
    split
    · exact (hs.expire _ _).faultPort p _
    · exact (hs.expire _ _).setPort _ _
  case firstDataTimeout p =>
    refine State.Tells.unlessHeld_ite ?_
    dsimp only
    split
    · exact (hs.expire _ _).faultPort p _
    · exact (hs.expire _ _).setPort _ _
  case nudge p => exact State.Tells.unlessHeld_ite ((hs.expire _ _).setPort _ _)
  case silentPath p =>
    refine State.Tells.unlessHeld ?_
    split
    · split
      · exact (hs.expire _ _).silent p
      · exact hs
    · exact hs
  case silentRetryClear p => exact State.Tells.unlessHeld_ite ((hs.expire _ _).setPort _ _)
  case modeChangeTimeout p =>
    refine State.Tells.unlessHeld ?_
    split
    · exact hs
    · dsimp only
      split
      · exact State.Tells.silent (State.Tells.refuse ((hs.expire _ _).setPort _ _) trivial _) p
      · exact (hs.expire _ _).setPort _ _
  case controlPeriod => exact State.Tells.unlessHeld hs.controlPeriod
  case timeRunEnd p => exact State.Tells.unlessHeld (hs.of_links (by simp))
  case settleDone p => exact State.Tells.unlessHeld (hs.settleDone p)
  case settleTimeout p => exact State.Tells.unlessHeld (hs.settleTimeout p)
  case stallRecognised p => exact State.Tells.unlessHeld (hs.recogniseStall p)
  case encoderEdge p x => exact State.Tells.unlessHeld_ite (hs.setMotor _ _)
  case portISample => exact State.Tells.unlessHeld_ite (hs.internalSample _ _ _ _ _ _)
  case watchFired l slot => exact State.Tells.unlessHeld (hs.fireWatch l slot)
  case outputSample =>
    refine State.Tells.unlessHeld ?_
    split
    · exact hs.outputSample
    · exact hs.of_links rfl
  case toneEnd v => exact State.Tells.unlessHeld (hs.toneEnd v)
  case clipPassEnd v => exact State.Tells.unlessHeld (hs.passEnd v)
  case soundStarved v => exact State.Tells.unlessHeld (hs.starved v)
  case refillComplete r => exact State.Tells.unlessHeld (hs.pageRead true r)
  case pageReadComplete r => exact State.Tells.unlessHeld (hs.pageRead false r)
  case flashArbiterChoose => exact State.Tells.unlessHeld (hs.of_links (by simp))
  case backgroundEraseStart => exact State.Tells.unlessHeld_ite (hs.media (State.MediaOnly.refl s).startErase)
  case refreshStart => exact State.Tells.unlessHeld_ite (hs.media (State.MediaOnly.refl s).startRefresh)
  case programComplete ok => exact State.Tells.unlessHeld (hs.programEnded ok)
  case verifyComplete x => exact State.Tells.unlessHeld (hs.verifyEnded x)
  case eraseComplete ok => exact State.Tells.unlessHeld (hs.eraseEnded ok)

/-- A command that does not write the Link Units' own records acts on them by hand-overs alone. -/
theorem exec_tells {i : Instr} (hi : writesLinks i = false) (h : exec i s = .next t) : s.Tells anyLink t := by
  cases hr : isRequest i with
  | true => exact exec_request_tells hr hi h
  | false => exact exec_other_tells hr hi h

end

end Sys2Proof.Machine

/-! PROOF of O57: every step keeps the two Link Units sound (R3, R7 to R11, R14). -/

namespace Sys2Proof.Machine

/-! ### One Link Unit in the commands of chapter 1 -/

section Unit
variable {u w : LinkUnit}

/-- Entries, refusals, notices and drops that leave break no bound (R8 to R11). -/
theorem LinkUnit.Bounded.shrink (h : u.Bounded) (ht : w.table.Sublist u.table) (hs : w.nextSerial = u.nextSerial)
    (hr : w.refusals ≤ u.refusals) (hn : w.notices.length ≤ u.notices.length) (hd : w.drops ≤ u.drops) :
    w.Bounded where
  entries := ht.length_le.trans h.entries
  tags := h.tags.sublist (ht.map _)
  serials := h.serials.sublist (ht.map _)
  fresh e he := hs ▸ h.fresh e (ht.subset he)
  refusals := hr.trans h.refusals
  notices := hn.trans h.notices
  drops := hd.trans h.drops

/-- What is sent leaves class 1, and with it at most one refusal (R9). -/
theorem refusals_tail_le (rs : List Ready) : (rs.tail.filter Ready.isRefusal).length ≤ (rs.filter Ready.isRefusal).length :=
  ((List.tail_sublist rs).filter _).length_le

theorem LinkUnit.Bounded.responseSent (h : u.Bounded) (serial : Nat) (j : Judgement) :
    (u.responseSent serial j).Bounded :=
  h.shrink List.filter_sublist rfl (refusals_tail_le _) le_rfl le_rfl

@[simp] theorem LinkUnit.refuse_up (u : LinkUnit) (tag : Byte) (j : Judgement) : (u.refuse tag j).up = u.up := by
  unfold LinkUnit.refuse
  split <;> rfl

theorem LinkUnit.Bounded.admission (h : u.Bounded) (tag code : Byte) (b : List Byte) (now : Word32) :
    (u.admission tag code b now).Bounded := by
  unfold LinkUnit.admission
  split
  · exact h.refuse tag _
  · rename_i ht
    split
    · exact h.refuse tag _
    · split
      · exact h.refuse tag _
      · exact h.enrol (by simpa using ht) (by omega) _ b now

@[simp] theorem LinkUnit.admission_up (u : LinkUnit) (tag code : Byte) (b : List Byte) (now : Word32) :
    (u.admission tag code b now).up = u.up := by
  unfold LinkUnit.admission
  split
  · exact u.refuse_up tag _
  · split
    · exact u.refuse_up tag _
    · split
      · exact u.refuse_up tag _
      · rfl

theorem LinkUnit.Bounded.request (h : u.Bounded) (hub : HubState) (tag code : Byte) (b : List Byte) (now : Word32) :
    (u.request hub tag code b now).Bounded := by
  have hc := h.count LinkCounts.addReceived
  unfold LinkUnit.request
  cases hub with
  | ready => exact hc.admission tag code b now
  | starting =>
    dsimp only
    split
    · exact hc.admission tag code b now
    · exact hc.refuse tag _
  | failed =>
    dsimp only
    split
    · exact hc.admission tag code b now
    · exact hc.count _

theorem LinkUnit.request_up (u : LinkUnit) (hub : HubState) (tag code : Byte) (b : List Byte) (now : Word32) :
    (u.request hub tag code b now).up = u.up := by
  unfold LinkUnit.request
  cases hub with
  | ready => exact LinkUnit.admission_up _ _ _ _ _
  | starting =>
    dsimp only
    split
    · exact LinkUnit.admission_up _ _ _ _ _
    · exact LinkUnit.refuse_up _ _ _
  | failed =>
    dsimp only
    split
    · exact LinkUnit.admission_up _ _ _ _ _
    · rfl

theorem LinkUnit.Bounded.hunting (h : u.Bounded) : ({ u with receiver := .hunting } : LinkUnit).Bounded :=
  h.shrink (.refl _) rfl le_rfl le_rfl le_rfl

theorem LinkUnit.Bounded.sent (h : u.Bounded) : ({ u with tx := none } : LinkUnit).Bounded :=
  h.shrink (.refl _) rfl le_rfl le_rfl le_rfl

theorem LinkUnit.Bounded.refusalSent (h : u.Bounded) :
    ({ u with tx := none, ready := u.ready.tail } : LinkUnit).Bounded :=
  h.shrink (.refl _) rfl (refusals_tail_le _) le_rfl le_rfl

theorem LinkUnit.Bounded.frame (h : u.Bounded) (hub : HubState) (kind tag code : Byte) (b : List Byte)
    (check : Word16) (now : Word32) : (u.frame hub kind tag code b check now).Bounded := by
  unfold LinkUnit.frame
  dsimp only
  split
  · exact h.hunting.count _
  · split
    · exact h.hunting.count _
    · split
      · exact h.hunting.count _
      · exact h.hunting.request hub tag code b now

theorem LinkUnit.frame_up (u : LinkUnit) (hub : HubState) (kind tag code : Byte) (b : List Byte)
    (check : Word16) (now : Word32) : (u.frame hub kind tag code b check now).up = u.up := by
  unfold LinkUnit.frame
  dsimp only
  split
  · rfl
  · split
    · rfl
    · split
      · rfl
      · exact LinkUnit.request_up _ _ _ _ _ _

theorem LinkUnit.Bounded.fragment (h : u.Bounded) : u.fragment.Bounded := h.hunting.count _

/-- A link with its receiver in a frame, or with something in transmission, is UP (R3, R14). -/
theorem LinkUnit.DownEmpty.up_of_inFrame (h : u.DownEmpty) {x : Word32} (hr : u.receiver = .inFrame x) : u.up = true := by
  by_contra hu
  obtain ⟨_, _, _, _, _, hh⟩ := h (by simpa using hu)
  rw [hr] at hh
  cases hh

theorem LinkUnit.DownEmpty.up_of_tx (h : u.DownEmpty) {x : Tx} (ht : u.tx = some x) : u.up = true := by
  by_contra hu
  obtain ⟨_, _, _, _, hh, _⟩ := h (by simpa using hu)
  rw [ht] at hh
  cases hh

end Unit

/-! ### The transmit arbiter leaves the Link Units alone while it assembles a service -/

@[simp] theorem State.members_links (s : State) (l : Link) (cs : List Chan) : (s.members l cs).1.links = s.links := by
  induction cs generalizing s with
  | nil => rfl
  | cons c rest ih =>
    refine (ih _).trans ?_
    unfold State.member
    split <;> rfl

@[simp] theorem State.assemble_links (s : State) (l : Link) (q : QueueId) (ns : List Nat) :
    (s.assemble l q ns).1.links = s.links := by
  induction ns generalizing s with
  | nil => rfl
  | cons n rest ih => exact (ih _).trans (s.members_links l _)

@[simp] theorem State.beginService_links (s : State) (l : Link) (q : QueueId) : (s.beginService l q).links = s.links :=
  s.assemble_links l q _

/-! ### The links through chapter 1 -/

section Links
variable {s : State}

/-- An UP link's unit may take any bounded value in which it is UP. -/
theorem State.LinksSound.setUp (h : s.LinksSound) (l : Link) {u : LinkUnit} (hb : u.Bounded) (hu : u.up = true) :
    (s.setLink l u).LinksSound := State.LinksSound.setLink h l ⟨hb, LinkUnit.downEmpty_of_up hu⟩

/-- The receiver's state has no part in the bounds, nor has the frame in transmission. -/
theorem State.LinksSound.setTx (h : s.LinksSound) {l : Link} (hu : (s.link l).up = true) (x : Option Tx) :
    (s.setLink l { s.link l with tx := x }).LinksSound :=
  h.setUp l ((h l).1.shrink (.refl _) rfl le_rfl le_rfl le_rfl) hu

theorem State.LinksSound.fresh (pins : Pins) (pending : List Instr) : (State.fresh pins pending).LinksSound :=
  fun l => by cases l <;> exact LinkUnit.cleared_sound LinkUnit.reset false

theorem State.LinksSound.restart (s : State) : s.restart.LinksSound := .fresh _ _

theorem State.LinksSound.hold (s : State) : s.hold.LinksSound :=
  fun l => by cases l <;> exact LinkUnit.cleared_sound _ false

theorem State.LinksSound.goUp (h : s.LinksSound) (l : Link) : (s.goUp l).LinksSound :=
  (State.LinksSound.setLink h l (LinkUnit.cleared_sound _ true)).of_links rfl

/-! What `goDown` does, block by block in its order (R14). -/

/-- A link's watches, subscription and report schedule return to reset. -/
def State.clearReports (s : State) (l : Link) : State :=
  { s with watches := s.watches.set l .empty, subs := s.subs.set l 0, scheds := s.scheds.set l .reset }

/-- A link's volume returns to 80. -/
def State.resetVolume (s : State) (l : Link) : State :=
  { s with sound := { s.sound with volumes := s.sound.volumes.set l 80 } }

@[simp] theorem State.clearReports_links (s : State) (l : Link) : (s.clearReports l).links = s.links := rfl

@[simp] theorem State.resetVolume_links (s : State) (l : Link) : (s.resetVolume l).links = s.links := rfl

/-- The hub after the blocks of chapters 1 to 7 have torn a link down. -/
def State.downRecords (s : State) (l : Link) : State :=
  (((s.setLink l ((s.link l).cleared false)).releaseAll l).viewsDown l).clearReports l

/-- The hub after the Sound Unit has torn a link down as well. -/
def State.downSound (s : State) (l : Link) : State :=
  ((s.downRecords l).endSounds (fun x => decide (x.link = l)) .stopped).resetVolume l

theorem State.goDown_eq (s : State) (l : Link) : s.goDown l = ((s.downSound l).lockDown l).mediaDown l := by
  unfold State.goDown State.downSound State.downRecords State.clearReports State.resetVolume
  rfl

@[simp] theorem State.lockDown_links (s : State) (l : Link) : (s.lockDown l).links = s.links := by
  unfold State.lockDown
  split <;> rfl

/-- A link that goes DOWN is cleared, and then told at most by the blocks that tear its records down (R14). -/
theorem State.goDown_tells (s : State) (l : Link) : (s.setLink l ((s.link l).cleared false)).Tells anyLink (s.goDown l) := by
  have h1 : (s.setLink l ((s.link l).cleared false)).Tells anyLink (s.downRecords l) := by
    unfold State.downRecords
    refine State.Tells.of_links ((State.Tells.refl _ _).releaseAll l) ?_
    rw [State.clearReports_links, State.viewsDown_links]
  have h2 : (s.setLink l ((s.link l).cleared false)).Tells anyLink (s.downSound l) := by
    unfold State.downSound
    exact State.Tells.of_links (h1.endSounds (fun _ _ => trivial) .stopped) (State.resetVolume_links _ l)
  rw [State.goDown_eq]
  exact State.Tells.mediaDown (h2.of_links (State.lockDown_links _ l)) fun _ _ _ _ _ => trivial

theorem State.LinksSound.goDown (h : s.LinksSound) (l : Link) : (s.goDown l).LinksSound :=
  (State.LinksSound.setLink h l (LinkUnit.cleared_sound _ false)).tells (s.goDown_tells l)

theorem State.LinksSound.byteReceived (h : s.LinksSound) (l : Link) (b : Byte) : (s.byteReceived l b).LinksSound := by
  obtain ⟨_, he⟩ | ⟨hu, _, he⟩ := s.byteReceived_cases l b <;> rw [he]
  · exact h
  · exact h.setUp l ((h l).1.shrink (.refl _) rfl le_rfl le_rfl le_rfl) hu

theorem State.LinksSound.sendReport (h : s.LinksSound) {l : Link} (hu : (s.link l).up = true) :
    (s.sendReport l).LinksSound := by
  unfold State.sendReport
  split
  · exact h
  · split
    · exact h.of_links rfl
    · exact h.setTx hu _

theorem State.LinksSound.chooseReport (h : s.LinksSound) {l : Link} (hu : (s.link l).up = true) :
    (s.chooseReport l).LinksSound := by
  unfold State.chooseReport
  split
  · exact h.sendReport hu
  · split
    · rename_i q _
      have he : (s.beginService l q).link l = s.link l := by simp [State.link]
      exact (h.of_links (s.beginService_links l q)).sendReport (he ▸ hu)
    · exact h

theorem State.maySend_up {l : Link} (h : s.maySend l = true) : (s.link l).up = true := by
  simp only [State.maySend, Bool.and_eq_true] at h
  exact h.1.1

theorem State.LinksSound.chooseFrame (h : s.LinksSound) (l : Link) : (s.chooseFrame l).LinksSound := by
  unfold State.chooseFrame
  split
  · rename_i hm
    have hu := State.maySend_up hm
    dsimp only
    split
    · exact h.setTx hu _
    · rename_i hn
      refine h.setUp l ((h l).1.shrink (.refl _) rfl le_rfl ?_ (Nat.zero_le _)) hu
      simp [hn]
    · exact h.chooseReport hu
  · exact h

theorem State.LinksSound.frameSent (h : s.LinksSound) (l : Link) : (s.frameSent l).LinksSound := by
  unfold State.frameSent
  dsimp only
  split
  · exact h
  · rename_i x hx
    have hu := (h l).2.up_of_tx hx
    split
    · split
      · exact .restart s
      · exact h.setUp l ((h l).1.responseSent _ _) hu
    · exact h.setUp l ((h l).1.refusalSent.count LinkCounts.addRefused) hu
    · exact h.setTx hu _
    · exact State.LinksSound.of_links (h.setUp l ((h l).1.sent.count LinkCounts.addReport) hu) rfl

theorem State.LinksSound.linkCounts (h : s.LinksSound) (k : Ticket) (b : List Byte) :
    (State.linkCounts k b s).LinksSound := by
  refine State.LinksSound.check h _ _ ?_
  dsimp only
  refine State.LinksSound.respond ?_ k _ _
  split
  · exact State.LinksSound.setLink h _ ⟨(h _).1.shrink (.refl _) rfl le_rfl le_rfl le_rfl, (h _).2⟩
  · exact h

theorem State.LinksSound.setSched (h : s.LinksSound) (l : Link) (x : Scheduler) : (s.setSched l x).LinksSound :=
  h.of_links rfl

theorem State.LinksSound.queueExpired (h : s.LinksSound) (l : Link) (q : QueueId) : (s.queueExpired l q).LinksSound := by
  unfold State.queueExpired
  dsimp only
  split
  · exact h
  · split
    · exact State.LinksSound.setLink h _ ⟨(h _).1.shrink (.refl _) rfl le_rfl le_rfl le_rfl, (h _).2⟩
    · exact h.of_links rfl

theorem State.LinksSound.unlessHeld {f : State → State} (h : s.LinksSound) (hf : (f s).LinksSound) :
    (s.unlessHeld f).LinksSound := by
  unfold State.unlessHeld
  split
  · exact h
  · exact hf

theorem State.LinksSound.expire (h : s.LinksSound) (start : Word32) (ms : Nat) : (s.expire start ms).LinksSound :=
  h.tells ((State.Tells.refl anyLink s).expire start ms)

theorem State.expire_link (s : State) (start : Word32) (ms : Nat) (l : Link) : (s.expire start ms).link l = s.link l := by
  unfold State.expire
  split <;> rfl

/-- The commands that write the Link Units keep them sound. -/
theorem State.LinksSound.exec_writes {i : Instr} {t : State} (h : s.LinksSound) (hi : writesLinks i = true)
    (he : exec i s = .next t) : t.LinksSound := by
  cases i <;> cases hi <;> cases he
  case powerOn => exact .restart s
  case resetAsserted => exact h.unlessHeld (.hold s)
  case resetReleased =>
    split
    · exact .restart s
    · exact h
  case linkUp l =>
    have h1 : (s.setPins { s.pins with enable := s.pins.enable.set l true }).LinksSound := h.of_links rfl
    refine h1.unlessHeld ?_
    split
    · exact h1
    · exact h1.goUp l
  case linkDown l =>
    have h1 : (s.setPins { s.pins with enable := s.pins.enable.set l false }).LinksSound := h.of_links rfl
    refine h1.unlessHeld ?_
    split
    · split
      · exact .restart _
      · exact h1.goDown l
    · exact h1
  case overlength l n =>
    split
    · rename_i hc
      exact h.setUp l ((h l).1.hunting.count _) hc.1
    · exact h
  case frameReceived l kind tag code b check =>
    split
    · rename_i hu
      exact h.setUp l ((h l).1.frame _ _ _ _ _ _ _) ((LinkUnit.frame_up _ _ _ _ _ _ _ _).trans hu)
    · exact h
  case fragmentTimeout l =>
    split
    · exact h
    · rename_i hr
      refine (h.expire _ _).setUp l (h.expire _ _ l).1.fragment ?_
      rw [State.expire_link]
      exact (h l).2.up_of_inFrame hr
  case badStopBit =>
    split
    · exact h
    · rename_i hr
      exact h.setUp .tl (h .tl).1.fragment ((h .tl).2.up_of_inFrame hr)
  case transmitArbiterChoose l => exact h.chooseFrame l
  case frameSent l => exact h.frameSent l
  case linkCounts l tag => exact State.LinksSound.serve h l tag _ fun k b _ hx => State.LinksSound.linkCounts hx k b
  case rateQueueExpiry l q =>
    refine h.unlessHeld ?_
    dsimp only
    split
    · exact h
    · exact State.LinksSound.queueExpired ((h.expire _ _).setSched l _) l q
  case syncByteReceived x => exact h.byteReceived _ _

/-- Every command keeps the Link Units sound. -/
theorem State.LinksSound.exec {i : Instr} {t : State} (h : s.LinksSound) (he : exec i s = .next t) : t.LinksSound := by
  cases hi : writesLinks i with
  | true => exact h.exec_writes hi he
  | false => exact h.tells (exec_tells hi he)

end Links

/-- Settles O57, by the command that the step takes: those of chapter 1 keep the bounds one by one, and every other one
acts on the Link Units by hand-overs alone. -/
theorem linksStaySound : Obligations.LinksStaySound := by
  intro s t h he
  unfold step at he
  split at he
  · cases he
    exact h.tells (State.Tells.unlessHeld ((State.Tells.refl anyLink s).of_links rfl))
  · rename_i rest _
    have hp : ({ s with pending := rest } : State).LinksSound := h.of_links rfl
    exact hp.exec he

end Sys2Proof.Machine

/-! PROOFS of O3, O4, O5: the receiver, admission and the notice queue (R2 to R11). -/

namespace Sys2Proof.Machine

/-! ### Admission (R7 to R9) -/

section Admission
variable {u : LinkUnit} {tag code : Byte} {b : List Byte} {now : Word32}

/-- A REQUEST frame of admissible length with a good check goes to the tests of R7. -/
theorem LinkUnit.frame_request (u : LinkUnit) (hub : HubState) (tag code : Byte) (now : Word32) (hb : b.length ≤ 520) :
    u.frame hub 1#8 tag code b (crc16 (frameCore 1#8 tag code b)) now =
      ({ u with receiver := .hunting } : LinkUnit).request hub tag code b now := by
  simp [LinkUnit.frame, hb]

theorem LinkUnit.frame_badCheck (u : LinkUnit) (hub : HubState) {kind : Byte} (now : Word32) {check : Word16}
    (hb : b.length ≤ 520) (hc : check ≠ crc16 (frameCore kind tag code b)) :
    u.frame hub kind tag code b check now = ({ u with receiver := .hunting } : LinkUnit).count LinkCounts.addCheckError := by
  simp [LinkUnit.frame, hb, hc]

theorem LinkUnit.frame_otherKind (u : LinkUnit) (hub : HubState) {kind : Byte} (now : Word32) (hb : b.length ≤ 520)
    (hk : kind ≠ 1#8) : u.frame hub kind tag code b (crc16 (frameCore kind tag code b)) now =
      ({ u with receiver := .hunting } : LinkUnit).count LinkCounts.addKindError := by
  simp [LinkUnit.frame, hb, hk]

/-- In READY every request, and HUB STATUS in any hub state, goes on to the tests after the hub state. -/
theorem LinkUnit.request_passes {hub : HubState} (h : hub = .ready ∨ code = 1#8) (u : LinkUnit) (tag : Byte)
    (b : List Byte) (now : Word32) :
    u.request hub tag code b now = (u.count LinkCounts.addReceived).admission tag code b now := by
  rcases h with rfl | rfl
  · rfl
  · cases hub <;> rfl

theorem LinkUnit.request_starting (h : code ≠ 1#8) (u : LinkUnit) (tag : Byte) (b : List Byte) (now : Word32) :
    u.request .starting tag code b now = (u.count LinkCounts.addReceived).refuse tag .notReady := if_neg h

theorem LinkUnit.request_failed (h : code ≠ 1#8) (u : LinkUnit) (tag : Byte) (b : List Byte) (now : Word32) :
    u.request .failed tag code b now = (u.count LinkCounts.addReceived).count LinkCounts.addRefusalDrop := if_neg h

theorem LinkUnit.admission_inUse (h : ∃ e ∈ u.table, e.tag = tag) : u.admission tag code b now = u.refuse tag .tagInUse := by
  unfold LinkUnit.admission
  rw [if_pos (by simpa using h)]

theorem LinkUnit.admission_unknown (h : ¬ ∃ e ∈ u.table, e.tag = tag) (hc : reqOf code = none) :
    u.admission tag code b now = u.refuse tag .unknownRequest := by
  unfold LinkUnit.admission
  rw [if_neg (by simpa using h), hc]

theorem LinkUnit.admission_full (h : ¬ ∃ e ∈ u.table, e.tag = tag) (hc : reqOf code ≠ none) (hl : 8 ≤ u.table.length) :
    u.admission tag code b now = u.refuse tag .queueFull := by
  obtain ⟨c, hc⟩ := Option.ne_none_iff_exists'.mp hc
  unfold LinkUnit.admission
  rw [if_neg (by simpa using h), hc]
  exact if_pos hl

theorem LinkUnit.admission_enrol (h : ¬ ∃ e ∈ u.table, e.tag = tag) {c : ReqCode} (hc : reqOf code = some c)
    (hl : u.table.length < 8) : u.admission tag code b now = u.enrol tag c b now := by
  unfold LinkUnit.admission
  rw [if_neg (by simpa using h), hc]
  exact if_neg (by omega)

end Admission

theorem exec_frameReceived_up {s : State} {l : Link} (h : (s.link l).up = true) (kind tag code : Byte) (b : List Byte)
    (check : Word16) : exec (.frameReceived l kind tag code b check) s =
      .next (s.setLink l ((s.link l).frame s.hub.state kind tag code b check s.hub.time)) :=
  congrArg Host.Outcome.next (if_pos h)

/-- Settles O3: the tests of R7 one by one, each with its refusal, and the admission behind all four. -/
theorem requestJudged : Obligations.RequestJudged := by
  constructor
  · intro s l tag code b c hu hb hp ht hc hl
    have he : (({ s.link l with receiver := .hunting } : LinkUnit).count LinkCounts.addReceived).admission tag code b
        s.hub.time = _ := LinkUnit.admission_enrol (by simpa [LinkUnit.count] using ht) hc hl
    rw [exec_frameReceived_up hu, LinkUnit.frame_request _ _ _ _ _ hb, LinkUnit.request_passes hp, he]
    rfl
  · intro s l tag code b hu hb
    dsimp only
    rw [exec_frameReceived_up hu, LinkUnit.frame_request _ _ _ _ _ hb]
    refine ⟨fun j hj => ?_, fun hf hc => ?_⟩
    · have hq : ({ s.link l with receiver := .hunting } : LinkUnit).request s.hub.state tag code b s.hub.time =
          (({ s.link l with receiver := .hunting } : LinkUnit).count LinkCounts.addReceived).refuse tag j := by
        obtain ⟨hs, hc, rfl⟩ | ⟨hp, hi, rfl⟩ | ⟨hp, hi, hr, rfl⟩ | ⟨hp, hi, hr, hl, rfl⟩ := hj
        · rw [hs, LinkUnit.request_starting hc]
        · rw [LinkUnit.request_passes hp]
          exact LinkUnit.admission_inUse hi
        · rw [LinkUnit.request_passes hp]
          exact LinkUnit.admission_unknown hi hr
        · rw [LinkUnit.request_passes hp]
          exact LinkUnit.admission_full hi hr hl
      rw [hq]
      rfl
    · rw [hf, LinkUnit.request_failed hc]
      rfl

/-! ### The receiver (R2, R4, R6) -/

section Receiver
variable {s : State} {l : Link}

theorem State.byteReceived_taken (h : (s.link l).up = true) {b : Byte} (hb : b = 0xC3#8 ∨ (s.link l).receiver ≠ .hunting) :
    s.byteReceived l b = s.setLink l { s.link l with receiver := .inFrame s.hub.time } := by
  obtain ⟨hn, _⟩ | ⟨_, _, he⟩ := s.byteReceived_cases l b
  · rcases hn with hn | ⟨hr, hc⟩
    · rw [h] at hn
      cases hn
    · exact absurd hr (hb.resolve_left hc)
  · exact he

theorem State.byteReceived_ignored {b : Byte} (h : (s.link l).up = false ∨ (b ≠ 0xC3#8 ∧ (s.link l).receiver = .hunting)) :
    s.byteReceived l b = s := by
  obtain ⟨_, he⟩ | ⟨hu, hr, _⟩ := s.byteReceived_cases l b
  · exact he
  · rcases h with h | ⟨hb, hh⟩
    · rw [h] at hu
      cases hu
    · exact absurd hh (hr.resolve_left hb)

/-- A timer that has run out leaves hub time as it is. -/
theorem State.expire_done {start : Word32} {ms : Nat} (h : ms ≤ (s.hub.time - start).toNat) : s.expire start ms = s :=
  if_neg (Nat.not_lt.mpr h)

/-- Settles O4, by the state of the link and of its receiver. -/
theorem receiverEvents : Obligations.ReceiverEvents := by
  intro s l
  refine ⟨fun hu => ⟨fun b hb => ?_, fun b hb hr => ?_, fun n hn => ?_,
      fun kind tag code b check hb => ⟨fun hc => ?_, fun hc hk => ?_⟩⟩,
    fun hd => ⟨fun b => ?_, fun n => ?_, fun kind tag code b check => ?_⟩, fun last hl => ⟨fun ht => ?_, ?_⟩, fun hh => ⟨?_, ?_⟩⟩
  · exact congrArg _ (State.byteReceived_taken hu hb)
  · exact congrArg _ (State.byteReceived_ignored (.inr ⟨hb, hr⟩))
  · exact congrArg _ (if_pos ⟨hu, hn⟩)
  · rw [exec_frameReceived_up hu, LinkUnit.frame_badCheck _ _ _ hb hc]
    rfl
  · rw [exec_frameReceived_up hu, hc, LinkUnit.frame_otherKind _ _ _ hb hk]
    rfl
  · exact congrArg _ (State.byteReceived_ignored (.inl hd))
  · exact congrArg _ (if_neg (by simp [hd]))
  · exact congrArg _ (if_neg (by simp [hd]))
  · simp only [exec, execFragmentTimeout, hl]
    rw [State.expire_done (by omega)]
    rfl
  · rintro rfl
    simp only [exec, execBadStopBit, hl]
    rfl
  · simp only [exec, execFragmentTimeout, hh]
  · rintro rfl
    simp only [exec, execBadStopBit, hh]

end Receiver

/-! ### The notice queue (R10) -/

theorem State.notify_down {s : State} {l : Link} (h : (s.link l).up = false) (b : NoticeBody) : s.notify l b = s := by
  simp [State.notify, h]

theorem State.notify_up {s : State} {l : Link} (h : (s.link l).up = true) (b : NoticeBody) :
    s.notify l b = s.setLink l ((s.link l).queueNotice ⟨b, s.hub.time⟩) := if_pos h

/-- A notice for one link leaves the other alone. -/
theorem State.notify_link_ne (s : State) {l k : Link} (h : k ≠ l) (b : NoticeBody) : (s.notify l b).link k = s.link k := by
  unfold State.notify
  split
  · rw [State.setLink_link, if_neg h]
  · rfl

/-- What a notice for a link does to its unit is read from that unit and hub time. -/
theorem State.notify_link_congr {s t : State} {l : Link} (h : t.link l = s.link l) (ht : t.hub = s.hub) (b : NoticeBody) :
    (t.notify l b).link l = (s.notify l b).link l := by
  unfold State.notify State.now
  rw [h, ht]
  split
  · simp
  · exact h

theorem State.notifyBoth_link (s : State) (l : Link) (b : NoticeBody) : (s.notifyBoth b).link l = (s.notify l b).link l := by
  cases l with
  | pl => exact State.notify_link_ne _ (by decide) b
  | tl => exact State.notify_link_congr (s.notify_link_ne (by decide) b) (s.notify_hub _ b) b

/-- Settles O5, by whether the link is UP and its queue full. -/
theorem noticeQueue : Obligations.NoticeQueue := by
  refine fun s l b => ⟨fun hd => State.notify_down hd b, fun hu hn => ?_, fun hu hn => ?_, s.notifyBoth_link l b⟩
  · rw [State.notify_up hu]
    exact congrArg _ (if_pos hn)
  · rw [State.notify_up hu]
    unfold LinkUnit.queueNotice
    rw [if_neg (by omega), List.drop_one]
    rfl

end Sys2Proof.Machine

/-! PROOFS of O6, O7, O9: the transmit arbiter, the end of a frame, the Program Link's pins and LINK COUNTS (R1, R8 to
R15, R119). -/

namespace Sys2Proof.Machine

/-! ### The transmit arbiter (R12, R13, R119) -/

section Arbiter
variable {s : State} {l : Link}

theorem State.chooseFrame_stays (h : s.maySend l = false) : s.chooseFrame l = s := by
  simp [State.chooseFrame, h]

theorem State.maySend_eq_false (h : (s.link l).up = false ∨ (s.link l).tx ≠ none ∨ (l = .tl ∧ s.pins.hold = true)) :
    s.maySend l = false := by
  rcases h with h | h | ⟨rfl, h⟩
  · simp [State.maySend, h]
  · simp [State.maySend, Option.isNone_eq_false_iff.mpr (Option.isSome_iff_ne_none.mpr h)]
  · simp [State.maySend, h]

theorem State.maySend_eq_true (hu : (s.link l).up = true) (ht : (s.link l).tx = none)
    (hh : l = .tl → s.pins.hold = false) : s.maySend l = true := by
  simp only [State.maySend, hu, ht]
  by_cases hl : l = .tl
  · simp [hl, hh hl]
  · simp [hl]

theorem State.chooseFrame_ready (h : s.maySend l = true) {r : Ready} {rest : List Ready}
    (hr : (s.link l).ready = r :: rest) : s.chooseFrame l = s.setLink l { s.link l with tx := some r.tx } := by
  simp only [State.chooseFrame, h, hr, if_true]

theorem State.chooseFrame_notice (h : s.maySend l = true) (hr : (s.link l).ready = []) {n : Notice}
    {rest : List Notice} (hn : (s.link l).notices = n :: rest) :
    s.chooseFrame l = s.setLink l { s.link l with
      tx := some ⟨.notice, noticeFrame (s.link l).drops n⟩, notices := rest, drops := 0 } := by
  simp only [State.chooseFrame, h, hr, hn, if_true]

theorem State.chooseFrame_report (h : s.maySend l = true) (hr : (s.link l).ready = []) (hn : (s.link l).notices = []) :
    s.chooseFrame l = s.chooseReport l := by
  simp only [State.chooseFrame, h, hr, hn, if_true]

theorem State.chooseReport_service {v : Service} {f : ReportFrame} {rest : List ReportFrame}
    (h : (s.sched l).service = some v) (hf : v.frames = f :: rest) :
    s.chooseReport l = s.setLink l { s.link l with tx := some ⟨.report v.queue, reportFrame f⟩ } := by
  simp only [State.chooseReport, State.sendReport, h, hf, Option.isSome_some, if_true]

theorem State.chooseReport_next (h : (s.sched l).service = none) {q : QueueId} (hq : (s.sched l).next = some q) :
    s.chooseReport l = (s.beginService l q).sendReport l := by
  simp [State.chooseReport, h, hq]

theorem State.chooseReport_none (h : (s.sched l).service = none) (hq : (s.sched l).next = none) :
    s.chooseReport l = s := by
  simp [State.chooseReport, h, hq]

end Arbiter

section Banks
variable {x : Scheduler}

theorem Scheduler.nextIn_mark {m : QueueId} (h : (x.queues.get m).waiting = true) : x.nextIn m = some m := by
  simp [Scheduler.nextIn, h]

theorem Scheduler.nextIn_other {m : QueueId} (h : ¬ (x.queues.get m).waiting = true)
    (ho : (x.queues.get (otherQueue m)).waiting = true) : x.nextIn m = some (otherQueue m) := by
  simp [Scheduler.nextIn, h, ho]

theorem Scheduler.nextIn_none {m : QueueId} (h : ¬ (x.queues.get m).waiting = true)
    (ho : ¬ (x.queues.get (otherQueue m)).waiting = true) : x.nextIn m = none := by
  simp [Scheduler.nextIn, h, ho]

theorem Scheduler.next_fast {q : QueueId} (h : x.nextIn x.fastMark = some q) : x.next = some q := by
  simp [Scheduler.next, h]

theorem Scheduler.next_slow (h : x.nextIn x.fastMark = none) : x.next = x.nextIn x.slowMark := by
  simp [Scheduler.next, h]

end Banks

/-- Settles O6: the arbiter's classes in their order, and the banks in theirs. -/
theorem arbiterOrder : Obligations.ArbiterOrder := by
  intro s l
  refine ⟨fun h => congrArg _ (State.chooseFrame_stays (State.maySend_eq_false h)), fun hu ht hh => ?_⟩
  have hm := State.maySend_eq_true hu ht hh
  refine ⟨fun serial tag code j b rest hr => congrArg _ (State.chooseFrame_ready hm hr),
    fun tag j rest hr => congrArg _ (State.chooseFrame_ready hm hr), fun hr => ⟨fun n rest hn => ?_, fun hn => ?_⟩⟩
  · exact congrArg _ (State.chooseFrame_notice hm hr hn)
  · have he : exec (.transmitArbiterChoose l) s = .next (s.chooseReport l) :=
      congrArg _ (State.chooseFrame_report hm hr hn)
    rw [he]
    refine ⟨fun q f rest hv => congrArg _ (State.chooseReport_service hv rfl), fun hv => ?_⟩
    refine ⟨fun h1 => ?_, fun h1 h2 => ?_, fun h1 h2 h3 => ?_, fun h1 h2 h3 h4 => ?_, fun h1 h2 h3 h4 => ?_⟩
    · exact congrArg _ (State.chooseReport_next hv (Scheduler.next_fast (Scheduler.nextIn_mark h1)))
    · exact congrArg _ (State.chooseReport_next hv (Scheduler.next_fast (Scheduler.nextIn_other h1 h2)))
    · exact congrArg _ (State.chooseReport_next hv
        ((Scheduler.next_slow (Scheduler.nextIn_none h1 h2)).trans (Scheduler.nextIn_mark h3)))
    · exact congrArg _ (State.chooseReport_next hv
        ((Scheduler.next_slow (Scheduler.nextIn_none h1 h2)).trans (Scheduler.nextIn_other h3 h4)))
    · exact congrArg _ (State.chooseReport_none hv
        ((Scheduler.next_slow (Scheduler.nextIn_none h1 h2)).trans (Scheduler.nextIn_none h3 h4)))

/-! ### The end of a frame (R8, R9, R15, R119) -/

section Sent
variable {s : State} {l : Link}

theorem State.frameSent_none (h : (s.link l).tx = none) : s.frameSent l = s := by
  simp only [State.frameSent, h]

theorem State.frameSent_response {serial : Nat} {code : ReqCode} {j : Judgement} {bs : List Byte}
    (h : (s.link l).tx = some ⟨.response serial code j, bs⟩) (hd : s.resetDue l code j = false) :
    s.frameSent l = s.setLink l ((s.link l).responseSent serial j) := by
  simp [State.frameSent, h, hd]

theorem State.frameSent_refusal {bs : List Byte} (h : (s.link l).tx = some ⟨.refusal, bs⟩) :
    s.frameSent l =
      s.setLink l (({ s.link l with tx := none, ready := (s.link l).ready.tail } : LinkUnit).count LinkCounts.addRefused) := by
  simp only [State.frameSent, h]

theorem State.frameSent_notice {bs : List Byte} (h : (s.link l).tx = some ⟨.notice, bs⟩) :
    s.frameSent l = s.setLink l { s.link l with tx := none } := by
  simp only [State.frameSent, h]

theorem State.frameSent_report {q : QueueId} {bs : List Byte} (h : (s.link l).tx = some ⟨.report q, bs⟩) :
    s.frameSent l = (s.setLink l (({ s.link l with tx := none } : LinkUnit).count LinkCounts.addReport)).setSched l
      (s.sched l).frameDone := by
  simp only [State.frameSent, h]

theorem State.resetDue_eq_false {code : ReqCode} {j : Judgement}
    (h : s.hub.resetPending = false ∨ l = .tl ∨ code ≠ .hubReset ∨ j ≠ .normalCompletion) :
    s.resetDue l code j = false := by
  rcases h with h | rfl | h | h
  · simp [State.resetDue, h]
  · simp [State.resetDue]
  · simp [State.resetDue, h]
  · simp [State.resetDue, h]

theorem Scheduler.frameDone_last {x : Scheduler} {q : QueueId} {f : ReportFrame} (h : x.service = some ⟨q, [f]⟩) :
    x.frameDone = { x.moveMark q with service := none } := by
  simp [Scheduler.frameDone, h]

theorem Scheduler.frameDone_more {x : Scheduler} {q : QueueId} {f g : ReportFrame} {rest : List ReportFrame}
    (h : x.service = some ⟨q, f :: g :: rest⟩) : x.frameDone = { x with service := some ⟨q, g :: rest⟩ } := by
  simp [Scheduler.frameDone, h]

end Sent

/-! ### ATTENTION and the Program Link's pins (R1, R14) -/

section Pins
variable {s : State}

/-- A bank has a request to serve exactly where one of its two queues waits (R119). -/
theorem Scheduler.nextIn_isSome (x : Scheduler) (m : QueueId) :
    (x.nextIn m).isSome = true ↔ (x.queues.get m).waiting = true ∨ (x.queues.get (otherQueue m)).waiting = true := by
  unfold Scheduler.nextIn
  split
  · simp [*]
  · split <;> simp [*]

theorem Scheduler.next_isSome (x : Scheduler) :
    x.next.isSome = true ↔ (x.nextIn x.fastMark).isSome = true ∨ (x.nextIn x.slowMark).isSome = true := by
  unfold Scheduler.next
  split <;> simp [*]

/-- ATTENTION, with the requests of the two banks told by their waiting queues (R1). -/
theorem State.attention_iff (s : State) :
    s.attention = true ↔ s.hub.held = false ∧ (s.link .pl).up = true ∧ ((s.link .pl).tx ≠ none ∨
      (s.link .pl).ready ≠ [] ∨ (s.link .pl).notices ≠ [] ∨ (s.sched .pl).service ≠ none ∨
      (((s.sched .pl).queues.get (s.sched .pl).fastMark).waiting = true ∨
        ((s.sched .pl).queues.get (otherQueue (s.sched .pl).fastMark)).waiting = true) ∨
      (((s.sched .pl).queues.get (s.sched .pl).slowMark).waiting = true ∨
        ((s.sched .pl).queues.get (otherQueue (s.sched .pl).slowMark)).waiting = true)) := by
  rw [← Scheduler.nextIn_isSome, ← Scheduler.nextIn_isSome, ← Scheduler.next_isSome]
  simp only [State.attention, State.frameWaiting, Bool.and_eq_true, Bool.or_eq_true, Bool.not_eq_true',
    decide_eq_true_eq, Option.isSome_iff_ne_none, or_assoc, and_assoc]

theorem State.miso_next {x : Tx} {b : Byte} {rest : List Byte} (h : (s.link .pl).tx = some x) (hb : x.bytes = b :: rest) :
    s.miso = b := by
  simp [State.miso, h, hb]

theorem State.plEvent_clocked (h : s.pins.select = true) (mosi : Byte) :
    s.plEvent (.clocked mosi) =
      ((s.byteReceived .pl mosi).byteSent, some s.miso, if (s.link .pl).up then some mosi else none) := by
  simp [State.plEvent, h]

/-- A byte that the receiver takes leaves the transmitter as it is. -/
theorem State.byteReceived_tx (s : State) (l : Link) (b : Byte) : ((s.byteReceived l b).link l).tx = (s.link l).tx := by
  obtain ⟨_, he⟩ | ⟨_, _, he⟩ := s.byteReceived_cases l b <;> rw [he]
  simp

theorem State.byteSent_none (h : (s.link .pl).tx = none) : s.byteSent = s := by
  simp only [State.byteSent, h]

theorem State.byteSent_last {x : Tx} {b : Byte} (h : (s.link .pl).tx = some x) (hb : x.bytes = [b]) :
    s.byteSent = s.frameSent .pl := by
  simp [State.byteSent, h, hb]

theorem State.byteSent_more {x : Tx} {b c : Byte} {rest : List Byte} (h : (s.link .pl).tx = some x)
    (hb : x.bytes = b :: c :: rest) :
    s.byteSent = s.setLink .pl { s.link .pl with tx := some { x with bytes := c :: rest } } := by
  simp [State.byteSent, h, hb]

end Pins

/-- Settles O7: the end of each kind of frame, then ATTENTION, MISO and the bytes on the Program Link. -/
theorem frameSentEnds : Obligations.FrameSentEnds := by
  intro s l
  refine ⟨fun h => congrArg _ (State.frameSent_none h), fun serial code j bs h hd => ?_,
    fun bs h => congrArg _ (State.frameSent_refusal h), fun bs h => congrArg _ (State.frameSent_notice h),
    fun q q' bs f rest h hv => ?_, ?_, fun hd => ⟨?_, fun x b rest hx hb => State.miso_next hx hb, rfl, fun _ => rfl,
      fun mosi => ⟨fun h => s.plEvent_released mosi h, fun h => ?_⟩⟩⟩
  · refine congrArg _ ((State.frameSent_response h (State.resetDue_eq_false hd)).trans ?_)
    unfold LinkUnit.responseSent
    by_cases hj : j = .normalCompletion
    · rw [if_pos hj, if_pos hj]
      rfl
    · rw [if_neg hj, if_neg hj]
      rfl
  · refine congrArg _ ((State.frameSent_report h).trans ?_)
    cases rest with
    | nil =>
      rw [Scheduler.frameDone_last hv]
      cases q <;> rfl
    | cons g rest =>
      rw [Scheduler.frameDone_more hv]
      rfl
  · exact s.attention_iff
  · rintro (hu | ht)
    · obtain ⟨_, _, _, _, ht, _⟩ := hd hu
      exact s.miso_fill ht
    · exact s.miso_fill ht
  · have htx := s.byteReceived_tx .pl mosi
    exact ⟨s.byteReceived .pl mosi, _, rfl, State.plEvent_clocked h mosi,
      fun hn => State.byteSent_none (htx.trans hn),
      fun x b hx hb => congrArg _ (State.byteSent_last (htx.trans hx) hb).symm,
      fun x b c rest hx hb => State.byteSent_more (htx.trans hx) hb⟩

/-! ### LINK COUNTS (R15) -/

section Counts

@[simp] theorem e8_length (n : Nat) : (e8 n).length = 1 := rfl

@[simp] theorem e32_length (n : Nat) : (e32 n).length = 4 := rfl

theorem countBytes_length (c : LinkCounts) : (countBytes c).length = 56 := by
  simp only [countBytes, List.length_append, e32_length]

theorem LinkUnit.presentBytes_length (u : LinkUnit) (now : Word32) : (u.presentBytes now).length = 9 := by
  unfold LinkUnit.presentBytes
  split <;> simp only [List.length_append, e8_length, e32_length]

/-- Taking a request changes no byte of LINK COUNTS. -/
theorem LinkUnit.presentBytes_take (u : LinkUnit) (n : Nat) (now : Word32) :
    (u.take n).presentBytes now = u.presentBytes now := by
  have hl : (u.take n).table.length = u.table.length := by simp [LinkUnit.take]
  unfold LinkUnit.presentBytes
  rw [hl]
  cases ht : u.table with
  | nil => simp [LinkUnit.take, ht, LinkUnit.refusals]
  | cons e es =>
    by_cases he : e.serial = n <;> simp [LinkUnit.take, ht, he, LinkUnit.refusals]

variable {s : State} {l : Link} {tag : Byte} {code : ReqCode} {n : Nat} {b : List Byte}

theorem State.taken_link (s : State) (l : Link) (n : Nat) (k : Link) :
    (s.taken l n).link k = if k = l then (s.link l).take n else s.link k := s.setLink_link l k _

/-- A request still waits once its link's counts are cleared. -/
theorem State.Waits.clearCounts (h : s.Waits l tag code n b) :
    (s.setLink l { s.link l with counts := .zero }).Waits l tag code n b where
  sound := State.LinksSound.setLink h.sound l ⟨(h.sound l).1.count fun _ => .zero, (h.sound l).2⟩
  routed := by
    rw [State.setLink_link_self]
    exact h.routed

/-- The bytes of a LINK COUNTS response. -/
def LinkUnit.countsBody (u : LinkUnit) (now : Word32) : List Byte := countBytes u.counts ++ u.presentBytes now

theorem LinkUnit.countsBody_length (u : LinkUnit) (now : Word32) : (u.countsBody now).length = 65 := by
  simp [LinkUnit.countsBody, countBytes_length, LinkUnit.presentBytes_length]

/-- The bytes one after another, those of the oldest entry 0 where there is none (R15). -/
theorem LinkUnit.countsBody_eq (u : LinkUnit) (now : Word32) :
    u.countsBody now = e32 u.counts.checkErrors ++ e32 u.counts.overlength ++ e32 u.counts.fragments ++
      e32 u.counts.kindErrors ++ e32 u.counts.received ++ e32 u.counts.accepted ++ e32 u.counts.refused ++
      e32 u.counts.refusalDrops ++ e32 u.counts.noticesDropped ++ e32 u.counts.reportsSent ++
      e32 u.counts.overruns.q0 ++ e32 u.counts.overruns.q1 ++ e32 u.counts.overruns.q2 ++ e32 u.counts.overruns.q3 ++
      e8 u.table.length ++ (match u.table with
        | [] => [0#8, 0#8, 0#8, 0#8, 0#8]
        | e :: _ => e8 (reqByte e.code) ++ e32 (now - e.arrival).toNat) ++
      e8 (u.ready.filter Ready.isRefusal).length ++ e8 u.notices.length ++ e8 u.drops := by
  unfold LinkUnit.countsBody LinkUnit.presentBytes countBytes
  simp only [List.append_assoc]
  cases u.table <;> rfl

theorem State.taken_countsBody (s : State) (l : Link) (n : Nat) (k : Link) :
    ((s.taken l n).link k).countsBody s.hub.time = (s.link k).countsBody s.hub.time := by
  rw [State.taken_link]
  split
  · rename_i h
    rw [h]
    exact congrArg _ (LinkUnit.presentBytes_take _ _ _)
  · rfl

/-- The checks of LINK COUNTS for a request of link `l` (R15). -/
def countsChecks (l : Link) (b : List Byte) : List (Bool × Judgement) :=
  [(decide (b.length ≠ 2) || decide (1 < u8 b 0) || decide (1 < u8 b 1), .parameterError),
    (decide (u8 b 1 = 1) && decide (countsLink (u8 b 0) ≠ l), .linkNotPermitted)]

theorem State.linkCounts_eq (k : Ticket) (b : List Byte) (s : State) :
    State.linkCounts k b s = s.check k (countsChecks k.link b) fun x =>
      (if decide (u8 b 1 = 1) then x.setLink (countsLink (u8 b 0)) { x.link (countsLink (u8 b 0)) with counts := .zero }
        else x).complete k ((x.link (countsLink (u8 b 0))).countsBody x.hub.time) := rfl

theorem exec_linkCounts_refused (h : s.Waits l tag .linkCounts n b) {j : Judgement}
    (hj : judge (countsChecks l b) = some j) :
    exec (.linkCounts l tag) s = .next (s.answered l tag .linkCounts n j []) := by
  refine congrArg Host.Outcome.next ((State.serve_waits h _).trans ?_)
  rw [State.linkCounts_eq, State.check_some hj]
  exact State.respond_taken h j []

theorem exec_linkCounts_read (h : s.Waits l tag .linkCounts n b) (hj : judge (countsChecks l b) = none)
    (hc : u8 b 1 ≠ 1) : exec (.linkCounts l tag) s = .next (s.answered l tag .linkCounts n .normalCompletion
      ((s.link (countsLink (u8 b 0))).countsBody s.hub.time)) := by
  refine congrArg Host.Outcome.next ((State.serve_waits h _).trans ?_)
  rw [State.linkCounts_eq, State.check_none hj, if_neg (by simpa using hc)]
  refine (State.respond_taken h .normalCompletion _).trans ?_
  exact congrArg _ (s.taken_countsBody l n _)

theorem exec_linkCounts_clear (h : s.Waits l tag .linkCounts n b) (hj : judge (countsChecks l b) = none)
    (hc : u8 b 1 = 1) (hl : countsLink (u8 b 0) = l) : exec (.linkCounts l tag) s =
      .next ((s.setLink l { s.link l with counts := .zero }).answered l tag .linkCounts n .normalCompletion
        ((s.link l).countsBody s.hub.time)) := by
  refine congrArg Host.Outcome.next ((State.serve_waits h _).trans ?_)
  have hs : (s.taken l n).setLink l { (s.taken l n).link l with counts := .zero } =
      (s.setLink l { s.link l with counts := .zero }).taken l n := by
    simp [State.taken]
    rfl
  rw [State.linkCounts_eq, State.check_none hj, if_pos (by simpa using hc), hl, hs]
  refine (State.respond_taken h.clearCounts .normalCompletion _).trans ?_
  exact congrArg _ (s.taken_countsBody l n l)

end Counts

/-- Settles O9, by the checks of LINK COUNTS in their order. -/
theorem linkCountsAnswered : Obligations.LinkCountsAnswered := by
  intro s l tag n b hw
  refine ⟨fun h => exec_linkCounts_refused hw ?_, fun h0 h1 h2 h3 => exec_linkCounts_refused hw ?_,
    fun h0 h1 h2 => ?_, fun h0 h1 h2 h3 => ?_⟩
  · have hc : (decide (b.length ≠ 2) || decide (1 < u8 b 0) || decide (1 < u8 b 1)) = true := by simpa [or_assoc] using h
    simp only [countsChecks, judge_cons, hc, if_true]
  · have hl : countsLink (u8 b 0) ≠ l := h3
    simp [countsChecks, h0, h1, h2, hl]
  · have hj : judge (countsChecks l b) = none := by simp [countsChecks, h0, h1, h2]
    rw [exec_linkCounts_read hw hj (by omega), LinkUnit.countsBody_eq]
    exact ⟨(congrArg List.length (LinkUnit.countsBody_eq _ _)).symm.trans (LinkUnit.countsBody_length _ _), rfl⟩
  · have hl : countsLink (u8 b 0) = l := h3
    have hj : judge (countsChecks l b) = none := by simp [countsChecks, h0, h1, h2, hl]
    rw [exec_linkCounts_clear hw hj h2 hl, LinkUnit.countsBody_eq, ← hl]
    rfl

end Sys2Proof.Machine

/-! PROOF of O2: the CRC-16 of R5 and the code tables of section 1.8. -/

namespace Sys2Proof.Machine

/-- Two bytes of a word, low byte first (section 0.5). -/
theorem e16_toNat (c : Word16) : e16 c.toNat = [c.setWidth 8, (c >>> 8).setWidth 8] := by
  have hl : BitVec.ofNat 8 c.toNat = c.setWidth 8 := by
    apply BitVec.eq_of_toNat_eq
    simp
  have hh : BitVec.ofNat 8 (c.toNat / 256) = (c >>> 8).setWidth 8 := by
    apply BitVec.eq_of_toNat_eq
    simp [Nat.shiftRight_eq_div_pow]
  rw [e16, hl, hh]

theorem crc16_append (bs : List Byte) (b : Byte) : crc16 (bs ++ [b]) = crcByte (crc16 bs) b := by
  simp [crc16]

theorem frameBytes_eq (kind tag code : Byte) (body : List Byte) : frameBytes kind tag code body =
    [0xC3#8] ++ frameCore kind tag code body ++ [(crc16 (frameCore kind tag code body)).setWidth 8,
      (crc16 (frameCore kind tag code body) >>> 8).setWidth 8] := by
  rw [frameBytes, e16_toNat]

/-- The worked example of R5, register by register. -/
theorem crc16_digits :
    crc16 [0x31#8, 0x32#8, 0x33#8, 0x34#8, 0x35#8, 0x36#8, 0x37#8, 0x38#8, 0x39#8] = 0x29B1#16 := by
  have h1 : crcByte 0xFFFF#16 0x31#8 = 0xC782#16 := by decide
  have h2 : crcByte 0xC782#16 0x32#8 = 0x3DBA#16 := by decide
  have h3 : crcByte 0x3DBA#16 0x33#8 = 0x5BCE#16 := by decide
  have h4 : crcByte 0x5BCE#16 0x34#8 = 0x5349#16 := by decide
  have h5 : crcByte 0x5349#16 0x35#8 = 0x4560#16 := by decide
  have h6 : crcByte 0x4560#16 0x36#8 = 0x2EF4#16 := by decide
  have h7 : crcByte 0x2EF4#16 0x37#8 = 0x7718#16 := by decide
  have h8 : crcByte 0x7718#16 0x38#8 = 0xA12B#16 := by decide
  have h9 : crcByte 0xA12B#16 0x39#8 = 0x29B1#16 := by decide
  simp only [crc16, List.foldl_cons, List.foldl_nil, h1, h2, h3, h4, h5, h6, h7, h8, h9]

/-- A byte that is no request's code is read as no request. -/
theorem reqOf_eq_none {b : Byte} (h : ∀ c, reqByte c ≠ b.toNat) : reqOf b = none :=
  List.find?_eq_none.mpr fun c _ => by simpa using h c

/-- Settles O2: the check by its definition and its worked example, the tables row by row. -/
theorem checkAndCodeTables : Obligations.CheckAndCodeTables := by
  refine ⟨rfl, crc16_append, fun _ => rfl, crc16_digits, frameBytes_eq, ?_, ?_, ?_, ?_, ?_⟩
  · decide
  · intro c
    cases c <;> decide
  · intro b hb
    refine reqOf_eq_none fun c hc => hb ?_
    rw [← hc]
    cases c <;> decide
  · decide
  · decide

end Sys2Proof.Machine

/-! PROOF of O53: the state after reset, POWER ON and RESET (R166, R169). -/

namespace Sys2Proof.Machine

/-! ### What the state after reset holds -/

@[simp] theorem Table.get_empty {α : Type} (d : α) (k : Nat) : (Table.empty : Table α).get d k = d := rfl

@[simp] theorem PerPort.get_all {α : Type} (x : α) (p : Port) : (PerPort.all x).get p = x := by cases p <;> rfl

section Reset
variable (pins : Pins) (pending : List Instr)

@[simp] theorem State.fresh_link (l : Link) : (State.fresh pins pending).link l = .reset := by cases l <;> rfl

@[simp] theorem State.fresh_port (p : Port) : (State.fresh pins pending).port p = .reset := PerPort.get_all _ p

@[simp] theorem State.fresh_motor (p : Port) : (State.fresh pins pending).motor p = .reset := PerPort.get_all _ p

@[simp] theorem State.fresh_pair (k : Nat) : (State.fresh pins pending).pair k = none := rfl

@[simp] theorem State.fresh_view (l : Link) (c : Chan) : (State.fresh pins pending).view l c = resetViews.get c := by
  cases l <;> rfl

theorem resetViews_off (c : Chan) : (resetViews.get c).interval = 0 ∧ (resetViews.get c).fresh = false := by
  cases c with
  | internal => exact ⟨rfl, rfl⟩
  | port p => cases p <;> exact ⟨rfl, rfl⟩

@[simp] theorem State.fresh_voice (v : VoiceId) : (State.fresh pins pending).voice v = none := by cases v <;> rfl

@[simp] theorem State.fresh_entry (n : Nat) : (State.fresh pins pending).entry n = .absent := rfl

@[simp] theorem State.fresh_sounds : (State.fresh pins pending).sounds = [] := rfl

/-- Before the scan no block is LIVE, RETIRED or SESSION (R151). -/
theorem State.fresh_block (b : Nat) : ((State.fresh pins pending).block b).state ∈
    [BlockState.catalogue, .factory, .freeDirty] := by
  show (cellsGet Block.unscanned initialBlocks.cells b).state ∈ _
  simp only [initialBlocks, cellsGet]
  split_ifs <;> decide

theorem State.fresh_channelsAgree : (State.fresh pins pending).ChannelsAgree where
  links := .fresh pins pending
  held p l h := by simp [PortRec.reset] at h
  heldI l h := by simp [State.fresh] at h
  device p d _ h := by simp [PortRec.reset] at h
  stage p h := by simp [PortRec.reset] at h
  running p _ := by simp [Motor.reset]
  waiting p := by simp [Motor.reset]
  commands p c h := by simp [Motor.reset] at h
  pairs k q h := by simp at h
  bound p k h := by simp [Motor.reset] at h

theorem State.fresh_storesAgree : (State.fresh pins pending).StoresAgree where
  links := .fresh pins pending
  queue := Nat.zero_le _
  waits _ _ := rfl
  order := List.Pairwise.nil
  pinned r h := by simp [State.fresh, AssetMap.reset] at h
  lock _ l h := by simp [State.fresh, AssetMap.reset] at h
  refreshes := Nat.zero_le _
  cache := Nat.zero_le _

theorem State.fresh_block_ne {b : Nat} {st : BlockState} (hs : st ∉ [BlockState.catalogue, .factory, .freeDirty]) :
    ((State.fresh pins pending).block b).state ≠ st := fun h => hs (h ▸ State.fresh_block pins pending b)

theorem State.fresh_versionsAgree : (State.fresh pins pending).VersionsAgree where
  stores := State.fresh_storesAgree pins pending
  directory := Table.wf_empty _
  numbers := by simp
  current h V hV := by simp [DirEntry.absent] at hV
  retired r h := by simp [State.fresh, AssetMap.reset] at h
  once := List.nodup_nil
  sounds x h := by simp at h
  cached e h := by simp [State.fresh, AssetMap.reset] at h
  keys := List.nodup_nil
  factory n _ target := by simp [DirEntry.absent]
  change c h := by simp [State.fresh, AssetMap.reset] at h
  live b h := absurd h (State.fresh_block_ne pins pending (by decide))
  retiredBlocks b h := absurd h (State.fresh_block_ne pins pending (by decide))
  sessionBlocks b h := absurd h (State.fresh_block_ne pins pending (by decide))
  session x h := by simp [State.fresh, Media.reset] at h
  commits r h := by simp [State.fresh, Media.reset] at h
  commit := Nat.zero_le _
  refreshing r h := by simp [State.fresh, Media.reset] at h
  listed i h := by simp [State.fresh, Media.reset] at h
  starting _ := ⟨rfl, rfl, rfl, fun l e h => by simp [LinkUnit.reset] at h⟩

end Reset

/-! ### RESET asserted (R169) -/

/-- The records of some ports changed, each by the function of its port. -/
def PerPort.mapOn {α : Type} (ps : List Port) (f : Port → α → α) (t : PerPort α) : PerPort α :=
  ps.foldl (fun t p => t.set p (f p (t.get p))) t

theorem PerPort.get_mapOn {α : Type} {ps : List Port} (hn : ps.Nodup) (f : Port → α → α) (t : PerPort α) (p : Port) :
    (t.mapOn ps f).get p = if p ∈ ps then f p (t.get p) else t.get p := by
  unfold PerPort.mapOn
  induction ps generalizing t with
  | nil => rfl
  | cons q rest ih =>
    obtain ⟨hq, hr⟩ := List.nodup_cons.mp hn
    rw [List.foldl_cons, ih hr, PerPort.get_set]
    by_cases hp : p = q
    · simp [hp, hq]
    · simp [hp]

theorem mem_allPorts (p : Port) : p ∈ allPorts := by cases p <;> decide

theorem PerPort.get_mapOn_all {α : Type} (f : Port → α → α) (t : PerPort α) (p : Port) :
    (t.mapOn allPorts f).get p = f p (t.get p) := by
  rw [PerPort.get_mapOn (by decide), if_pos (mem_allPorts p)]

theorem foldl_setMotor (ps : List Port) (f : Port → Motor → Motor) (s : State) :
    ps.foldl (fun t p => t.setMotor p (f p (t.motor p))) s = { s with motors := s.motors.mapOn ps f } := by
  unfold PerPort.mapOn
  induction ps generalizing s with
  | nil => rfl
  | cons q rest ih => exact ih _

theorem foldl_setPort (ps : List Port) (f : Port → PortRec → PortRec) (s : State) :
    ps.foldl (fun t p => t.setPort p (f p (t.port p))) s = { s with ports := s.ports.mapOn ps f } := by
  unfold PerPort.mapOn
  induction ps generalizing s with
  | nil => rfl
  | cons q rest ih => exact ih _

theorem State.enterAll_eq (s : State) (ps : List Port) (e : EndAction) :
    s.enterAll ps e = { s with motors := s.motors.mapOn ps fun _ m => m.enter e m.position } :=
  foldl_setMotor ps (fun _ m => m.enter e m.position) s

/-- The record of a port while RESET is asserted. -/
def PortRec.onHold (r : PortRec) : PortRec := { r with line := .closed, holder := none }

theorem State.hold_eq (s : State) : s.hold = { s with
    motors := s.motors.mapOn allPorts fun _ m => m.enter .coast m.position
    ports := s.ports.mapOn allPorts fun _ => PortRec.onHold
    holderI := none
    hub := { s.hub with held := true }
    links := ⟨s.links.pl.cleared false, s.links.tl.cleared false⟩
    sound := { s.sound with speaker := 0 }
    media := { s.media with op := none } } := by
  unfold State.hold
  rw [State.enterAll_eq]
  dsimp only
  rw [show (fun (t : State) p => t.setPort p { t.port p with line := .closed, holder := none }) =
    fun t p => t.setPort p (t.port p).onHold from rfl, foldl_setPort]

section Hold
variable (s : State)

theorem State.hold_link (l : Link) : s.hold.link l = (s.link l).cleared false := by
  rw [State.hold_eq]
  cases l <;> rfl

theorem State.hold_port (p : Port) : s.hold.port p = (s.port p).onHold := by
  rw [State.hold_eq]
  exact PerPort.get_mapOn_all _ _ p

theorem State.hold_motor (p : Port) : s.hold.motor p = (s.motor p).rest .free := by
  rw [State.hold_eq]
  exact PerPort.get_mapOn_all _ _ p

theorem State.hold_held : s.hold.hub.held = true := by rw [State.hold_eq]

/-- A held hub asks for no attention and drives no bridge (R1, R169). -/
theorem State.attention_held {s : State} (h : s.hub.held = true) : s.attention = false := by simp [State.attention, h]

theorem State.bridge_held {s : State} (h : s.hub.held = true) (p : Port) : s.bridge p = .off := by simp [State.bridge, h]

end Hold

/-- Settles O53: the records of the state after reset one by one, then POWER ON and the two edges of RESET. -/
theorem resetAndPower : Obligations.ResetAndPower := by
  refine ⟨?_, fun s => ⟨rfl, fun hh => ⟨?_, ?_⟩, fun hh => ⟨?_, s.hold, ?_, ?_⟩⟩⟩
  · rintro r rfl
    refine ⟨rfl, rfl, .fresh _ _, State.fresh_channelsAgree _ _, State.fresh_storesAgree _ _,
      State.fresh_versionsAgree _ _, fun l => ?_, fun p => ?_, fun p => ?_, fun l c => ?_, fun l k => ?_,
      State.fresh_voice _ _, rfl, rfl, fun l => ?_, rfl, State.fresh_entry _ _, rfl, rfl, rfl, rfl, rfl, rfl, rfl⟩
    · rw [State.reset, State.fresh_link]
      exact ⟨rfl, rfl⟩
    · rw [State.reset, State.fresh_port]
      exact ⟨rfl, rfl, rfl, rfl, rfl⟩
    · rw [State.reset, State.fresh_motor]
      exact ⟨rfl, rfl, rfl, rfl, rfl⟩
    · rw [State.reset, State.fresh_view]
      exact resetViews_off c
    · cases l <;> exact ⟨rfl, rfl⟩
    · cases l <;> rfl
  · exact congrArg _ (if_pos hh)
  · exact congrArg _ (if_pos hh)
  · exact congrArg _ (if_neg (by simp [hh]))
  · exact congrArg _ (if_neg (by simp [hh]))
  · refine ⟨by rw [s.hold_eq], by rw [s.hold_eq], by rw [s.hold_eq], s.hold_link, fun p => ?_, by rw [s.hold_eq],
      by rw [s.hold_eq], by rw [s.hold_eq], State.attention_held s.hold_held, State.bridge_held s.hold_held⟩
    rw [s.hold_motor, s.hold_port]
    exact ⟨rfl, rfl, rfl, rfl⟩

end Sys2Proof.Machine

/-! SUPPORT. A link's releases when it goes DOWN (R36, R58, R59): what `releaseAll` changes, and where ports, channels and
pairs agree, the channels it frees. -/

namespace Sys2Proof.Machine

/-! ### What leaves everything but the Link Units alone -/

/-- `t` is `s` with other Link Units. -/
def State.LinksOnly (s t : State) : Prop := t = { s with links := t.links }

section LinksOnly
variable {s t u : State}

theorem State.LinksOnly.refl (s : State) : s.LinksOnly s := rfl

theorem State.LinksOnly.trans (h : s.LinksOnly t) (k : t.LinksOnly u) : s.LinksOnly u := by
  unfold State.LinksOnly at h k ⊢
  rw [k, h]

theorem State.LinksOnly.motors (h : s.LinksOnly t) : t.motors = s.motors := by rw [h]

theorem State.LinksOnly.pairs (h : s.LinksOnly t) : t.pairs = s.pairs := by rw [h]

theorem State.LinksOnly.sound (h : s.LinksOnly t) : t.sound = s.sound := by rw [h]

theorem State.LinksOnly.assets (h : s.LinksOnly t) : t.assets = s.assets := by rw [h]

theorem State.LinksOnly.media (h : s.LinksOnly t) : t.media = s.media := by rw [h]

theorem State.LinksOnly.setLink (h : s.LinksOnly t) (l : Link) (x : LinkUnit) : s.LinksOnly (t.setLink l x) :=
  h.trans rfl

theorem State.LinksOnly.notify (h : s.LinksOnly t) (l : Link) (b : NoticeBody) : s.LinksOnly (t.notify l b) := by
  unfold State.notify
  split
  · exact h.setLink _ _
  · exact h

theorem State.LinksOnly.refuse (h : s.LinksOnly t) (k : Ticket) (j : Judgement) : s.LinksOnly (t.refuse k j) :=
  h.setLink _ _

theorem State.LinksOnly.foldl {β : Type} {f : State → β → State} (h : s.LinksOnly t) (xs : List β)
    (hf : ∀ u x, s.LinksOnly u → s.LinksOnly (f u x)) : s.LinksOnly (xs.foldl f t) :=
  List.foldlRecOn xs f h fun u hu x _ => hf u x hu

theorem State.LinksOnly.motionDone (h : s.LinksOnly t) (p : Port) (c : Command) (o : EndOutcome) (b : Bool) :
    s.LinksOnly (t.motionDone p c o b) := by
  unfold State.motionDone
  dsimp only
  split <;> exact h.notify _ _

theorem State.LinksOnly.endNotices (h : s.LinksOnly t) (p : Port) (m : Motor) (o : EndOutcome) :
    s.LinksOnly (t.endNotices p m o) := by
  refine State.LinksOnly.foldl ?_ _ fun u c hu => hu.motionDone p c o false
  split
  · exact h
  · exact h.motionDone p _ o true

end LinksOnly

/-! ### What leaves everything but the channels, the pairs and the Link Units alone -/

/-- `t` is `s` with other channels, pairs and Link Units. -/
def State.MotionOnly (s t : State) : Prop := t = { s with motors := t.motors, pairs := t.pairs, links := t.links }

section MotionOnly
variable {s t u : State}

theorem State.MotionOnly.trans (h : s.MotionOnly t) (k : t.MotionOnly u) : s.MotionOnly u := by
  unfold State.MotionOnly at h k ⊢
  rw [k, h]

theorem State.LinksOnly.motion (h : s.LinksOnly t) : s.MotionOnly t := by
  unfold State.LinksOnly at h
  unfold State.MotionOnly
  rw [h]

theorem State.MotionOnly.endAll (s : State) (p : Port) (o : EndOutcome) : s.MotionOnly (s.endAll p o) := by
  rw [State.endAll_eq]
  exact ((State.LinksOnly.refl s).endNotices p _ o).motion.trans rfl

theorem State.MotionOnly.enterAll (s : State) (ps : List Port) (e : EndAction) : s.MotionOnly (s.enterAll ps e) := by
  rw [State.enterAll_eq]
  rfl

theorem State.MotionOnly.unpair (s : State) (p : Port) : s.MotionOnly (s.unpair p) := by
  unfold State.unpair
  split
  · rfl
  · unfold State.freePair
    split <;> rfl

theorem State.MotionOnly.dropMotor (s : State) (p : Port) (o : EndOutcome) : s.MotionOnly (s.dropMotor p o) :=
  ((State.MotionOnly.endAll s _ o).trans (.enterAll _ _ _)).trans (.unpair _ p)

end MotionOnly

/-! ### One port (R58, R59) -/

/-- A channel that a release has ended: FREE and coasting, without commands or pair. -/
def Motor.released (m : Motor) : Motor := { m.ended .coast 0 with pair := none }

theorem Motor.released_released (m : Motor) : m.released.released = m.released := rfl

section DropMotor
variable {s : State} {p : Port}

@[simp] theorem State.endAll_pairs (s : State) (p : Port) (o : EndOutcome) : (s.endAll p o).pairs = s.pairs := by
  rw [State.endAll_eq]
  exact ((State.LinksOnly.refl s).endNotices p (s.motor p) o).pairs

theorem State.endAll_motor (s : State) (p x : Port) (o : EndOutcome) :
    (s.endAll p o).motor x = if x = p then { s.motor p with active := none, waiting := [] } else s.motor x := by
  have hm : ∀ y, (s.endNotices p (s.motor p) o).motor y = s.motor y := fun y =>
    congrArg (fun ms => ms.get y) ((State.LinksOnly.refl s).endNotices p (s.motor p) o).motors
  rw [State.endAll_eq, State.setMotor_motor, hm, hm]

theorem State.enterAll_motor (s : State) {ps : List Port} (hn : ps.Nodup) (e : EndAction) (x : Port) :
    (s.enterAll ps e).motor x = if x ∈ ps then (s.motor x).enter e (s.motor x).position else s.motor x := by
  rw [State.enterAll_eq]
  exact PerPort.get_mapOn hn _ _ x

@[simp] theorem State.enterAll_pairs (s : State) (ps : List Port) (e : EndAction) : (s.enterAll ps e).pairs = s.pairs := by
  rw [State.enterAll_eq]

theorem State.pair_congr {s t : State} (h : t.pairs = s.pairs) (k : Nat) : t.pair k = s.pair k := by
  simp [State.pair, h]

theorem State.queuePort_unpaired (h : (s.motor p).pair = none) : s.queuePort p = p := by simp [State.queuePort, h]

theorem State.haltPorts_unpaired (h : (s.motor p).pair = none) : s.haltPorts p = [p] := by simp [State.haltPorts, h]

theorem State.queuePort_bound {k : Nat} {q : Pair} (h : (s.motor p).pair = some k) (hk : s.pair k = some q) :
    s.queuePort p = q.first := by simp [State.queuePort, h, hk]

theorem State.haltPorts_bound {k : Nat} {q : Pair} (h : (s.motor p).pair = some k) (hk : s.pair k = some q) :
    s.haltPorts p = [q.first, q.second] := by simp [State.haltPorts, h, hk]

theorem State.unpair_none (h : (s.motor p).pair = none) : s.unpair p = s := by simp [State.unpair, h]

/-- A release of a port outside any pair ends its channel and leaves every other one. -/
theorem State.dropMotor_unpaired (h : (s.motor p).pair = none) (o : EndOutcome) :
    (∀ x, (s.dropMotor p o).motor x = if x = p then (s.motor p).released else s.motor x) ∧
    ∀ k, (s.dropMotor p o).pair k = s.pair k := by
  have hm : ∀ x, ((s.endAll p o).enterAll [p] .coast).motor x =
      if x = p then (s.motor p).released else s.motor x := fun x => by
    rw [State.enterAll_motor _ (by simp), State.endAll_motor]
    by_cases hx : x = p
    · simp only [hx, List.mem_singleton, if_true]
      show ({ (s.motor p).released with pair := (s.motor p).pair } : Motor) = (s.motor p).released
      rw [h]
      rfl
    · simp [hx]
  have he : s.dropMotor p o = (s.endAll p o).enterAll [p] .coast := by
    unfold State.dropMotor
    rw [State.queuePort_unpaired h, State.haltPorts_unpaired h, State.unpair_none]
    rw [hm, if_pos rfl]
    rfl
  rw [he]
  exact ⟨hm, State.pair_congr (by simp)⟩

/-- A release of one port of a pair ends both channels and dissolves the pair (R58, R59). -/
theorem State.dropMotor_bound {k : Nat} {q : Pair} (h : s.Bound k q) (hp : p = q.first ∨ p = q.second) (o : EndOutcome) :
    (∀ x, (s.dropMotor p o).motor x = if x = q.first ∨ x = q.second then (s.motor x).released else s.motor x) ∧
    ∀ j, (s.dropMotor p o).pair j = if j = k then none else s.pair j := by
  obtain ⟨hf, hs⟩ := h.pair
  have hpk : (s.motor p).pair = some k := by
    rcases hp with rfl | rfl
    · exact hf
    · exact hs
  have hm : ∀ x, ((s.endAll q.first o).enterAll [q.first, q.second] .coast).motor x =
      if x = q.first ∨ x = q.second then { (s.motor x).released with pair := (s.motor x).pair } else s.motor x := fun x => by
    rw [State.enterAll_motor _ (by simpa using h.ports), State.endAll_motor]
    by_cases h1 : x = q.first
    · simp only [h1, List.mem_cons, true_or, if_true]
      rfl
    · by_cases h2 : x = q.second
      · simp only [h2, List.mem_cons, or_true, true_or, if_true, Ne.symm h.ports, if_false]
        have hw := h.second.2
        show ({ (s.motor q.second).released with
          waiting := (s.motor q.second).waiting, pair := (s.motor q.second).pair } : Motor) = _
        rw [hw]
        rfl
      · simp [h1, h2]
  have hq : ∀ j, ((s.endAll q.first o).enterAll [q.first, q.second] .coast).pair j = s.pair j :=
    State.pair_congr (by simp)
  have he : s.dropMotor p o = ((s.endAll q.first o).enterAll [q.first, q.second] .coast).freePair k := by
    unfold State.dropMotor State.unpair
    rw [State.queuePort_bound hpk h.entry, State.haltPorts_bound hpk h.entry, hm, if_pos hp]
    simp only [hpk]
  generalize (s.endAll q.first o).enterAll [q.first, q.second] .coast = u at hm hq he
  rw [he]
  simp only [State.freePair, hq, h.entry]
  constructor
  · intro x
    simp only [State.setPair_motor, State.setMotor_motor, hm]
    by_cases h2 : x = q.second
    · simp [h2, Ne.symm h.ports, Motor.released]
    · by_cases h1 : x = q.first
      · simp [h1, h.ports, Motor.released]
      · simp [h1, h2]
  · intro j
    rw [State.pair, State.setPair_pairs, Table.get_set]
    split
    · rfl
    · exact hq j

end DropMotor

end Sys2Proof.Machine

/-! SUPPORT. All of a link's ports released at once (R36). -/

namespace Sys2Proof.Machine

/-- The holder of a port once link `l` has let go of it. -/
def freedOf (l : Link) (h : Option Link) : Option Link := if h = some l then none else h

/-- The port's record once link `l` has let go of it. -/
def PortRec.freed (l : Link) (r : PortRec) : PortRec := { r with holder := freedOf l r.holder }

/-- One release of `releaseAll`. -/
def State.releaseHeld (l : Link) (s : State) (c : Chan) : State := if s.holder c = some l then s.releaseChan c else s

/-! ### What the releases change -/

/-- `t` is `s` with other channels, pairs, Link Units and holders. -/
def State.ClaimsOnly (s t : State) : Prop :=
  t = { s with motors := t.motors, pairs := t.pairs, links := t.links, ports := t.ports, holderI := t.holderI }

section
variable {s t u : State} {l : Link}

theorem State.ClaimsOnly.refl (s : State) : s.ClaimsOnly s := rfl

theorem State.ClaimsOnly.trans (h : s.ClaimsOnly t) (k : t.ClaimsOnly u) : s.ClaimsOnly u := by
  unfold State.ClaimsOnly at h k ⊢
  rw [k, h]

theorem State.MotionOnly.claims (h : s.MotionOnly t) : s.ClaimsOnly t := by
  unfold State.MotionOnly at h
  unfold State.ClaimsOnly
  rw [h]

theorem State.ClaimsOnly.setHolder (s : State) (c : Chan) (h : Option Link) : s.ClaimsOnly (s.setHolder c h) := by
  cases c <;> rfl

theorem State.ClaimsOnly.releaseChan (s : State) (c : Chan) : s.ClaimsOnly (s.releaseChan c) := by
  cases c with
  | internal => exact .setHolder s .internal none
  | port p => exact (State.MotionOnly.dropMotor s p .released).claims.trans (.setHolder _ (.port p) none)

theorem State.ClaimsOnly.releaseHeld (l : Link) (s : State) (c : Chan) : s.ClaimsOnly (s.releaseHeld l c) := by
  unfold State.releaseHeld
  split
  · exact .releaseChan s c
  · exact .refl s

theorem State.releaseAll_eq (s : State) (l : Link) :
    s.releaseAll l = (allPorts.foldl (fun t p => t.releaseHeld l (.port p)) s).releaseHeld l .internal := by
  rfl

theorem State.ClaimsOnly.releaseAll (s : State) (l : Link) : s.ClaimsOnly (s.releaseAll l) := by
  rw [State.releaseAll_eq]
  refine State.ClaimsOnly.trans ?_ (.releaseHeld l _ _)
  exact List.foldlRecOn (motive := fun t => s.ClaimsOnly t) allPorts _ (.refl s)
    fun t ht p _ => ht.trans (.releaseHeld l t _)

/-! ### The holders -/

theorem State.MotionOnly.ports (h : s.MotionOnly t) : t.ports = s.ports := by rw [h]

theorem State.MotionOnly.holderI (h : s.MotionOnly t) : t.holderI = s.holderI := by rw [h]

theorem PortRec.freed_of_ne {r : PortRec} (h : r.holder ≠ some l) : r.freed l = r := by
  unfold PortRec.freed freedOf
  rw [if_neg h]

/-- A release of a port frees that port's record and leaves every other one. -/
theorem State.releaseHeld_ports (l : Link) (s : State) (p : Port) :
    (s.releaseHeld l (.port p)).ports = s.ports.set p ((s.port p).freed l) := by
  unfold State.releaseHeld
  split
  · rename_i h
    have hp := (State.MotionOnly.dropMotor s p .released).ports
    have hh : (s.port p).holder = some l := h
    show (s.dropMotor p .released).ports.set p { (s.dropMotor p .released).ports.get p with holder := none } = _
    rw [hp]
    unfold PortRec.freed freedOf
    rw [if_pos hh]
    rfl
  · rename_i h
    rw [PortRec.freed_of_ne h]
    exact (PerPort.set_get _ _).symm

theorem State.releaseHeld_holderI (l : Link) (s : State) (p : Port) :
    (s.releaseHeld l (.port p)).holderI = s.holderI := by
  unfold State.releaseHeld
  split
  · exact (State.MotionOnly.dropMotor s p .released).holderI
  · rfl

/-- The release of port I leaves the ports, the channels and the pairs. -/
theorem State.releaseHeld_internal (l : Link) (s : State) :
    s.releaseHeld l .internal = { s with holderI := freedOf l s.holderI } := by
  unfold State.releaseHeld freedOf
  split
  · rename_i h
    rw [if_pos (show s.holderI = some l from h)]
    rfl
  · rename_i h
    rw [if_neg (show ¬ s.holderI = some l from h)]

theorem foldl_releaseHeld_ports (l : Link) (ps : List Port) (s : State) :
    (ps.foldl (fun t p => t.releaseHeld l (.port p)) s).ports = s.ports.mapOn ps fun _ => PortRec.freed l := by
  unfold PerPort.mapOn
  induction ps generalizing s with
  | nil => rfl
  | cons p rest ih =>
    rw [List.foldl_cons, ih, State.releaseHeld_ports]
    rfl

/-- After the releases no port is held by the link, and nothing else of the ports has changed (R36). -/
theorem State.releaseAll_port (s : State) (l : Link) (p : Port) : (s.releaseAll l).port p = (s.port p).freed l := by
  rw [State.releaseAll_eq, State.releaseHeld_internal]
  show (allPorts.foldl (fun t p => t.releaseHeld l (.port p)) s).ports.get p = _
  rw [foldl_releaseHeld_ports]
  exact PerPort.get_mapOn_all _ _ p

theorem State.releaseAll_holderI (s : State) (l : Link) : (s.releaseAll l).holderI = freedOf l s.holderI := by
  rw [State.releaseAll_eq, State.releaseHeld_internal]
  have h : (allPorts.foldl (fun t p => t.releaseHeld l (.port p)) s).holderI = s.holderI :=
    List.foldlRecOn (motive := fun (t : State) => t.holderI = s.holderI) allPorts _ rfl
      fun t ht p _ => (t.releaseHeld_holderI l p).trans ht
  exact congrArg (freedOf l) h

end

/-! ### The channels, where ports, channels and pairs agree (R58, R59) -/

/-- From `s` to `u` the channels that `D` names have been released, whole pairs at a time, all of them held by `l`. -/
structure State.FreedMotors (l : Link) (s u : State) (D : Port → Prop) : Prop where
  held : ∀ p, D p → (s.port p).holder = some l
  freed : ∀ p, D p → u.motor p = (s.motor p).released
  kept : ∀ p, ¬ D p → u.motor p = s.motor p
  whole : ∀ k q, s.pair k = some q → (D q.first ↔ D q.second)
  gone : ∀ k q, s.pair k = some q → D q.first → u.pair k = none
  stands : ∀ k q, s.pair k = some q → ¬ D q.first → u.pair k = some q
  unbound : ∀ k, s.pair k = none → u.pair k = none

section
variable {l : Link} {s u v : State} {D : Port → Prop} {p : Port}

theorem State.FreedMotors.start (l : Link) (h : u.motors = s.motors) (k : u.pairs = s.pairs) :
    s.FreedMotors l u (fun _ => False) where
  held _ h := h.elim
  freed _ h := h.elim
  kept _ _ := by simp [State.motor, h]
  whole _ _ _ := Iff.rfl
  gone _ _ _ h := h.elim
  stands j q hq _ := (State.pair_congr k j).trans hq
  unbound j hj := (State.pair_congr k j).trans hj

/-- What has the same channels and pairs is freed alike. -/
theorem State.FreedMotors.congr (h : s.FreedMotors l u D) (hm : ∀ x, v.motor x = u.motor x)
    (hp : ∀ k, v.pair k = u.pair k) : s.FreedMotors l v D where
  held := h.held
  freed x hx := (hm x).trans (h.freed x hx)
  kept x hx := (hm x).trans (h.kept x hx)
  whole := h.whole
  gone k q hq hd := (hp k).trans (h.gone k q hq hd)
  stands k q hq hd := (hp k).trans (h.stands k q hq hd)
  unbound k hk := (hp k).trans (h.unbound k hk)

/-- A port released before is released again to no effect. -/
theorem State.FreedMotors.again (h : s.FreedMotors l u D) (hp : D p) (o : EndOutcome) :
    s.FreedMotors l (u.dropMotor p o) D := by
  have hm := h.freed p hp
  obtain ⟨h1, h2⟩ := State.dropMotor_unpaired (s := u) (p := p) (by rw [hm]; rfl) o
  refine h.congr (fun x => ?_) h2
  rw [h1]
  split
  · rename_i hx
    rw [hx, hm]
    rfl
  · rfl

/-- A port outside any pair, released. -/
theorem State.FreedMotors.single (ha : s.ChannelsAgree) (h : s.FreedMotors l u D) (hp : ¬ D p)
    (hh : (s.port p).holder = some l) (hn : (s.motor p).pair = none) (o : EndOutcome) :
    s.FreedMotors l (u.dropMotor p o) (fun x => D x ∨ x = p) := by
  have hm := h.kept p hp
  obtain ⟨h1, h2⟩ := State.dropMotor_unpaired (s := u) (p := p) (by rw [hm]; exact hn) o
  have hout : ∀ k q, s.pair k = some q → p ≠ q.first ∧ p ≠ q.second := fun k q hq => by
    obtain ⟨_, hb, _⟩ := ha.pairs k q hq
    obtain ⟨hf, hs⟩ := hb.pair
    constructor
    · rintro rfl
      rw [hn] at hf
      cases hf
    · rintro rfl
      rw [hn] at hs
      cases hs
  refine ⟨fun x hx => ?_, fun x hx => ?_, fun x hx => ?_, fun k q hq => ?_, fun k q hq hd => ?_, fun k q hq hd => ?_,
    fun k hk => (h2 k).trans (h.unbound k hk)⟩
  · rcases hx with hx | rfl
    · exact h.held x hx
    · exact hh
  · rw [h1]
    by_cases hxp : x = p
    · rw [if_pos hxp, hxp, hm]
    · rw [if_neg hxp]
      exact h.freed x (hx.resolve_right hxp)
  · rw [h1, if_neg fun e => hx (.inr e)]
    exact h.kept x fun e => hx (.inl e)
  · obtain ⟨o1, o2⟩ := hout k q hq
    simp only [Ne.symm o1, Ne.symm o2, or_false]
    exact h.whole k q hq
  · exact (h2 k).trans (h.gone k q hq (hd.resolve_right (Ne.symm (hout k q hq).1)))
  · exact (h2 k).trans (h.stands k q hq fun e => hd (.inl e))

/-- A port of a pair, released with its partner. -/
theorem State.FreedMotors.double (ha : s.ChannelsAgree) (h : s.FreedMotors l u D) (hp : ¬ D p)
    (hh : (s.port p).holder = some l) {k : Nat} {q : Pair} (hq : s.pair k = some q) (hpq : p = q.first ∨ p = q.second)
    (o : EndOutcome) : s.FreedMotors l (u.dropMotor p o) (fun x => D x ∨ x = q.first ∨ x = q.second) := by
  obtain ⟨_, hb, hg⟩ := ha.pairs k q hq
  obtain ⟨hf, hs⟩ := hb.pair
  have hw := h.whole k q hq
  have hnf : ¬ D q.first := by
    rcases hpq with rfl | rfl
    · exact hp
    · exact fun e => hp (hw.mp e)
  have hns : ¬ D q.second := fun e => hnf (hw.mpr e)
  have hub : u.Bound k q := ⟨h.stands k q hq hnf, hb.ports, by rw [h.kept _ hnf, h.kept _ hns]; exact hb.pair,
    by rw [h.kept _ hns]; exact hb.second, by rw [h.kept _ hnf]; exact hb.commands⟩
  obtain ⟨h1, h2⟩ := State.dropMotor_bound hub hpq o
  have hl : q.holder = l := by
    have := (hg p hpq).1
    rw [hh] at this
    exact (Option.some.inj this).symm
  -- Two pairs with a port in common are one.
  have hone : ∀ j r, s.pair j = some r → ∀ x, (x = r.first ∨ x = r.second) → (x = q.first ∨ x = q.second) → j = k := by
    intro j r hr x hxr hxq
    obtain ⟨_, hbr, _⟩ := ha.pairs j r hr
    obtain ⟨rf, rs⟩ := hbr.pair
    have h1 : (s.motor x).pair = some j := by
      rcases hxr with rfl | rfl
      · exact rf
      · exact rs
    have h2 : (s.motor x).pair = some k := by
      rcases hxq with rfl | rfl
      · exact hf
      · exact hs
    rw [h1] at h2
    exact Option.some.inj h2
  refine ⟨fun x hx => ?_, fun x hx => ?_, fun x hx => ?_, fun j r hr => ?_, fun j r hr hd => ?_, fun j r hr hd => ?_,
    fun j hj => ?_⟩
  · rcases hx with hx | hx
    · exact h.held x hx
    · exact hl ▸ (hg x hx).1
  · rw [h1]
    by_cases hxq : x = q.first ∨ x = q.second
    · rw [if_pos hxq, h.kept x (by rcases hxq with rfl | rfl <;> assumption)]
    · rw [if_neg hxq]
      exact h.freed x (hx.resolve_right hxq)
  · rw [h1, if_neg fun e => hx (.inr e)]
    exact h.kept x fun e => hx (.inl e)
  · by_cases hj : j = k
    · subst hj
      rw [hq] at hr
      cases hr
      simp
    · have nf : ¬ (r.first = q.first ∨ r.first = q.second) := fun e => hj (hone j r hr _ (.inl rfl) e)
      have ns : ¬ (r.second = q.first ∨ r.second = q.second) := fun e => hj (hone j r hr _ (.inr rfl) e)
      simp only [nf, ns, or_false]
      exact h.whole j r hr
  · rw [h2]
    split
    · rfl
    · rename_i hj
      exact h.gone j r hr (hd.resolve_right fun e => hj (hone j r hr _ (.inl rfl) e))
  · rw [h2, if_neg]
    · exact h.stands j r hr fun e => hd (.inl e)
    · rintro rfl
      rw [hq] at hr
      cases hr
      exact hd (.inr (.inl rfl))
  · rw [h2]
    split
    · rfl
    · exact h.unbound j hj

/-- The release of one port of the link frees it, with its partner if it has one. -/
theorem State.FreedMotors.dropMotor (ha : s.ChannelsAgree) (h : s.FreedMotors l u D) (hh : (s.port p).holder = some l)
    (o : EndOutcome) : ∃ D', s.FreedMotors l (u.dropMotor p o) D' ∧ (∀ x, D x → D' x) ∧ D' p := by
  by_cases hp : D p
  · exact ⟨D, h.again hp o, fun _ hx => hx, hp⟩
  · cases hk : (s.motor p).pair with
    | none => exact ⟨_, h.single ha hp hh hk o, fun _ hx => .inl hx, .inr rfl⟩
    | some k =>
      obtain ⟨q, hq, hpq⟩ := ha.bound p k hk
      exact ⟨_, h.double ha hp hh hq hpq o, fun _ hx => .inl hx, .inr hpq⟩

/-- The commands that the release of a port of the link ends were all issued by the link (R57, R59). -/
theorem State.FreedMotors.issued (ha : s.ChannelsAgree) (h : s.FreedMotors l u D) (hh : (s.port p).holder = some l) :
    (u.motor (u.queuePort p)).issued (· = l) := by
  have hnone : ∀ x, D x → (u.motor x).issued (· = l) := fun x hx c hc => by
    rw [h.freed x hx] at hc
    simp [Motor.released, Motor.ended] at hc
  have hown : ∀ x, ¬ D x → (s.port x).holder = some l → (u.motor x).issued (· = l) := fun x hx hxl c hc => by
    rw [h.kept x hx] at hc
    have := (ha.commands x c hc).2
    rw [hxl] at this
    exact (Option.some.inj this).symm
  by_cases hp : D p
  · rw [State.queuePort_unpaired (by rw [h.freed p hp]; rfl)]
    exact hnone p hp
  · cases hk : (s.motor p).pair with
    | none =>
      rw [State.queuePort_unpaired (by rw [h.kept p hp]; exact hk)]
      exact hown p hp hh
    | some k =>
      obtain ⟨q, hq, hpq⟩ := ha.bound p k hk
      obtain ⟨_, _, hg⟩ := ha.pairs k q hq
      have hnf : ¬ D q.first := by
        rcases hpq with rfl | rfl
        · exact hp
        · exact fun e => hp ((h.whole k q hq).mp e)
      rw [State.queuePort_bound (by rw [h.kept p hp]; exact hk) (h.stands k q hq hnf)]
      refine hown _ hnf ?_
      rw [(hg _ (.inl rfl)).1, ← (hg p hpq).1, hh]

/-- The releases of a list of ports: the channels freed, and no notice to the other link. -/
theorem State.FreedMotors.foldl (ha : s.ChannelsAgree) {ps : List Port} (hn : ps.Nodup) (h : s.FreedMotors l u D)
    (hu : ∀ p ∈ ps, (u.port p).holder = (s.port p).holder) :
    u.Tells (· = l) (ps.foldl (fun t p => t.releaseHeld l (.port p)) u) ∧
    ∃ D', s.FreedMotors l (ps.foldl (fun t p => t.releaseHeld l (.port p)) u) D' ∧ (∀ x, D x → D' x) ∧
      ∀ p ∈ ps, (s.port p).holder = some l → D' p := by
  induction ps generalizing u D with
  | nil => exact ⟨.refl _ u, D, h, fun _ hx => hx, by simp⟩
  | cons p rest ih =>
    obtain ⟨hpr, hr⟩ := List.nodup_cons.mp hn
    have hrest : ∀ x ∈ rest, ((u.releaseHeld l (.port p)).port x).holder = (s.port x).holder := fun x hx => by
      have hxp : x ≠ p := fun e => hpr (e ▸ hx)
      have : (u.releaseHeld l (.port p)).port x = u.port x := by
        rw [State.port, State.releaseHeld_ports, PerPort.get_set_ne _ _ hxp]
        rfl
      rw [this]
      exact hu x (List.mem_cons_of_mem p hx)
    have hup := hu p List.mem_cons_self
    have hstep : u.Tells (· = l) (u.releaseHeld l (.port p)) ∧ ∃ D', s.FreedMotors l (u.releaseHeld l (.port p)) D' ∧
        (∀ x, D x → D' x) ∧ ((s.port p).holder = some l → D' p) := by
      unfold State.releaseHeld
      split
      · rename_i hc
        have hh : (s.port p).holder = some l := hup ▸ hc
        obtain ⟨D', h1, h2, h3⟩ := h.dropMotor ha hh .released
        refine ⟨(State.Tells.refl _ u).releaseChan _ fun x hx => ?_, D', h1.congr (fun _ => rfl) (fun _ => rfl), h2,
          fun _ => h3⟩
        cases hx
        exact h.issued ha hh
      · rename_i hc
        exact ⟨.refl _ u, D, h, fun _ hx => hx, fun hh => absurd (hup.trans hh) hc⟩
    obtain ⟨ht, D1, h1, h2, h3⟩ := hstep
    obtain ⟨ht', D2, k1, k2, k3⟩ := ih hr h1 hrest
    refine ⟨ht.trans ht', D2, k1, fun x hx => k2 x (h2 x hx), fun x hx hxl => ?_⟩
    rcases List.mem_cons.mp hx with rfl | hx
    · exact k2 _ (h3 hxl)
    · exact k3 x hx hxl

/-- A link's releases, where ports, channels and pairs agree: the channels of its ports are freed, its pairs dissolved,
every other one stands, and no other link is told (R36, R58, R59). `u` is the hub with that link's unit cleared. -/
theorem State.releaseAll_freed (ha : s.ChannelsAgree) (hm : u.motors = s.motors) (hp : u.pairs = s.pairs)
    (ho : u.ports = s.ports) :
    u.Tells (· = l) (u.releaseAll l) ∧
    (∀ p, (u.releaseAll l).motor p = if (s.port p).holder = some l then (s.motor p).released else s.motor p) ∧
    ∀ k, (u.releaseAll l).pair k = if (s.pair k).map (fun q => q.holder) = some l then none else s.pair k := by
  obtain ⟨ht, D, h, _, hall⟩ := State.FreedMotors.foldl (ps := allPorts) ha (by decide)
    (State.FreedMotors.start l hm hp) fun p _ => by simp [State.port, ho]
  rw [State.releaseAll_eq, State.releaseHeld_internal]
  have hD : ∀ p, D p ↔ (s.port p).holder = some l := fun p => ⟨h.held p, hall p (mem_allPorts p)⟩
  refine ⟨ht.of_links rfl, fun p => ?_, fun k => ?_⟩
  · split
    · exact h.freed p ((hD p).mpr ‹_›)
    · exact h.kept p fun e => ‹¬ _› ((hD p).mp e)
  · cases hq : s.pair k with
    | none => exact h.unbound k hq
    | some q =>
      obtain ⟨_, _, hg⟩ := ha.pairs k q hq
      have hf : D q.first ↔ q.holder = l := by
        rw [hD, (hg _ (.inl rfl)).1, Option.some_inj]
      simp only [Option.map_some, Option.some_inj]
      split
      · exact h.gone k q hq (hf.mpr ‹_›)
      · exact h.stands k q hq fun e => ‹¬ _› (hf.mp e)

end

end Sys2Proof.Machine

/-! SUPPORT. A link's views when it goes DOWN, and the shared settings without them (R83, R84, R94). -/

namespace Sys2Proof.Machine

section
variable {s t : State} {l : Link}

/-! ### What a value count and a shared setting rest on -/

/-- The mode record of a port's current mode, from the port's record alone. -/
def PortRec.modeRecord (r : PortRec) : Option ModeRecord :=
  match r.device, r.mode with
  | some d, some m => d.modes[m]?
  | _, _ => none

theorem State.modeRecord_eq (s : State) (p : Port) : s.modeRecord p = (s.port p).modeRecord := rfl

/-- Whether a port is an ACTIVE SENSOR port. -/
def PortRec.senses (r : PortRec) : Bool :=
  decide (r.state = .active) && decide (r.device.map (fun d => d.kind) = some .sensor)

theorem State.senses_iff (s : State) (p : Port) :
    (s.active p ∧ s.classOf p = some .sensor) ↔ (s.port p).senses = true := by
  simp [State.active, State.classOf, PortRec.senses]

/-- The present value count of a port, from its record alone (R79). -/
def PortRec.valueCount (r : PortRec) : Nat :=
  if r.state == .active then
    match (r.device.map (fun d => d.kind) : Option DeviceClass) with
    | some .sensor => (r.modeRecord.map (fun x => x.count)).getD 1
    | _ => 4
  else 1

theorem State.valueCount_port (s : State) (p : Port) : s.valueCount (.port p) = (s.port p).valueCount := rfl

/-- The present value count of a channel rests on the ports alone. -/
theorem State.valueCount_congr (h : t.ports = s.ports) (c : Chan) : t.valueCount c = s.valueCount c := by
  cases c with
  | internal => rfl
  | port p => rw [State.valueCount_port, State.valueCount_port, State.port, h, State.port]

/-- The enabled views of a channel rest on the views and on which links are UP. -/
theorem State.wanting_congr (hv : t.views = s.views) (hu : ∀ k, (t.link k).up = (s.link k).up) (c : Chan) :
    t.wanting c = s.wanting c := by
  simp only [State.wanting, State.view, hv, hu]
  rfl

theorem State.sensorInterval_congr (hv : t.views = s.views) (hu : ∀ k, (t.link k).up = (s.link k).up) (p : Port)
    (n : Nat) : t.sensorInterval p n = s.sensorInterval p n := by
  simp only [State.sensorInterval, State.wanting_congr hv hu]

theorem State.internalSettings_congr (hv : t.views = s.views) (hu : ∀ k, (t.link k).up = (s.link k).up)
    (hb : t.brickSet = s.brickSet) : t.internalSettings = s.internalSettings := by
  simp only [State.internalSettings, State.wanting_congr hv hu, hb]

/-! ### The shared settings (R83, R84) -/

/-- The record of a port after its source interval is recomputed. -/
def State.recomputed (s : State) (p : Port) (r : PortRec) : PortRec :=
  if r.senses then
    r.takeInterval (s.sensorInterval p ((r.modeRecord.map (fun x => x.minInterval)).getD 1))
  else r

theorem State.recomputePort_eq (s : State) (p : Port) :
    s.recomputePort p = { s with ports := s.ports.set p (s.recomputed p (s.ports.get p)) } := by
  by_cases h : (s.port p).senses = true
  · have hr : s.recomputed p (s.ports.get p) =
        (s.port p).takeInterval (s.sensorInterval p (((s.port p).modeRecord.map (fun x => x.minInterval)).getD 1)) :=
      if_pos h
    rw [hr]
    exact if_pos ((s.senses_iff p).mpr h)
  · have hr : s.recomputed p (s.ports.get p) = s.port p := if_neg h
    rw [hr, State.port, PerPort.set_get]
    exact if_neg fun e => h ((s.senses_iff p).mp e)

/-- Recomputing ports one after another changes each as it would alone. -/
theorem foldl_recomputePort (ps : List Port) (s : State) :
    ps.foldl (fun t p => t.recomputePort p) s = { s with ports := s.ports.mapOn ps s.recomputed } := by
  unfold PerPort.mapOn
  induction ps generalizing s with
  | nil => rfl
  | cons p rest ih =>
    rw [List.foldl_cons, ih, State.recomputePort_eq]
    rfl

/-! ### The views (R85, R94) -/

/-- `t` is `s` with the views of link `l` changed. -/
def State.ViewsOf (l : Link) (s t : State) : Prop :=
  t = { s with views := t.views } ∧ ∀ k, k ≠ l → t.views.get k = s.views.get k

/-- A link's views of some channels at reset. -/
theorem foldl_resetView (l : Link) (cs : List Chan) (s : State) :
    State.ViewsOf l s (cs.foldl (fun t c => t.setView l c (.reset (t.valueCount c))) s) ∧
    ∀ c, (cs.foldl (fun t c => t.setView l c (.reset (t.valueCount c))) s).view l c =
      if c ∈ cs then .reset (s.valueCount c) else s.view l c := by
  induction cs generalizing s with
  | nil => exact ⟨⟨rfl, fun _ _ => rfl⟩, fun c => rfl⟩
  | cons d rest ih =>
    obtain ⟨⟨h1, h2⟩, h3⟩ := ih (s.setView l d (.reset (s.valueCount d)))
    refine ⟨⟨h1, fun k hk => (h2 k hk).trans (PerLink.get_set_ne _ _ hk)⟩, fun c => ?_⟩
    rw [List.foldl_cons, h3]
    have hv : (s.setView l d (.reset (s.valueCount d))).valueCount c = s.valueCount c :=
      State.valueCount_congr rfl c
    rw [hv]
    by_cases hc : c ∈ rest
    · simp [hc]
    · by_cases hd : c = d
      · rw [if_neg hc, hd, State.setView_view_self, if_pos List.mem_cons_self]
      · rw [if_neg hc, if_neg (by simp [hc, hd])]
        simp [State.view, State.setView, PerChan.get_set_ne _ _ hd]

theorem mem_allChans (c : Chan) : c ∈ allChans := by
  cases c with
  | internal => decide
  | port p => cases p <;> decide

/-- The shared settings of every channel are recomputed. -/
def State.recomputeAll (s : State) : State :=
  { s with ports := s.ports.mapOn allPorts s.recomputed, sharedI := s.internalSettings }

theorem foldl_recompute (s : State) : allChans.foldl (fun t c => t.recompute c) s = s.recomputeAll := by
  rw [allChans, List.foldl_append, List.foldl_map]
  simp only [State.recompute, List.foldl_cons, List.foldl_nil]
  rw [foldl_recomputePort]
  unfold State.recomputeI State.recomputeAll
  rw [State.internalSettings_congr (t := { s with ports := s.ports.mapOn allPorts s.recomputed }) rfl (fun _ => rfl) rfl]
  rfl

/-- A link's views at reset, the shared settings recomputed without them: what that changes (R94). -/
theorem State.viewsDown_eq (s : State) (l : Link) : ∃ u : State, State.ViewsOf l s u ∧
    (∀ c, u.view l c = .reset (s.valueCount c)) ∧ s.viewsDown l = u.recomputeAll := by
  obtain ⟨h1, h2⟩ := foldl_resetView l allChans s
  refine ⟨_, h1, fun c => (h2 c).trans (if_pos (mem_allChans c)), ?_⟩
  unfold State.viewsDown
  exact foldl_recompute _

end

end Sys2Proof.Machine

/-! SUPPORT. What ended sounds do to the store: their pins are dropped and their refills are for no one (R129, R133,
R143). The session, what it awaits and the block of a refresh stand. -/

namespace Sys2Proof.Machine

/-! ### The Media Controller's waiting work -/

/-- From `m` to `n` no session begins or ends, no operation of class 2 or 4 is new, and no response is newly awaited. -/
structure Media.Kept (m n : Media) : Prop where
  session : n.session = m.session
  ops : ∀ o ∈ n.class2 ++ n.class4, o ∈ m.class2 ++ m.class4
  awaits : ∀ o ∈ n.present2, ∀ k ∈ o.work.awaits, ∃ x ∈ m.present2, k ∈ x.work.awaits

section Kept
variable {m n r : Media}

theorem Media.Kept.refl (m : Media) : m.Kept m := ⟨rfl, fun _ h => h, fun o h _ hk => ⟨o, h, hk⟩⟩

theorem Media.Kept.trans (h : m.Kept n) (k : n.Kept r) : m.Kept r :=
  ⟨k.session.trans h.session, fun o ho => h.ops o (k.ops o ho), fun o ho t ht => by
    obtain ⟨x, hx, hxt⟩ := k.awaits o ho t ht
    exact h.awaits x hx t hxt⟩

/-- What keeps the session, the operation in progress and the classes keeps the waiting work. -/
theorem Media.Kept.of_eq (hs : n.session = m.session) (ho : n.op = m.op) (h2 : n.class2 = m.class2)
    (h4 : n.class4 = m.class4) : m.Kept n :=
  ⟨hs, by rw [h2, h4]; exact fun _ h => h, fun o h k hk => ⟨o, by
    unfold Media.present2 at h ⊢
    rwa [ho, h2] at h, hk⟩⟩

/-- Fewer operations in class 4 and an operation in progress made for no one. -/
theorem Media.Kept.drop (m : Media) (p : FlashOp → Bool) :
    m.Kept { m.orphan p with class4 := (m.orphan p).class4.filter fun o => !p o } where
  session := rfl
  ops o ho := by
    simp only [Media.orphan, List.mem_append, List.mem_filter] at ho ⊢
    exact ho.imp id And.left
  awaits o ho k hk := by
    simp only [Media.present2, Media.orphan, List.mem_append, Option.mem_toList, Option.map_eq_some_iff] at ho
    rcases ho with ⟨x, hx, rfl⟩ | ho
    · split at hk
      · simp [Work.awaits] at hk
      · exact ⟨x, by simp [Media.present2, hx], hk⟩
    · exact ⟨o, by simp [Media.present2, ho], hk⟩

theorem Media.Kept.orphan (m : Media) (p : FlashOp → Bool) : m.Kept (m.orphan p) where
  session := rfl
  ops _ h := h
  awaits o ho k hk := (Media.Kept.drop m p).awaits o ho k hk

theorem FlashOp.compacts_awaits {o : FlashOp} (h : o.compacts = true) : o.work.awaits = [] := by
  unfold FlashOp.compacts at h
  split at h <;> simp_all [Work.awaits]

/-- Moving the compaction steps between the classes. -/
theorem Media.Kept.classify (m : Media) : m.Kept m.classify where
  session := by rw [Media.classify_eq]
  ops o := (m.mem_classify o).mp
  awaits o ho k hk := by
    refine ⟨o, ?_, hk⟩
    have hc : o.compacts = false := by
      cases h : o.compacts with
      | false => rfl
      | true => rw [FlashOp.compacts_awaits h] at hk; cases hk
    unfold Media.classify at ho
    split at ho <;> simpa [Media.present2, List.mem_filter, hc] using ho

end Kept

/-! ### Block states (R151, R153, R154) -/

section Blocks
variable {s t u : State}

/-- The Media Controller with the refresh `r` abandoned, but for the destination's state (R154). -/
def Media.abandoned (m : Media) (r : RefreshCopy) : Media :=
  Media.classify { m.orphan FlashOp.refreshes with
    refresh := none
    class4 := (m.orphan FlashOp.refreshes).class4.filter (fun o => !o.refreshes)
    records := m.records.filter (fun x => !(decide (x.asker = .remap) && !x.begun))
    refreshList := m.refreshList.filter (fun i => decide (i.block ≠ r.old) && decide (i.block ≠ r.dest)) }

theorem Media.Kept.abandoned (m : Media) (r : RefreshCopy) : m.Kept (m.abandoned r) := by
  unfold Media.abandoned
  refine Media.Kept.trans ?_ (Media.Kept.classify _)
  exact (Media.Kept.drop m FlashOp.refreshes).trans (.of_eq rfl rfl rfl rfl)

theorem State.kept_abandonRefresh (s : State) (st : BlockState) : s.media.Kept (s.abandonRefresh st).media := by
  unfold State.abandonRefresh
  split
  · exact .refl _
  · rename_i r _
    exact (Media.Kept.abandoned s.media r).trans (.of_eq rfl rfl rfl rfl)

/-- The block table and the refresh list with a state written. -/
def State.writeBlockState (s : State) (b : Nat) (st : BlockState) : State :=
  let s1 := s.setBlock b { s.block b with state := st }
  if st.endsRefresh then
    { s1 with media := { s1.media with refreshList := s1.media.refreshList.filter (fun i => decide (i.block ≠ b)) } }
  else s1

/-- A block takes a state: that is written, and a refresh of the block may end with it. -/
theorem State.setBlockState_cases (s : State) (b : Nat) (st : BlockState) :
    s.setBlockState b st = s.writeBlockState b st ∨
    (∃ r, (s.writeBlockState b st).media.refresh = some r ∧ r.old = b) ∧
      s.setBlockState b st = (s.writeBlockState b st).abandonRefresh .freeDirty := by
  have he : s.setBlockState b st = match (s.writeBlockState b st).media.refresh with
      | some r => if r.old = b ∧ st ≠ .live then (s.writeBlockState b st).abandonRefresh .freeDirty
        else s.writeBlockState b st
      | none => s.writeBlockState b st := rfl
  rw [he]
  cases hr : (s.writeBlockState b st).media.refresh with
  | none => exact .inl rfl
  | some r =>
    by_cases hc : r.old = b ∧ st ≠ .live
    · exact .inr ⟨⟨r, rfl, hc.1⟩, if_pos hc⟩
    · exact .inl (if_neg hc)

theorem State.writeBlockState_refresh (s : State) (b : Nat) (st : BlockState) :
    (s.writeBlockState b st).media.refresh = s.media.refresh := by
  unfold State.writeBlockState
  dsimp only
  split <;> rfl

theorem State.writeBlockState_block (s : State) (b : Nat) (st : BlockState) (k : Nat) :
    (s.writeBlockState b st).block k = if k = b then { s.block b with state := st } else s.block k := by
  rw [← State.block_setBlock]
  unfold State.writeBlockState
  dsimp only
  split <;> rfl

theorem State.kept_setBlockState (s : State) (b : Nat) (st : BlockState) : s.media.Kept (s.setBlockState b st).media := by
  have hw : s.media.Kept (s.writeBlockState b st).media := by
    unfold State.writeBlockState
    dsimp only
    split <;> exact .of_eq rfl rfl rfl rfl
  obtain he | ⟨_, he⟩ := s.setBlockState_cases b st <;> rw [he]
  · exact hw
  · exact hw.trans (State.kept_abandonRefresh _ _)

theorem State.kept_setBlockStates (s : State) (bs : List Nat) (st : BlockState) :
    s.media.Kept (s.setBlockStates bs st).media :=
  List.foldlRecOn (motive := fun (t : State) => s.media.Kept t.media) bs _ (.refl _)
    fun t ht b _ => ht.trans (t.kept_setBlockState b st)

/-- A block takes a state: where no refresh copies it, the refresh stands and no other block differs. -/
theorem State.setBlockState_block (b : Nat) (st : BlockState) (h : ∀ r, s.media.refresh = some r → r.old ≠ b) :
    (s.setBlockState b st).media.refresh = s.media.refresh ∧
    ∀ k, (s.setBlockState b st).block k = if k = b then { s.block b with state := st } else s.block k := by
  obtain he | ⟨⟨r, hr, hb⟩, _⟩ := s.setBlockState_cases b st
  · rw [he]
    exact ⟨s.writeBlockState_refresh b st, s.writeBlockState_block b st⟩
  · rw [State.writeBlockState_refresh] at hr
    exact absurd hb (h r hr)

/-- The same for a list of blocks. -/
theorem State.setBlockStates_block (bs : List Nat) (st : BlockState) (h : ∀ r, s.media.refresh = some r → r.old ∉ bs) :
    (s.setBlockStates bs st).media.refresh = s.media.refresh ∧
    ∀ k, (s.setBlockStates bs st).block k = if k ∈ bs then { s.block k with state := st } else s.block k := by
  induction bs generalizing s with
  | nil => exact ⟨rfl, fun k => by simp [State.setBlockStates]⟩
  | cons b rest ih =>
    obtain ⟨h1, h2⟩ := State.setBlockState_block (s := s) b st fun r hr e => h r hr (e ▸ List.mem_cons_self)
    obtain ⟨k1, k2⟩ := ih (s := s.setBlockState b st) fun r hr e => h r (h1 ▸ hr) (List.mem_cons_of_mem b e)
    refine ⟨k1.trans h1, fun k => (k2 k).trans ?_⟩
    rw [h2]
    by_cases hb : k = b
    · subst hb
      simp
    · simp [hb]

end Blocks

/-! ### Pins and refills (R129, R143) -/

/-- From `s` to `t` pins and refills of sounds have been dropped: the lock stands, no response is newly awaited, no
version is newly retired, and where a refresh copies a LIVE block that no retired version holds, it stands, with every
block outside the retired versions. -/
structure State.Unpins (s t : State) : Prop where
  lock : t.assets.lock = s.assets.lock
  kept : s.media.Kept t.media
  retired : ∀ x ∈ t.assets.retired, ∃ y ∈ s.assets.retired, y.version.image = x.version.image
  blocks : s.RefreshLive → t.media.refresh = s.media.refresh ∧
    ∀ k, (∀ x ∈ s.assets.retired, k ∉ versionBlocks x.version.image) → t.block k = s.block k

section Unpins
variable {s t u : State}

/-- What leaves the Asset Map and the Media Controller alone. -/
theorem State.Unpins.of_eq (ha : t.assets = s.assets) (hm : t.media = s.media) : s.Unpins t where
  lock := by rw [ha]
  kept := by rw [hm]; exact .refl _
  retired x hx := ⟨x, ha ▸ hx, rfl⟩
  blocks _ := ⟨by rw [hm], fun k _ => by rw [State.block, hm, State.block]⟩

theorem State.Unpins.outside (h : s.Unpins t) {k : Nat} (hk : ∀ x ∈ s.assets.retired, k ∉ versionBlocks x.version.image) :
    ∀ x ∈ t.assets.retired, k ∉ versionBlocks x.version.image := fun x hx => by
  obtain ⟨y, hy, he⟩ := h.retired x hx
  exact he ▸ hk y hy

theorem State.Unpins.refreshLive (h : s.Unpins t) (hs : s.RefreshLive) : t.RefreshLive := by
  obtain ⟨hr, hb⟩ := h.blocks hs
  intro r hr'
  obtain ⟨h1, h2⟩ := hs r (hr ▸ hr')
  exact ⟨by rw [hb _ h2]; exact h1, h.outside h2⟩

theorem State.Unpins.trans (h : s.Unpins t) (k : t.Unpins u) : s.Unpins u where
  lock := k.lock.trans h.lock
  kept := h.kept.trans k.kept
  retired x hx := by
    obtain ⟨y, hy, he⟩ := k.retired x hx
    obtain ⟨z, hz, hf⟩ := h.retired y hy
    exact ⟨z, hz, hf.trans he⟩
  blocks hs := by
    obtain ⟨h1, h2⟩ := h.blocks hs
    obtain ⟨k1, k2⟩ := k.blocks (h.refreshLive hs)
    exact ⟨k1.trans h1, fun j hj => (k2 j (h.outside hj)).trans (h2 j hj)⟩

theorem Retired.unpinned_image (holder serial : Nat) (r : Retired) :
    (Retired.unpinned holder serial r).version.image = r.version.image := by
  unfold Retired.unpinned
  split <;> rfl

/-- The retired list with one pin of a version dropped, cut to the versions that pass `p`. -/
def State.unpinnedList (s : State) (holder serial : Nat) (p : Retired → Bool) : List Retired :=
  (s.assets.retired.map (Retired.unpinned holder serial)).filter p

/-- The blocks of the versions that have no pin left. -/
def State.goneBlocks (s : State) (holder serial : Nat) : List Nat :=
  ((s.unpinnedList holder serial fun r => decide (r.version.pins = 0)).map
    (fun r => versionBlocks r.version.image)).flatten

/-- Another retired list. -/
def State.setRetired (s : State) (rs : List Retired) : State := { s with assets := { s.assets with retired := rs } }

theorem State.unpinRetired_eq (s : State) (holder serial : Nat) :
    s.unpinRetired holder serial =
      (s.setRetired (s.unpinnedList holder serial fun r => decide (r.version.pins ≠ 0))).setBlockStates
        (s.goneBlocks holder serial) .freeDirty := rfl

theorem State.unpinnedList_image {holder serial : Nat} {p : Retired → Bool} {x : Retired}
    (hx : x ∈ s.unpinnedList holder serial p) : ∃ y ∈ s.assets.retired, y.version.image = x.version.image := by
  obtain ⟨y, hy, rfl⟩ := List.mem_map.mp (List.mem_filter.mp hx).1
  exact ⟨y, hy, (Retired.unpinned_image holder serial y).symm⟩

/-- Only blocks of retired versions go. -/
theorem State.not_mem_goneBlocks {k : Nat} (hk : ∀ x ∈ s.assets.retired, k ∉ versionBlocks x.version.image)
    (holder serial : Nat) : k ∉ s.goneBlocks holder serial := by
  intro hmem
  obtain ⟨bs, hbs, hkb⟩ := List.mem_flatten.mp hmem
  obtain ⟨x, hx, rfl⟩ := List.mem_map.mp hbs
  obtain ⟨y, hy, he⟩ := State.unpinnedList_image hx
  exact hk y hy (he ▸ hkb)

theorem State.Unpins.unpinRetired (s : State) (holder serial : Nat) : s.Unpins (s.unpinRetired holder serial) := by
  rw [State.unpinRetired_eq]
  refine ⟨by rw [State.setBlockStates_assets]; rfl, ?_, fun x hx => ?_, fun hs => ?_⟩
  · exact State.kept_setBlockStates
      (s.setRetired (s.unpinnedList holder serial fun r => decide (r.version.pins ≠ 0))) _ _
  · rw [State.setBlockStates_assets] at hx
    exact State.unpinnedList_image hx
  · obtain ⟨h1, h2⟩ := State.setBlockStates_block
      (s := s.setRetired (s.unpinnedList holder serial fun r => decide (r.version.pins ≠ 0)))
      (s.goneBlocks holder serial) .freeDirty fun r hr => State.not_mem_goneBlocks (hs r hr).2 _ _
    exact ⟨h1, fun k hk => (h2 k).trans (if_neg (State.not_mem_goneBlocks hk _ _))⟩

theorem State.Unpins.unpin (s : State) (holder serial : Nat) : s.Unpins (s.unpin holder serial) := by
  unfold State.unpin
  split
  · split
    · exact ⟨rfl, .refl _, fun x hx => ⟨x, hx, rfl⟩, fun _ => ⟨rfl, fun _ _ => rfl⟩⟩
    · exact .unpinRetired s holder serial
  · exact .unpinRetired s holder serial

theorem State.Unpins.dropPin (s : State) (x : Sound) : s.Unpins (s.dropPin x) := by
  unfold State.dropPin
  split
  · exact .of_eq rfl rfl
  · exact .unpin s _ _

theorem State.Unpins.notify (s : State) (l : Link) (b : NoticeBody) : s.Unpins (s.notify l b) :=
  .of_eq (by simp) (by simp)

theorem State.Unpins.orphan (s : State) (p : FlashOp → Bool) : s.Unpins { s with media := s.media.orphan p } :=
  ⟨rfl, .orphan _ p, fun x hx => ⟨x, hx, rfl⟩, fun _ => ⟨rfl, fun _ _ => rfl⟩⟩

end Unpins

end Sys2Proof.Machine

/-! SUPPORT. One act that ends every sound of a kind: the voices and the queue after it (R125, R133). -/

namespace Sys2Proof.Machine

section
variable {s t u : State}

/-! ### What changes -/

theorem State.SoundOnly.refl (s : State) : s.SoundOnly s := rfl

theorem State.SoundOnly.trans (h : s.SoundOnly t) (k : t.SoundOnly u) : s.SoundOnly u := by
  unfold State.SoundOnly at h k ⊢
  rw [k, h]

/-- `t` is `s` with another Asset Map and another Media Controller record. -/
def State.StoreOnly (s t : State) : Prop := t = { s with assets := t.assets, media := t.media }

theorem State.StoreOnly.sound (h : s.StoreOnly t) : t.sound = s.sound := by rw [h]

theorem State.StoreOnly.soundOnly (h : s.StoreOnly t) : s.SoundOnly t := by
  unfold State.StoreOnly at h
  unfold State.SoundOnly
  rw [h]

theorem State.LinksOnly.soundOnly (h : s.LinksOnly t) : s.SoundOnly t := by
  unfold State.LinksOnly at h
  unfold State.SoundOnly
  rw [h]

theorem State.MediaOnly.storeOnly (h : s.MediaOnly t) : s.StoreOnly t := by
  obtain ⟨m, rfl⟩ := h
  rfl

theorem State.StoreOnly.trans (h : s.StoreOnly t) (k : t.StoreOnly u) : s.StoreOnly u := by
  unfold State.StoreOnly at h k ⊢
  rw [k, h]

theorem State.StoreOnly.unpinRetired (s : State) (holder serial : Nat) : s.StoreOnly (s.unpinRetired holder serial) := by
  rw [State.unpinRetired_eq]
  exact State.StoreOnly.trans (t := s.setRetired _) rfl ((State.MediaOnly.refl _).setBlockStates _ _).storeOnly

theorem State.StoreOnly.dropPin (s : State) (x : Sound) : s.StoreOnly (s.dropPin x) := by
  unfold State.dropPin State.unpin
  split
  · rfl
  · split
    · split
      · rfl
      · exact .unpinRetired s _ _
    · exact .unpinRetired s _ _

/-- From `s` to `t` sounds have ended or begun: nothing but the Sound Unit, the links and the store differs, and the store
by dropped pins and refills alone. -/
structure State.Sounds (s t : State) : Prop where
  only : s.SoundOnly t
  unpins : s.Unpins t

theorem State.Sounds.refl (s : State) : s.Sounds s := ⟨rfl, .of_eq rfl rfl⟩

theorem State.Sounds.trans (h : s.Sounds t) (k : t.Sounds u) : s.Sounds u :=
  ⟨h.only.trans k.only, h.unpins.trans k.unpins⟩

theorem State.Sounds.setSound (s : State) (x : SoundUnit) : s.Sounds (s.setSound x) := ⟨rfl, .of_eq rfl rfl⟩

theorem State.Sounds.dropPin (s : State) (x : Sound) : s.Sounds (s.dropPin x) :=
  ⟨(State.StoreOnly.dropPin s x).soundOnly, .dropPin s x⟩

theorem State.Sounds.notify (s : State) (l : Link) (b : NoticeBody) : s.Sounds (s.notify l b) :=
  ⟨((State.LinksOnly.refl s).notify l b).soundOnly, .notify s l b⟩

theorem State.Sounds.orphan (s : State) (p : FlashOp → Bool) : s.Sounds { s with media := s.media.orphan p } :=
  ⟨rfl, .orphan s p⟩

/-! ### The entry of a voice ends, and a waiting entry ends (R133) -/

theorem State.endVoice_eq {v : VoiceId} {x : Voice} (h : s.voice v = some x) (o : EndOutcome) :
    s.endVoice v o = (({ s.setVoice v none with media := s.media.orphan (FlashOp.refills v) } : State).dropPin
      x.sound).notify x.sound.link (soundNotice x.sound o (some v)) := by
  simp only [State.endVoice, h]
  rfl

theorem State.Sounds.endVoice {v : VoiceId} {x : Voice} (h : s.voice v = some x) (o : EndOutcome) :
    s.Sounds (s.endVoice v o) ∧ (s.endVoice v o).sound = { s.sound with voices := s.sound.voices.set v none } := by
  rw [State.endVoice_eq h, State.notify_sound, (State.StoreOnly.dropPin _ _).sound]
  refine ⟨?_, rfl⟩
  refine State.Sounds.trans ?_ (.notify _ _ _)
  refine State.Sounds.trans ?_ (.dropPin _ _)
  exact (State.Sounds.setSound s { s.sound with voices := s.sound.voices.set v none }).trans
    (.orphan (s.setVoice v none) (FlashOp.refills v))

theorem State.Sounds.endWaiting (s : State) (x : Sound) (o : EndOutcome) : s.Sounds (s.endWaiting x o) ∧
    (s.endWaiting x o).sound = { s.sound with queue := s.sound.queue.filter (fun y => decide (y ≠ x)) } := by
  unfold State.endWaiting
  dsimp only
  rw [State.notify_sound, (State.StoreOnly.dropPin _ _).sound]
  refine ⟨?_, rfl⟩
  refine State.Sounds.trans ?_ (.notify _ _ _)
  refine State.Sounds.trans ?_ (.dropPin _ _)
  exact .setSound s _

/-! ### A sound takes a voice (R124, R125, R129) -/

theorem State.askRefill_voice_ne {v w : VoiceId} (h : w ≠ v) : (s.askRefill v).voice w = s.voice w := by
  unfold State.askRefill
  split
  · rfl
  · split
    · exact PerVoice.get_set_ne _ _ h
    · rfl

theorem State.askRefill_eq (s : State) (v : VoiceId) :
    ∃ vs, s.askRefill v = s.setSound { s.sound with voices := vs } := by
  unfold State.askRefill
  split
  · exact ⟨s.sound.voices, rfl⟩
  · split
    · exact ⟨_, rfl⟩
    · exact ⟨s.sound.voices, rfl⟩

/-- A TONE that takes a voice asks for no refill. -/
theorem newVoice_wants_tone {x : Sound} {f : Nat} {w : Waveform} {r ph : Nat} (h : x.part = .tone f w r ph) (n : Nat) :
    (newVoice x n).wants = none := by
  simp [Voice.wants, newVoice, h]

/-- A CLIP that takes a voice asks for the page of its read position (R129). -/
theorem newVoice_wants_clip {x : Sound} {a h k v len : Nat} {f : SoundFormat} {off loops done pos : Nat}
    (hx : x.part = .clip a h k v len f off loops done pos) (n : Nat) :
    (newVoice x n).wants = some (false, pos / 2048) := by
  simp [Voice.wants, newVoice, Voice.buffer, SoundPart.isClip, pageIndex, hx]

theorem State.clipPlace_page (s : State) (holder serial page : Nat) : (s.clipPlace holder serial page).2 = page % 64 := by
  unfold State.clipPlace
  split <;> rfl

theorem State.askRefill_none {v : VoiceId} {y : Voice} (h : s.voice v = some y) (hw : y.wants = none) :
    s.askRefill v = s := by
  simp only [State.askRefill, h, hw]
  split
  · rename_i he
    cases he
  · rfl

theorem State.askRefill_clip {v : VoiceId} {y : Voice} {a h k n len : Nat} {f : SoundFormat}
    {off loops done pos : Nat} {second : Bool} {page : Nat} (hv : s.voice v = some y)
    (hp : y.sound.part = .clip a h k n len f off loops done pos) (hr : y.refill = none)
    (hw : y.wants = some (second, page)) : s.askRefill v =
      s.setVoice v (some { y with refill := some ⟨second, page, (s.clipPlace h k page).1, (s.clipPlace h k page).2⟩ }) := by
  simp only [State.askRefill, hv, hp, hr, hw]

/-- A voice with a new sound, before it asks for a refill. -/
def State.seated (s : State) (v : VoiceId) (x : Sound) : State :=
  s.setSound { s.sound with
    voices := s.sound.voices.set v (some (newVoice x s.sound.nextOrder)), nextOrder := s.sound.nextOrder + 1 }

theorem State.takeVoice_eq_seated (s : State) (v : VoiceId) (x : Sound) :
    s.takeVoice v x = (s.seated v x).askRefill v := rfl

theorem State.seated_voice (s : State) (v : VoiceId) (x : Sound) (w : VoiceId) :
    (s.seated v x).voice w = if w = v then some (newVoice x s.sound.nextOrder) else s.voice w :=
  PerVoice.get_set _ _ _ _

/-- A sound that takes a voice has just taken it, and no other voice differs (R124, R129). -/
theorem State.takeVoice_voice (s : State) (v : VoiceId) (x : Sound) :
    (∃ y, (s.takeVoice v x).voice v = some y ∧ y.JustTaken x s.sound.nextOrder) ∧
    ∀ w, w ≠ v → (s.takeVoice v x).voice w = s.voice w := by
  have hv : (s.seated v x).voice v = some (newVoice x s.sound.nextOrder) := by rw [State.seated_voice, if_pos rfl]
  rw [State.takeVoice_eq_seated]
  refine ⟨?_, fun w hw => by rw [State.askRefill_voice_ne hw, State.seated_voice, if_neg hw]⟩
  cases hp : x.part with
  | tone f w r ph =>
    rw [State.askRefill_none hv (newVoice_wants_tone hp _)]
    exact ⟨_, hv, by simp [Voice.JustTaken, newVoice, hp, SoundPart.isClip]⟩
  | clip a h k n len f off loops done pos =>
    rw [State.askRefill_clip hv hp rfl (newVoice_wants_clip hp _)]
    exact ⟨_, State.setVoice_voice_self _ _ _,
      by simp [Voice.JustTaken, newVoice, hp, SoundPart.isClip, starveSamples, State.clipPlace_page]⟩

/-- Taking a voice changes the Sound Unit alone, and neither its queue nor the volumes. -/
theorem State.takeVoice_eq (s : State) (v : VoiceId) (x : Sound) :
    ∃ u, s.takeVoice v x = s.setSound u ∧ u.queue = s.sound.queue ∧ u.volumes = s.sound.volumes := by
  obtain ⟨vs, h⟩ := (s.seated v x).askRefill_eq v
  exact ⟨_, h, rfl, rfl⟩

/-! ### The queue heads take the FREE voices (R125) -/

theorem State.fillVoice_stays {v : VoiceId} (h : s.voice v ≠ none ∨ s.sound.queue = []) : s.fillVoice v = s := by
  unfold State.fillVoice
  split
  · rename_i hv hq
    rcases h with h | h
    · exact absurd hv h
    · rw [hq] at h
      cases h
  · rfl

theorem State.fillVoice_takes {v : VoiceId} (h : s.voice v = none) {x : Sound} {rest : List Sound}
    (hq : s.sound.queue = x :: rest) : s.fillVoice v = (s.setSound { s.sound with queue := rest }).takeVoice v x := by
  simp only [State.fillVoice, h, hq]
  rfl

/-- From `s` to `t` queue heads have taken FREE voices, those of `vs` at least while a sound waits. -/
structure State.Filled (vs : List VoiceId) (s t : State) : Prop where
  sounds : s.Sounds t
  volumes : t.sound.volumes = s.sound.volumes
  queue : ∃ j, t.sound.queue = s.sound.queue.drop j
  kept : ∀ v y, s.voice v = some y → t.voice v = some y
  taken : ∀ v y, t.voice v = some y → s.voice v = some y ∨ ∃ x ∈ s.sound.queue, ∃ order, y.JustTaken x order
  full : ∀ v ∈ vs, t.voice v = none → t.sound.queue = []

theorem State.Filled.refl (s : State) : State.Filled [] s s :=
  ⟨.refl s, rfl, ⟨0, rfl⟩, fun _ _ h => h, fun _ _ h => .inl h, by simp⟩

theorem State.Filled.cons {vs ws : List VoiceId} (h : State.Filled vs s t) (k : State.Filled ws t u) :
    State.Filled (vs ++ ws) s u := by
  obtain ⟨i, hi⟩ := h.queue
  obtain ⟨j, hj⟩ := k.queue
  refine ⟨h.sounds.trans k.sounds, k.volumes.trans h.volumes, ⟨i + j, by rw [hj, hi, List.drop_drop]⟩,
    fun v y hv => k.kept v y (h.kept v y hv), fun v y hv => ?_, fun v hv hn => ?_⟩
  · rcases k.taken v y hv with hv | ⟨x, hx, hy⟩
    · exact h.taken v y hv
    · exact .inr ⟨x, List.mem_of_mem_drop (hi ▸ hx), hy⟩
  · rcases List.mem_append.mp hv with hv | hv
    · have ht : t.voice v = none := by
        cases hy : t.voice v with
        | none => rfl
        | some y => rw [k.kept v y hy] at hn; cases hn
      rw [hj, h.full v hv ht, List.drop_nil]
    · exact k.full v hv hn

theorem State.Filled.fillVoice (s : State) (v : VoiceId) : State.Filled [v] s (s.fillVoice v) := by
  cases hv : s.voice v with
  | some y =>
    rw [State.fillVoice_stays (.inl (by simp [hv]))]
    exact ⟨.refl s, rfl, ⟨0, rfl⟩, fun _ _ h => h, fun _ _ h => .inl h, by simp [hv]⟩
  | none =>
    cases hq : s.sound.queue with
    | nil =>
      rw [State.fillVoice_stays (.inr hq)]
      exact ⟨.refl s, rfl, ⟨0, rfl⟩, fun _ _ h => h, fun _ _ h => .inl h, fun _ _ _ => hq⟩
    | cons x rest =>
      rw [State.fillVoice_takes hv hq]
      obtain ⟨⟨y, hy, ht⟩, hne⟩ := State.takeVoice_voice (s.setSound { s.sound with queue := rest }) v x
      obtain ⟨snd, he, h1, h2⟩ := State.takeVoice_eq (s.setSound { s.sound with queue := rest }) v x
      have hqueue : ((s.setSound { s.sound with queue := rest }).takeVoice v x).sound.queue = rest := by
        rw [he]
        exact h1
      refine ⟨?_, ?_, ⟨1, by rw [hqueue, hq]; rfl⟩, fun w z hw => ?_, fun w z hw => ?_, fun w hw hn => ?_⟩
      · rw [he]
        exact .setSound s snd
      · rw [he]
        exact h2
      · have hwv : w ≠ v := fun e => by rw [e, hv] at hw; cases hw
        exact (hne w hwv).trans hw
      · by_cases hwv : w = v
        · rw [hwv, hy] at hw
          cases hw
          exact .inr ⟨x, by rw [hq]; exact List.mem_cons_self, _, ht⟩
        · rw [hne w hwv] at hw
          exact .inl hw
      · rw [List.mem_singleton.mp hw, hy] at hn
        cases hn

theorem State.Filled.foldl (vs : List VoiceId) (s : State) : State.Filled vs s (vs.foldl State.fillVoice s) := by
  induction vs generalizing s with
  | nil => exact .refl s
  | cons v rest ih => exact (State.Filled.fillVoice s v).cons (ih _)

/-! ### One act ends every sound of a kind (R133) -/

theorem mem_allVoices (v : VoiceId) : v ∈ allVoices := by cases v <;> decide

/-- The entry of a voice ends where `p` names its sound. -/
def State.endVoiceIf (p : Sound → Bool) (o : EndOutcome) (s : State) (v : VoiceId) : State :=
  match s.voice v with
  | some x => if p x.sound then s.endVoice v o else s
  | none => s

theorem State.Sounds.endVoiceIf (p : Sound → Bool) (o : EndOutcome) (s : State) (v : VoiceId) :
    s.Sounds (s.endVoiceIf p o v) ∧ (s.endVoiceIf p o v).sound =
      { s.sound with voices := s.sound.voices.set v ((s.voice v).filter fun y => !p y.sound) } := by
  unfold State.endVoiceIf
  cases hv : s.voice v with
  | none =>
    refine ⟨.refl s, ?_⟩
    have : s.sound.voices.set v none = s.sound.voices := by
      rw [← hv]
      exact PerVoice.set_get _ _
    simp [this]
  | some x =>
    by_cases hp : p x.sound = true
    · simp only [hp, if_true, Option.filter_some, Bool.not_true]
      exact State.Sounds.endVoice hv o
    · have : s.sound.voices.set v (some x) = s.sound.voices := by
        rw [← hv]
        exact PerVoice.set_get _ _
      simp only [hp, Option.filter_some]
      exact ⟨.refl s, by simp [this]⟩

theorem State.Sounds.foldl_endVoiceIf (p : Sound → Bool) (o : EndOutcome) (vs : List VoiceId) (s : State) :
    s.Sounds (vs.foldl (fun t v => t.endVoiceIf p o v) s) ∧
    ∃ ws, (vs.foldl (fun t v => t.endVoiceIf p o v) s).sound = { s.sound with voices := ws } ∧
      ∀ v, ws.get v = if v ∈ vs then (s.voice v).filter (fun y => !p y.sound) else s.voice v := by
  induction vs generalizing s with
  | nil => exact ⟨.refl s, s.sound.voices, rfl, fun _ => rfl⟩
  | cons v rest ih =>
    obtain ⟨h1, h2⟩ := State.Sounds.endVoiceIf p o s v
    obtain ⟨k1, ws, k2, k3⟩ := ih (s.endVoiceIf p o v)
    refine ⟨h1.trans k1, ws, by rw [List.foldl_cons, k2, h2], fun w => ?_⟩
    have hw : (s.endVoiceIf p o v).voice w = if w = v then (s.voice v).filter (fun y => !p y.sound) else s.voice w := by
      rw [State.voice, h2]
      exact PerVoice.get_set _ _ _ _
    rw [k3, hw]
    by_cases hwv : w = v
    · subst hwv
      simp [Option.filter_filter]
    · simp [hwv]

theorem State.Sounds.foldl_endWaiting (o : EndOutcome) (xs : List Sound) (s : State) :
    s.Sounds (xs.foldl (fun t x => t.endWaiting x o) s) ∧ (xs.foldl (fun t x => t.endWaiting x o) s).sound =
      { s.sound with queue := s.sound.queue.filter (fun y => decide (y ∉ xs)) } := by
  induction xs generalizing s with
  | nil => exact ⟨.refl s, by simp⟩
  | cons x rest ih =>
    obtain ⟨h1, h2⟩ := State.Sounds.endWaiting s x o
    obtain ⟨k1, k2⟩ := ih (s.endWaiting x o)
    refine ⟨h1.trans k1, ?_⟩
    rw [List.foldl_cons, k2, h2]
    simp [List.filter_filter, not_or, Bool.and_comm]

/-- What one act that ends every sound `p` names leaves: the voices it does not name, the queue without those it names,
and queue heads in FREE voices (R125, R133). -/
theorem State.endSounds_filled (s : State) (p : Sound → Bool) (o : EndOutcome) : ∃ u : State, s.Sounds u ∧
    u.sound.volumes = s.sound.volumes ∧ u.sound.queue = s.sound.queue.filter (fun x => !p x) ∧
    (∀ v, u.voice v = (s.voice v).filter (fun y => !p y.sound)) ∧ State.Filled allVoices u (s.endSounds p o) := by
  obtain ⟨h1, ws, h2, h3⟩ := State.Sounds.foldl_endVoiceIf p o allVoices s
  generalize ha : allVoices.foldl (fun t v => t.endVoiceIf p o v) s = a at h1 h2
  obtain ⟨k1, k2⟩ := State.Sounds.foldl_endWaiting o (a.sound.queue.filter p) a
  refine ⟨_, h1.trans k1, by rw [k2, h2], ?_, fun v => ?_, ?_⟩
  · rw [k2, h2]
    refine List.filter_congr fun x hx => ?_
    simp [hx]
  · rw [State.voice, k2, h2]
    exact (h3 v).trans (if_pos (mem_allVoices v))
  · have he : s.endSounds p o = allVoices.foldl State.fillVoice
        ((a.sound.queue.filter p).foldl (fun t x => t.endWaiting x o) a) := by
      rw [← ha]
      rfl
    rw [he]
    exact .foldl allVoices _

end

end Sys2Proof.Machine

/-! SUPPORT. The session of a link that goes DOWN (R156 to R159), and the stages of `goDown` put together. -/

namespace Sys2Proof.Machine

/-! ### The end of a session (R159) -/

section Session
variable {s t u : State}

/-- `t` is `s` with other Link Units and another Media Controller record. -/
def State.SessionOnly (s t : State) : Prop := t = { s with links := t.links, media := t.media }

theorem State.SessionOnly.soundOnly (h : s.SessionOnly t) : s.SoundOnly t := by
  unfold State.SessionOnly at h
  unfold State.SoundOnly
  rw [h]

theorem State.SessionOnly.sound (h : s.SessionOnly t) : t.sound = s.sound := by rw [h]

theorem State.SessionOnly.assets (h : s.SessionOnly t) : t.assets = s.assets := by rw [h]

/-- The blocks that the end of the session `x` gives back. -/
def State.sessionBlocksOf (s : State) (x : Session) : List Nat :=
  x.reserved.filter (fun b => decide ((s.block b).state = .session))

/-- The Media Controller without its session. -/
def Media.sessionGone (m : Media) : Media :=
  Media.classify { m.withdraw FlashOp.ofSession with
    session := none, records := m.records.filter (fun r => decide (r.asker ≠ .commit)) }

theorem State.endSession_eq {x : Session} (h : s.media.session = some x) (j : Judgement) : ∃ u : State, s.LinksOnly u ∧
    s.endSession j = (u.setWork s.media.sessionGone).setBlockStates (s.sessionBlocksOf x) .freeDirty := by
  have hu : s.LinksOnly (s.sessionTickets.foldl (fun t k => t.refuse k j) s) :=
    (State.LinksOnly.refl s).foldl _ fun _ k hv => hv.refuse k j
  refine ⟨_, hu, ?_⟩
  rw [← hu.media]
  simp only [State.endSession, h]
  rfl

/-- Nothing of the session waits once it is gone, and nothing new does. -/
theorem Media.sessionGone_ops {m : Media} {o : FlashOp} (h : o ∈ m.sessionGone.class2 ++ m.sessionGone.class4) :
    o ∈ m.class2 ++ m.class4 ∧ o.ofSession = false := by
  unfold Media.sessionGone at h
  rw [Media.mem_classify] at h
  simp only [Media.withdraw, List.mem_append, List.mem_filter, Bool.not_eq_true'] at h ⊢
  rcases h with ⟨h1, h2⟩ | ⟨h1, h2⟩
  · exact ⟨.inl h1, h2⟩
  · exact ⟨.inr h1, h2⟩

theorem Media.sessionGone_session (m : Media) : m.sessionGone.session = none := by
  unfold Media.sessionGone
  rw [Media.classify_eq]

theorem Media.sessionGone_refresh (m : Media) : m.sessionGone.refresh = m.refresh := by
  unfold Media.sessionGone
  rw [Media.classify_eq]
  rfl

theorem Media.sessionGone_blocks (m : Media) : m.sessionGone.blocks = m.blocks := by
  unfold Media.sessionGone
  rw [Media.classify_eq]
  rfl

/-- What the end of the session `x` changes: the Link Units and the Media Controller, where nothing of it waits any more
and its blocks are FREE-DIRTY. -/
theorem State.endSession_effect {x : Session} (h : s.media.session = some x) (j : Judgement) :
    s.SessionOnly (s.endSession j) ∧ (s.endSession j).media.session = none ∧
    (∀ o ∈ (s.endSession j).media.class2 ++ (s.endSession j).media.class4,
      o ∈ s.media.class2 ++ s.media.class4 ∧ o.ofSession = false) ∧
    ((∀ r, s.media.refresh = some r → r.old ∉ s.sessionBlocksOf x) → ∀ k, (s.endSession j).block k =
      if k ∈ s.sessionBlocksOf x then { s.block k with state := .freeDirty } else s.block k) := by
  obtain ⟨u, hu, he⟩ := State.endSession_eq h j
  have hk := State.kept_setBlockStates (u.setWork s.media.sessionGone) (s.sessionBlocksOf x) .freeDirty
  have hm : (u.setWork s.media.sessionGone).MediaOnly (s.endSession j) := by
    rw [he]
    exact (State.MediaOnly.refl _).setBlockStates _ _
  rw [← he] at hk
  refine ⟨?_, hk.session.trans s.media.sessionGone_session, fun o ho => Media.sessionGone_ops (hk.ops o ho),
    fun hr k => ?_⟩
  · unfold State.SessionOnly
    rw [hm.eq]
    unfold State.LinksOnly at hu
    rw [hu]
    rfl
  · rw [he]
    have hb := (State.setBlockStates_block (s := u.setWork s.media.sessionGone) (s.sessionBlocksOf x) .freeDirty
      fun r hr' => hr r (s.media.sessionGone_refresh ▸ hr')).2 k
    have hbk : (u.setWork s.media.sessionGone).block k = s.block k :=
      congrArg (fun t => t.get Block.unscanned k) s.media.sessionGone_blocks
    rw [hb, hbk]

theorem FlashOp.not_ofSession {o : FlashOp} (h : o.ofSession = false) :
    match o.work with
    | .sessionPage .. => False
    | .sessionErase _ => False
    | .copyRead .. => False
    | .copyProgram .. => False
    | _ => True := by
  unfold FlashOp.ofSession at h
  split <;> simp_all

/-- Responses awaited from a session that is kept were awaited before. -/
theorem State.sessionTickets_kept (h : s.media.Kept t.media) : ∀ k ∈ t.sessionTickets, k ∈ s.sessionTickets := by
  intro k hk
  unfold State.sessionTickets at hk ⊢
  rw [h.session] at hk
  split at hk
  · cases hk
  · rename_i x hx
    simp only [List.mem_append] at hk ⊢
    refine hk.imp_left fun hk => hk.imp_left fun hk => ?_
    obtain ⟨ks, hks, hkk⟩ := List.mem_flatten.mp hk
    obtain ⟨o, ho, rfl⟩ := List.mem_map.mp hks
    obtain ⟨y, hy, hyk⟩ := h.awaits o ho k hkk
    exact List.mem_flatten.mpr ⟨_, List.mem_map_of_mem hy, hyk⟩

/-- Whether the session of link `l` ends with it: it is in OPEN (R159). -/
def Session.endsWith (l : Link) (x : Session) : Prop := x.link = l ∧ x.closing = none

theorem State.mediaDown_ends {l : Link} {x : Session} (h : s.media.session = some x) (hx : x.endsWith l) :
    s.mediaDown l = s.endSession .sequenceError := by
  simp only [State.mediaDown, h]
  exact if_pos hx

theorem State.mediaDown_stays {l : Link} (h : ∀ x, s.media.session = some x → ¬ x.endsWith l) : s.mediaDown l = s := by
  unfold State.mediaDown
  split
  · rename_i x hx
    exact if_neg (h x hx)
  · rfl

theorem State.SessionOnly.mediaDown (s : State) (l : Link) : s.SessionOnly (s.mediaDown l) := by
  unfold State.mediaDown
  split
  · rename_i x hx
    split
    · exact (State.endSession_effect hx _).1
    · rfl
  · rfl

end Session

/-! ### The stages of `goDown` -/

section Down
variable (s : State) (l : Link)

/-- The hub with a link's unit cleared. -/
def State.unlinked : State := s.setLink l ((s.link l).cleared false)

/-- The releases, the views at reset and the schedules at reset, as changes of records. -/
theorem State.downRecords_eq : ∃ u : State, State.ViewsOf l ((s.unlinked l).releaseAll l) u ∧
    (∀ c, u.view l c = .reset (((s.unlinked l).releaseAll l).valueCount c)) ∧
    s.downRecords l = u.recomputeAll.clearReports l := by
  obtain ⟨u, h1, h2, h3⟩ := ((s.unlinked l).releaseAll l).viewsDown_eq l
  refine ⟨u, h1, h2, ?_⟩
  rw [← h3]
  rfl

end Down

end Sys2Proof.Machine

/-! PROOF of O8: a link goes UP and DOWN (R3, R14, R36, R58, R59, R94, R103, R105, R111, R122, R135, R137, R140, R159). -/

namespace Sys2Proof.Machine

section Records
variable (s : State) (l : Link)

/-! ### The records of chapters 1 to 7 -/

/-- What the blocks of chapters 1 to 7 leave of the other records. -/
theorem State.downRecords_frame :
    (s.downRecords l).pins = s.pins ∧ (s.downRecords l).brickSet = s.brickSet ∧ (s.downRecords l).sound = s.sound ∧
    (s.downRecords l).assets = s.assets ∧ (s.downRecords l).media = s.media := by
  obtain ⟨u, ⟨h1, _⟩, _, h2⟩ := s.downRecords_eq l
  have hb := State.ClaimsOnly.releaseAll (s.unlinked l) l
  unfold State.ClaimsOnly at hb
  rw [h2, h1, hb]
  exact ⟨rfl, rfl, rfl, rfl, rfl⟩

theorem State.downRecords_motion :
    (s.downRecords l).motors = ((s.unlinked l).releaseAll l).motors ∧
    (s.downRecords l).pairs = ((s.unlinked l).releaseAll l).pairs ∧
    (s.downRecords l).links = ((s.unlinked l).releaseAll l).links ∧
    (s.downRecords l).holderI = ((s.unlinked l).releaseAll l).holderI := by
  obtain ⟨u, ⟨h1, _⟩, _, h2⟩ := s.downRecords_eq l
  rw [h2, h1]
  exact ⟨rfl, rfl, rfl, rfl⟩

theorem State.downRecords_schedules :
    (s.downRecords l).watches = s.watches.set l .empty ∧ (s.downRecords l).subs = s.subs.set l 0 ∧
    (s.downRecords l).scheds = s.scheds.set l .reset := by
  obtain ⟨u, ⟨h1, _⟩, _, h2⟩ := s.downRecords_eq l
  have hb := State.ClaimsOnly.releaseAll (s.unlinked l) l
  unfold State.ClaimsOnly at hb
  rw [h2, h1, hb]
  exact ⟨rfl, rfl, rfl⟩

theorem PortRec.freed_valueCount (r : PortRec) : (r.freed l).valueCount = r.valueCount := rfl

theorem State.releaseAll_valueCount (t : State) (c : Chan) : (t.releaseAll l).valueCount c = t.valueCount c := by
  cases c with
  | internal => rfl
  | port p => rw [State.valueCount_port, State.releaseAll_port, PortRec.freed_valueCount, State.valueCount_port]

theorem State.downRecords_views :
    (∀ c, (s.downRecords l).view l c = .reset (s.valueCount c)) ∧
    ∀ k, k ≠ l → (s.downRecords l).views.get k = s.views.get k := by
  obtain ⟨u, ⟨h1, h3⟩, h4, h2⟩ := s.downRecords_eq l
  have hb := State.ClaimsOnly.releaseAll (s.unlinked l) l
  have hv : (s.downRecords l).views = u.views := by rw [h2]; rfl
  refine ⟨fun c => ?_, fun k hk => ?_⟩
  · rw [State.view, hv]
    refine (h4 c).trans ?_
    rw [State.releaseAll_valueCount]
    exact congrArg _ (State.valueCount_congr (s := s) (t := s.unlinked l) rfl c)
  · rw [hv, h3 k hk]
    unfold State.ClaimsOnly at hb
    rw [hb]
    rfl

/-- The ports and the shared settings, by the views and the UP links as they stand afterwards. -/
theorem State.downRecords_ports {t : State} (hv : t.views = (s.downRecords l).views)
    (hu : ∀ k, (t.link k).up = ((s.downRecords l).link k).up) (hb : t.brickSet = (s.downRecords l).brickSet) :
    (∀ p, (s.downRecords l).port p = t.recomputed p ((s.port p).freed l)) ∧
    (s.downRecords l).sharedI = t.internalSettings := by
  obtain ⟨u, ⟨h1, _⟩, _, h2⟩ := s.downRecords_eq l
  have hvu : t.views = u.views := by rw [hv, h2]; rfl
  have huu : ∀ k, (t.link k).up = (u.link k).up := fun k => by rw [hu, h2]; rfl
  have hbu : t.brickSet = u.brickSet := by rw [hb, h2]; rfl
  refine ⟨fun p => ?_, ?_⟩
  · have hp : u.ports.get p = (s.port p).freed l := by
      rw [h1]
      exact State.releaseAll_port (s.unlinked l) l p
    have hr : (s.downRecords l).port p = u.recomputed p (u.ports.get p) := by
      rw [h2]
      exact PerPort.get_mapOn_all _ _ p
    rw [hr, hp]
    unfold State.recomputed
    rw [State.sensorInterval_congr hvu huu]
  · rw [State.internalSettings_congr hvu huu hbu, h2]
    rfl

/-! ### The whole act -/

/-- After the schedules only the Sound Unit, the links and the store change. -/
theorem State.goDown_late : ∃ e : State, State.Sounds (s.downRecords l) e ∧
    e = (s.downRecords l).endSounds (fun x => decide (x.link = l)) .stopped ∧
    s.goDown l = ((e.resetVolume l).lockDown l).mediaDown l := by
  obtain ⟨u, h1, _, _, _, h2⟩ := (s.downRecords l).endSounds_filled (fun x => decide (x.link = l)) .stopped
  exact ⟨_, h1.trans h2.sounds, rfl, s.goDown_eq l⟩

end Records

section Late
variable {s t : State} (l : Link)

theorem State.lockDown_eq (s : State) :
    s.lockDown l = { s with assets := { s.assets with lock := freedOf l s.assets.lock } } := by
  unfold State.lockDown freedOf
  split <;> rfl

/-- The hub after the Sound Unit and the Asset Map have torn a link down. -/
theorem State.late_soundOnly (h : s.SoundOnly t) :
    s.SoundOnly (((t.resetVolume l).lockDown l).mediaDown l) := by
  refine (State.SoundOnly.trans h ?_).trans (State.SessionOnly.mediaDown _ l).soundOnly
  rw [State.lockDown_eq]
  rfl

end Late

section GoDown
variable (s : State) (l : Link)

theorem State.goDown_soundOnly : (s.downRecords l).SoundOnly (s.goDown l) := by
  obtain ⟨e, he, _, h⟩ := s.goDown_late l
  rw [h]
  exact State.late_soundOnly l he.only

theorem State.goDown_link_self : (s.goDown l).link l = (s.link l).cleared false := by
  have h := (s.goDown_tells l).link_of_down (l := l) (by simp [LinkUnit.cleared]) (by simp [LinkUnit.cleared, LinkUnit.reset])
  rw [h, State.setLink_link_self]

/-- Which links are UP is settled when the link's unit is cleared. -/
theorem State.goDown_up (k : Link) : ((s.goDown l).link k).up = ((s.downRecords l).link k).up := by
  have h1 : (s.unlinked l).Tells anyLink (s.downRecords l) :=
    ((State.Tells.refl _ _).releaseAll l).of_links (s.downRecords_motion l).2.2.1
  rw [h1.up_eq, (s.goDown_tells l).up_eq]
  rfl

/-- The sounds of the link are gone, queue heads have taken the freed voices, and the volume is 80 (R133, R135, R137). -/
theorem State.goDown_sound : ∃ u : State, u.sound.queue = s.sound.queue.filter (fun x => !decide (x.link = l)) ∧
    (∀ v, u.voice v = (s.voice v).filter fun y => !decide (y.sound.link = l)) ∧
    State.Filled allVoices u ((s.downRecords l).endSounds (fun x => decide (x.link = l)) .stopped) ∧
    (s.goDown l).sound.queue = ((s.downRecords l).endSounds (fun x => decide (x.link = l)) .stopped).sound.queue ∧
    (s.goDown l).sound.voices = ((s.downRecords l).endSounds (fun x => decide (x.link = l)) .stopped).sound.voices ∧
    (s.goDown l).sound.volumes = s.sound.volumes.set l 80 := by
  obtain ⟨u, h1, h2, h3, h4, h5⟩ := (s.downRecords l).endSounds_filled (fun x => decide (x.link = l)) .stopped
  obtain ⟨_, _, hs, _, _⟩ := s.downRecords_frame l
  obtain ⟨e, _, he, h⟩ := s.goDown_late l
  have hsound : (s.goDown l).sound = (e.resetVolume l).sound := by
    rw [h, (State.SessionOnly.mediaDown _ l).sound, State.lockDown_eq]
  rw [← he] at h5 ⊢
  refine ⟨u, by rw [h3, hs], fun v => by rw [h4, State.voice, hs, State.voice], h5, by rw [hsound]; rfl,
    by rw [hsound]; rfl, ?_⟩
  rw [hsound]
  show e.sound.volumes.set l 80 = _
  rw [h5.volumes, h2, hs]

theorem State.goDown_lock : (s.goDown l).assets.lock = freedOf l s.assets.lock := by
  obtain ⟨e, he, _, h⟩ := s.goDown_late l
  obtain ⟨_, _, _, ha, _⟩ := s.downRecords_frame l
  rw [h, (State.SessionOnly.mediaDown _ l).assets, State.lockDown_eq]
  show freedOf l e.assets.lock = _
  rw [he.unpins.lock, ha]

/-- The hub just before the Media Controller tears the link down: its store comes from that of before by dropped pins. -/
theorem State.goDown_store : ∃ g : State, s.goDown l = g.mediaDown l ∧ s.media.Kept g.media ∧
    (s.RefreshLive → g.media.refresh = s.media.refresh ∧
      ∀ k, (∀ x ∈ s.assets.retired, k ∉ versionBlocks x.version.image) → g.block k = s.block k) := by
  obtain ⟨e, he, _, h⟩ := s.goDown_late l
  obtain ⟨_, _, _, ha, hm⟩ := s.downRecords_frame l
  have hu : s.Unpins e := (State.Unpins.of_eq ha hm).trans he.unpins
  have hg : ((e.resetVolume l).lockDown l).media = e.media := by rw [State.lockDown_eq]; rfl
  refine ⟨_, h, by rw [hg]; exact hu.kept, fun hs => ?_⟩
  obtain ⟨h1, h2⟩ := hu.blocks hs
  refine ⟨by rw [hg]; exact h1, fun k hk => ?_⟩
  rw [State.block, hg]
  exact h2 k hk

theorem State.goDown_session_stays (h : ∀ x, s.media.session = some x → ¬ x.endsWith l) :
    (s.goDown l).media.session = s.media.session := by
  obtain ⟨g, hg, hk, _⟩ := s.goDown_store l
  rw [hg, State.mediaDown_stays fun x hx => h x (hk.session ▸ hx)]
  exact hk.session

theorem State.goDown_session_ends {x : Session} (h : s.media.session = some x) (hx : x.endsWith l) :
    (s.goDown l).media.session = none ∧ ∀ o ∈ (s.goDown l).media.class2 ++ (s.goDown l).media.class4,
      o ∈ s.media.class2 ++ s.media.class4 ∧ o.ofSession = false := by
  obtain ⟨g, hg, hk, _⟩ := s.goDown_store l
  obtain ⟨_, h1, h2, _⟩ := State.endSession_effect (hk.session.trans h) .sequenceError
  rw [hg, State.mediaDown_ends (hk.session.trans h) hx]
  exact ⟨h1, fun o ho => ⟨hk.ops o (h2 o ho).1, (h2 o ho).2⟩⟩

/-- The blocks of a session that ends with the link are FREE-DIRTY, and no other block outside the retired versions
differs, where a refresh copies a LIVE block (R151, R159). -/
theorem State.goDown_block (hs : s.RefreshLive) {k : Nat}
    (hk : ∀ x ∈ s.assets.retired, k ∉ versionBlocks x.version.image) :
    ((∃ x, s.media.session = some x ∧ x.endsWith l ∧ k ∈ x.reserved) ∧ (s.block k).state = .session →
      (s.goDown l).block k = { s.block k with state := .freeDirty }) ∧
    (¬ ((∃ x, s.media.session = some x ∧ x.endsWith l ∧ k ∈ x.reserved) ∧ (s.block k).state = .session) →
      (s.goDown l).block k = s.block k) := by
  obtain ⟨g, hg, hkept, hb⟩ := s.goDown_store l
  obtain ⟨hr, hb⟩ := hb hs
  by_cases he : ∃ x, s.media.session = some x ∧ x.endsWith l
  · obtain ⟨x, hx, hxl⟩ := he
    have hlive : ∀ r, g.media.refresh = some r → r.old ∉ g.sessionBlocksOf x := fun r hr' hm => by
      obtain ⟨h1, h2⟩ := hs r (hr ▸ hr')
      have h3 := (List.mem_filter.mp hm).2
      rw [hb _ h2, h1] at h3
      exact absurd h3 (by decide)
    have ht := (State.endSession_effect (hkept.session.trans hx) .sequenceError).2.2.2 hlive k
    rw [hg, State.mediaDown_ends (hkept.session.trans hx) hxl, ht]
    have hmem : k ∈ g.sessionBlocksOf x ↔ k ∈ x.reserved ∧ (s.block k).state = .session := by
      rw [State.sessionBlocksOf, List.mem_filter, hb k hk, decide_eq_true_iff]
    have hone : (∃ y, s.media.session = some y ∧ y.endsWith l ∧ k ∈ y.reserved) ↔ k ∈ x.reserved :=
      ⟨fun ⟨y, hy, _, hky⟩ => by rw [hx] at hy; cases hy; exact hky, fun hkx => ⟨x, hx, hxl, hkx⟩⟩
    rw [hb k hk, hone, ← hmem]
    exact ⟨fun h => if_pos h, fun h => if_neg h⟩
  · have hn : ∀ x, s.media.session = some x → ¬ x.endsWith l := fun x hx hxl => he ⟨x, hx, hxl⟩
    rw [hg, State.mediaDown_stays fun x hx => hn x (hkept.session ▸ hx)]
    exact ⟨fun ⟨⟨x, hx, hxl, _⟩, _⟩ => absurd hxl (hn x hx), fun _ => hb k hk⟩

/-- No other link is told, where its ports agree and a session of the link awaits responses of that link alone. -/
theorem State.goDown_link_ne (ha : s.ChannelsAgree)
    (ht : ∀ x, s.media.session = some x → x.link = l → ∀ k ∈ s.sessionTickets, k.link = l) {k : Link} (hk : k ≠ l) :
    (s.goDown l).link k = s.link k := by
  have h1 : (s.unlinked l).Tells (· = l) (s.downRecords l) :=
    (State.releaseAll_freed (u := s.unlinked l) ha rfl rfl rfl).1.of_links (s.downRecords_motion l).2.2.1
  have h2 : (s.unlinked l).Tells (· = l) (s.downSound l) := by
    unfold State.downSound
    exact State.Tells.of_links (h1.endSounds (fun x hx => by simpa using hx) .stopped) (State.resetVolume_links _ l)
  have hkept : s.media.Kept ((s.downSound l).lockDown l).media := by
    obtain ⟨e, he, hee, _⟩ := s.goDown_late l
    obtain ⟨_, _, _, hra, hrm⟩ := s.downRecords_frame l
    have hm : ((s.downSound l).lockDown l).media = e.media := by
      rw [State.lockDown_eq]
      unfold State.downSound
      rw [← hee]
      rfl
    rw [hm]
    exact ((State.Unpins.of_eq hra hrm).trans he.unpins).kept
  have h3 : (s.unlinked l).Tells (· = l) (s.goDown l) := by
    rw [State.goDown_eq]
    refine State.Tells.mediaDown (h2.of_links (State.lockDown_links _ l)) fun x hx hxl tk htk => ?_
    exact ht x (hkept.session ▸ hx) hxl tk (State.sessionTickets_kept hkept tk htk)
  rw [h3.link_of_not hk, State.unlinked, State.setLink_link, if_neg hk]

end GoDown

end Sys2Proof.Machine

/-! PROOF of O8: LINK UP, HOLD and LINK DOWN. -/

namespace Sys2Proof.Machine

/-! ### LINK UP and the lines -/

section Lines
variable {s : State} {l : Link}

theorem State.unlessHeld_free (h : s.hub.held = false) (f : State → State) : s.unlessHeld f = f s :=
  if_neg (by simp [h])

/-- The hub with the enable line of a link at a level. -/
def State.enableLine (s : State) (l : Link) (level : Bool) : State :=
  s.setPins { s.pins with enable := s.pins.enable.set l level }

theorem exec_linkUp_down (h : s.hub.held = false) (hu : (s.link l).up = false) :
    exec (.linkUp l) s = .next ((s.enableLine l true).goUp l) := by
  refine congrArg Host.Outcome.next ((State.unlessHeld_free (s := s.enableLine l true) h _).trans (if_neg ?_))
  simpa [State.enableLine] using hu

theorem exec_linkUp_up (h : s.hub.held = false) (hu : (s.link l).up = true) :
    exec (.linkUp l) s = .next (s.enableLine l true) :=
  congrArg Host.Outcome.next ((State.unlessHeld_free (s := s.enableLine l true) h _).trans (if_pos hu))

theorem exec_linkDown_down (h : s.hub.held = false) (hu : (s.link l).up = false) :
    exec (.linkDown l) s = .next (s.enableLine l false) := by
  refine congrArg Host.Outcome.next ((State.unlessHeld_free (s := s.enableLine l false) h _).trans (if_neg ?_))
  simpa [State.enableLine] using hu

theorem exec_linkDown_up (h : s.hub.held = false) (hu : (s.link l).up = true)
    (hr : ¬ (s.hub.resetPending = true ∧ l = .pl)) :
    exec (.linkDown l) s = .next ((s.enableLine l false).goDown l) := by
  refine congrArg Host.Outcome.next ((State.unlessHeld_free (s := s.enableLine l false) h _).trans ?_)
  exact (if_pos hu).trans (if_neg hr)

theorem State.goUp_link (s : State) (l k : Link) :
    (s.goUp l).link k = if k = l then (s.link l).cleared true else s.link k := s.setLink_link l k _

theorem State.goUp_sched (s : State) (l k : Link) :
    (s.goUp l).sched k = if k = l then (s.sched l).start s.now else s.sched k := PerLink.get_set _ _ _ _

theorem Scheduler.start_queue (x : Scheduler) (now : Word32) (q : QueueId) :
    (x.start now).queues.get q = { x.queues.get q with origin := some now } := by cases q <;> rfl

end Lines

/-! ### LINK DOWN, record by record -/

section Down
variable (s : State) (l : Link)

theorem State.recomputed_other {t : State} {p : Port} {r : PortRec}
    (h : r.state ≠ .active ∨ r.device.map (fun d => d.kind) ≠ some .sensor) : t.recomputed p r = r := by
  have hs : r.senses = false := by
    rcases h with h | h
    · simp [PortRec.senses, h]
    · simp [PortRec.senses, h]
  unfold State.recomputed
  rw [hs]
  rfl

/-- An ACTIVE SENSOR's source interval and what is sent of it (R83). -/
theorem State.recomputed_sensor (t : State) (p : Port) {r : PortRec} {d : DeviceRecord} {m : Nat} {x : ModeRecord}
    (ha : r.state = .active) (hd : r.device = some d) (hk : d.kind = .sensor) (hm : r.mode = some m)
    (hx : d.modes[m]? = some x) : t.recomputed p r = { r with
      interval := some (t.sensorInterval p x.minInterval), sentInterval := some (t.sensorInterval p x.minInterval)
      sent := if r.sentInterval = some (t.sensorInterval p x.minInterval) then r.sent
        else [.setInterval (t.sensorInterval p x.minInterval / 1000)] } := by
  have hs : r.senses = true := by simp [PortRec.senses, ha, hd, hk]
  have hr : r.modeRecord = some x := by simp [PortRec.modeRecord, hd, hm, hx]
  unfold State.recomputed
  rw [hs, hr]
  unfold PortRec.takeInterval
  dsimp only [Option.map_some, Option.getD_some, if_true]
  by_cases he : r.sentInterval = some (t.sensorInterval p x.minInterval)
  · rw [if_pos rfl, if_pos he, if_pos he, ← he]
  · rw [if_pos rfl, if_neg he, if_neg he]

theorem State.goDown_ports :
    (∀ p, (s.goDown l).port p = (s.goDown l).recomputed p ((s.port p).freed l)) ∧
    (s.goDown l).sharedI = (s.goDown l).internalSettings := by
  have hl := s.goDown_soundOnly l
  unfold State.SoundOnly at hl
  have hv : (s.goDown l).views = (s.downRecords l).views := by rw [hl]
  have hb : (s.goDown l).brickSet = (s.downRecords l).brickSet := by rw [hl]
  obtain ⟨h1, h2⟩ := s.downRecords_ports l hv (s.goDown_up l) hb
  have hp : (s.goDown l).ports = (s.downRecords l).ports := by rw [hl]
  have hi : (s.goDown l).sharedI = (s.downRecords l).sharedI := by rw [hl]
  exact ⟨fun p => (congrArg (fun ps => ps.get p) hp).trans (h1 p), hi.trans h2⟩

theorem State.recomputed_holder (t : State) (p : Port) (r : PortRec) : (t.recomputed p r).holder = r.holder := by
  unfold State.recomputed
  split
  · unfold PortRec.takeInterval
    split <;> rfl
  · rfl

/-- The records that neither the Sound Unit nor the store touches. -/
theorem State.goDown_records :
    (s.goDown l).pins = s.pins ∧ (s.goDown l).holderI = freedOf l s.holderI ∧
    (s.goDown l).watches = s.watches.set l .empty ∧ (s.goDown l).subs = s.subs.set l 0 ∧
    (s.goDown l).scheds = s.scheds.set l .reset ∧ (s.goDown l).views = (s.downRecords l).views ∧
    (s.goDown l).motors = ((s.unlinked l).releaseAll l).motors ∧
    (s.goDown l).pairs = ((s.unlinked l).releaseAll l).pairs := by
  have hl := s.goDown_soundOnly l
  unfold State.SoundOnly at hl
  obtain ⟨hp, _⟩ := s.downRecords_frame l
  obtain ⟨hm, hq, _, hh⟩ := s.downRecords_motion l
  obtain ⟨hw, hsu, hsc⟩ := s.downRecords_schedules l
  have hi : ((s.unlinked l).releaseAll l).holderI = freedOf l s.holderI := State.releaseAll_holderI (s.unlinked l) l
  generalize s.goDown l = t at hl ⊢
  generalize s.downRecords l = r at hl hp hm hq hh hw hsu hsc ⊢
  rw [hl]
  exact ⟨hp, hh.trans hi, hw, hsu, hsc, rfl, hm, hq⟩

/-- The value count of a channel, with the ways to it written out (R79, R85). -/
theorem State.valueCount_eq (c : Chan) : s.valueCount c = match c with
    | .internal => 6
    | .port p =>
      if (s.port p).state ≠ .active then 1
      else if (s.port p).device.map (fun d => d.kind) = some .sensor then
        ((((s.port p).device.bind (fun d => (s.port p).mode.bind (fun m => d.modes[m]?))).map
          (fun x => x.count)).getD 1)
      else 4 := by
  cases c with
  | internal => rfl
  | port p =>
    rw [State.valueCount_port]
    dsimp only
    generalize s.port p = r
    by_cases ha : r.state = .active
    · by_cases hk : r.device.map (fun d => d.kind) = some .sensor
      · have hm : r.modeRecord = r.device.bind (fun d => r.mode.bind (fun m => d.modes[m]?)) := by
          unfold PortRec.modeRecord
          cases r.device with
          | none => rfl
          | some d => cases r.mode <;> rfl
        rw [if_neg (by simpa using ha), if_pos hk, ← hm]
        simp [PortRec.valueCount, ha, hk]
      · rw [if_neg (by simpa using ha), if_neg hk]
        simp [PortRec.valueCount, ha]
    · simp [PortRec.valueCount, ha]

theorem View.reset_eq (n : Nat) : View.reset n =
    { interval := 0, filter := .none, strength := 1, offsets := List.replicate 8 0, accelRange := 8000
      gyroRange := 2000, stampPort := none, counter := 0, filters := List.replicate 8 ⟨0, 0, false⟩
      output := ⟨List.replicate n 0, 0, 0, List.replicate n false, none, none⟩, fresh := false } := rfl

end Down

/-- The record of a released channel, as the statements write it. -/
theorem Motor.released_eq (m : Motor) : m.released = { m.ended .coast 0 with pair := none } := rfl

section Sums
variable (s : State) (l : Link)

/-- What the voices and the queue hold after a link's DOWN, in the words of R133 and R137. -/
theorem State.goDown_voices :
    (∀ v y, (s.goDown l).voice v = some y → y.sound.link ≠ l) ∧
    (∀ v y, s.voice v = some y → y.sound.link ≠ l → (s.goDown l).voice v = some y) ∧
    (∀ v y, (s.goDown l).voice v = some y →
      s.voice v = some y ∨ ∃ x ∈ s.sound.queue, ∃ order, y.JustTaken x order) ∧
    (∃ j, (s.goDown l).sound.queue = (s.sound.queue.filter (fun x => decide (x.link ≠ l))).drop j) ∧
    (∀ v, (s.goDown l).voice v = none → (s.goDown l).sound.queue = []) := by
  obtain ⟨u, hq, hv, hf, he, hw, _⟩ := s.goDown_sound l
  have hvoice : ∀ v, (s.goDown l).voice v =
      ((s.downRecords l).endSounds (fun x => decide (x.link = l)) .stopped).voice v := fun v =>
    congrArg (fun vs => vs.get v) hw
  generalize (s.downRecords l).endSounds (fun x => decide (x.link = l)) .stopped = e at hf he hvoice
  have hold : ∀ v y, u.voice v = some y → s.voice v = some y ∧ y.sound.link ≠ l := fun v y h => by
    rw [hv, Option.filter_eq_some_iff] at h
    simpa using h
  have hnew : ∀ v y, e.voice v = some y →
      (s.voice v = some y ∧ y.sound.link ≠ l) ∨ ∃ x ∈ u.sound.queue, ∃ order, y.JustTaken x order := fun v y h =>
    (hf.taken v y h).imp_left (hold v y)
  have hin : ∀ x ∈ u.sound.queue, x ∈ s.sound.queue ∧ x.link ≠ l := fun x h => by
    rw [hq, List.mem_filter] at h
    simpa using h
  refine ⟨fun v y h => ?_, fun v y h hy => ?_, fun v y h => ?_, ?_, fun v h => ?_⟩
  · rw [hvoice] at h
    rcases hnew v y h with ⟨_, hy⟩ | ⟨x, hx, _, hy⟩
    · exact hy
    · rw [hy.1]
      exact (hin x hx).2
  · rw [hvoice]
    refine hf.kept v y ?_
    rw [hv, Option.filter_eq_some_iff]
    exact ⟨h, by simpa using hy⟩
  · rw [hvoice] at h
    rcases hnew v y h with ⟨hy, _⟩ | ⟨x, hx, hy⟩
    · exact .inl hy
    · exact .inr ⟨x, (hin x hx).1, hy⟩
  · obtain ⟨j, hj⟩ := hf.queue
    have hl : s.sound.queue.filter (fun x => !decide (x.link = l)) = s.sound.queue.filter (fun x => decide (x.link ≠ l)) :=
      List.filter_congr fun x _ => (decide_not (p := x.link = l)).symm
    exact ⟨j, he.trans (hj.trans (congrArg _ (hq.trans hl)))⟩
  · rw [hvoice] at h
    rw [he]
    exact hf.full v (mem_allVoices v) h

/-- The records of another link that a link's DOWN leaves (R14). -/
theorem State.goDown_others {k : Link} (hk : k ≠ l) :
    (s.goDown l).views.get k = s.views.get k ∧ (s.goDown l).watches.get k = s.watches.get k ∧
    (s.goDown l).subs.get k = s.subs.get k ∧ (s.goDown l).sched k = s.sched k ∧
    (s.goDown l).sound.volumes.get k = s.sound.volumes.get k := by
  obtain ⟨_, _, hw, hsu, hsc, hv, _, _⟩ := s.goDown_records l
  obtain ⟨_, _, _, _, _, _, hvol⟩ := s.goDown_sound l
  refine ⟨?_, ?_, ?_, ?_, ?_⟩
  · rw [hv, (s.downRecords_views l).2 k hk]
  · rw [hw, PerLink.get_set_ne _ _ hk]
  · rw [hsu, PerLink.get_set_ne _ _ hk]
  · rw [State.sched, hsc, PerLink.get_set_ne _ _ hk]
    rfl
  · rw [hvol, PerLink.get_set_ne _ _ hk]

/-- The records of the link itself after its DOWN. -/
theorem State.goDown_own :
    (s.goDown l).watches.get l = .empty ∧ (s.goDown l).subs.get l = 0 ∧ (s.goDown l).sched l = .reset ∧
    (s.goDown l).sound.volumes.get l = 80 := by
  obtain ⟨_, _, hw, hsu, hsc, _⟩ := s.goDown_records l
  obtain ⟨_, _, _, _, _, _, hvol⟩ := s.goDown_sound l
  refine ⟨?_, ?_, ?_, ?_⟩
  · rw [hw, PerLink.get_set_self]
  · rw [hsu, PerLink.get_set_self]
  · rw [State.sched, hsc, PerLink.get_set_self]
  · rw [hvol, PerLink.get_set_self]

theorem State.goDown_view (c : Chan) : (s.goDown l).view l c = .reset (s.valueCount c) := by
  obtain ⟨_, _, _, _, _, hv, _⟩ := s.goDown_records l
  rw [State.view, hv]
  exact (s.downRecords_views l).1 c

/-- The channels, the pairs and the other Link Unit, where ports, channels and pairs agree. -/
theorem State.goDown_channels (ha : s.ChannelsAgree) :
    (∀ p, (s.goDown l).motor p = if (s.port p).holder = some l then (s.motor p).released else s.motor p) ∧
    ∀ k, (s.goDown l).pair k = if (s.pair k).map (fun q => q.holder) = some l then none else s.pair k := by
  obtain ⟨_, _, _, _, _, _, hm, hq⟩ := s.goDown_records l
  obtain ⟨_, h1, h2⟩ := State.releaseAll_freed (l := l) (u := s.unlinked l) ha rfl rfl rfl
  exact ⟨fun p => (congrArg (fun ms => ms.get p) hm).trans (h1 p), fun k => (State.pair_congr hq k).trans (h2 k)⟩

/-- The blocks after a link's DOWN, their state written as one choice (R151, R159). -/
theorem State.goDown_blockState (hs : s.RefreshLive) {k : Nat}
    (hk : ∀ x ∈ s.assets.retired, k ∉ versionBlocks x.version.image) :
    (s.goDown l).block k = { s.block k with
      state := if (∃ x, s.media.session = some x ∧ (x.link = l ∧ x.closing = none) ∧ k ∈ x.reserved) ∧
          (s.block k).state = .session
        then .freeDirty else (s.block k).state } := by
  obtain ⟨h1, h2⟩ := s.goDown_block l hs hk
  split
  · next h => exact h1 h
  · next h => exact h2 h

/-- The session and the store's operations after a link's DOWN (R159). -/
theorem State.goDown_session :
    ((∀ x, s.media.session = some x → ¬ (x.link = l ∧ x.closing = none)) →
      (s.goDown l).media.session = s.media.session) ∧
    ∀ x, s.media.session = some x → x.link = l ∧ x.closing = none → (s.goDown l).media.session = none ∧
      ∀ o ∈ (s.goDown l).media.class2 ++ (s.goDown l).media.class4, o ∈ s.media.class2 ++ s.media.class4 ∧
        o.ofSession = false :=
  ⟨s.goDown_session_stays l, fun _ => s.goDown_session_ends l⟩

/-- The level of an enable line is no part of what channels, ports and pairs agree on. -/
theorem State.ChannelsAgree.enableLine {s : State} (ha : s.ChannelsAgree) (l : Link) (level : Bool) :
    (s.enableLine l level).ChannelsAgree where
  links := ha.links
  held := ha.held
  heldI := ha.heldI
  device := ha.device
  stage := ha.stage
  running := ha.running
  waiting := ha.waiting
  commands := ha.commands
  pairs k q hq := by
    obtain ⟨h1, h2, h3⟩ := ha.pairs k q hq
    exact ⟨h1, { h2 with }, h3⟩
  bound := ha.bound

end Sums

/-- Settles O8: LINK UP by its two cases, HOLD, and LINK DOWN record by record. -/
theorem linkGoesUpAndDown : Obligations.LinkGoesUpAndDown := by
  intro s l hheld
  refine ⟨fun hu => ⟨_, exec_linkUp_down hheld hu, ?_⟩, fun hu => exec_linkUp_up hheld hu, rfl, rfl,
    fun hu _ => exec_linkDown_down hheld hu, fun hu hr => ⟨_, exec_linkDown_up hheld hu hr, ?_⟩⟩
  · obtain ⟨h1, h2⟩ : (∀ k, ((s.enableLine l true).goUp l).link k = if k = l then (s.link l).cleared true else s.link k) ∧
        ∀ k, ((s.enableLine l true).goUp l).sched k = if k = l then (s.sched l).start s.hub.time else s.sched k :=
      ⟨State.goUp_link _ l, State.goUp_sched _ l⟩
    have hl := h2 l
    rw [if_pos rfl] at hl
    refine ⟨(h1 l).trans (if_pos rfl), ?_, ?_, ?_, ?_, ?_, fun k hk => ⟨(h1 k).trans (if_neg hk), (h2 k).trans (if_neg hk)⟩,
      rfl⟩
    all_goals rw [hl]
    · exact Scheduler.start_queue _ _
    all_goals rfl
  · obtain ⟨hports, hshared⟩ := State.goDown_ports (s.enableLine l false) l
    obtain ⟨hpins, hI, _⟩ := State.goDown_records (s.enableLine l false) l
    obtain ⟨hw, hsu, hsc, hvol⟩ := State.goDown_own (s.enableLine l false) l
    obtain ⟨hv1, hv2, hv3, hv4, hv5⟩ := State.goDown_voices (s.enableLine l false) l
    obtain ⟨hstays, hends⟩ := State.goDown_session (s.enableLine l false) l
    have hlink := State.goDown_link_self (s := s.enableLine l false) l
    have hview := State.goDown_view (s.enableLine l false) l
    have hlock := State.goDown_lock (s := s.enableLine l false) l
    have hblock := @State.goDown_blockState (s.enableLine l false) l
    have hothers := @State.goDown_others (s.enableLine l false) l
    have hchannels := fun ha : s.ChannelsAgree => State.goDown_channels (s.enableLine l false) l (ha.enableLine l false)
    have hne := fun ha : s.ChannelsAgree => @State.goDown_link_ne (s.enableLine l false) l (ha.enableLine l false)
    generalize (s.enableLine l false).goDown l = t at *
    refine ⟨hlink, hpins, fun p => ?_, hI, fun p hp => (hports p).trans (State.recomputed_other hp),
      fun p d m x ha hd hk hm hx => (hports p).trans (State.recomputed_sensor t p ha hd hk hm hx),
      hshared, fun c => (hview c).trans ?_, hw, hsu, hsc, hvol, hlock, hv1, hv2, hv3, hv4, hv5,
      fun ha => ⟨(hchannels ha).1, (hchannels ha).2, fun ht k hk => hne ha ht hk⟩,
      ⟨hstays, fun x hx hxl => ⟨(hends x hx hxl).1, fun o ho => ?_⟩, fun hs k hk => hblock hs hk⟩,
      fun k hk => hothers hk⟩
    · rw [hports, State.recomputed_holder]
      rfl
    · rw [State.valueCount_eq]
      cases c with
      | internal => rfl
      | port p => rfl
    · obtain ⟨hin, hof⟩ := (hends x hx hxl).2 o ho
      exact ⟨hin, FlashOp.not_ofSession hof⟩

end Sys2Proof.Machine

/-! SUPPORT. What ports, channels and pairs agree on (ChannelsAgree), apart from the Link Units: which parts of the records
it reads, and which changes of them keep it. -/

namespace Sys2Proof.Machine

/-! ### What the agreement reads -/

/-- What the agreement reads of a port record. -/
def PortRec.claim (r : PortRec) : PortState × Option IdentStage × Option DeviceRecord × Option Link :=
  (r.state, r.stage, r.device, r.holder)

/-- What the agreement reads of a channel. -/
def Motor.claim (m : Motor) : ChanState × Option Command × List Command × Option Nat :=
  (m.state, m.active, m.waiting, m.pair)

theorem PortRec.claim_eq {r r' : PortRec} (h : r'.claim = r.claim) :
    r'.state = r.state ∧ r'.stage = r.stage ∧ r'.device = r.device ∧ r'.holder = r.holder := by
  simpa [PortRec.claim] using h

theorem Motor.claim_eq {m m' : Motor} (h : m'.claim = m.claim) :
    m'.state = m.state ∧ m'.active = m.active ∧ m'.waiting = m.waiting ∧ m'.pair = m.pair := by
  simpa [Motor.claim] using h

/-- A port record keeps to its own rules: held only while ACTIVE and by a link that `up` says is UP (R34, R40), a MOTOR with
a motor part (R25), identification in IDENTIFYING alone (R24). -/
structure PortRec.Sound (up : Link → Bool) (r : PortRec) : Prop where
  held : ∀ l, r.holder = some l → r.state = .active ∧ up l = true
  device : ∀ d, r.state ≠ .rejected → r.device = some d → d.kind = .motor → d.motor ≠ none
  stage : r.stage ≠ none → r.state = .identifying

/-- The queue of a channel whose port `h` holds: at most 4 commands wait, none without an active one (R43, R45), and every
command is one of the holder and names the channel's pair (R57, R59). -/
structure Motor.Queued (h : Option Link) (m : Motor) : Prop where
  waiting : m.waiting.length ≤ 4 ∧ (m.active = none → m.waiting = [])
  commands : ∀ c ∈ m.active.toList ++ m.waiting, c.pair = m.pair ∧ h = some c.link

/-- A channel without commands that does not run. -/
structure Motor.Idle (m : Motor) : Prop where
  state : m.state ≠ .running
  active : m.active = none
  waiting : m.waiting = []

/-- The agreement of ports, channels and pairs, where `up` says which links are UP. -/
structure State.Agree (up : Link → Bool) (s : State) : Prop where
  ports : ∀ p, (s.port p).Sound up
  heldI : ∀ l, s.holderI = some l → up l = true
  queues : ∀ p, (s.motor p).Queued (s.port p).holder
  running : ∀ p, (s.motor p).pair = none → ((s.motor p).state = .running ↔ (s.motor p).active ≠ none)
  pairs : ∀ k q, s.pair k = some q → k ≤ 2 ∧ s.Bound k q ∧ ∀ p, p = q.first ∨ p = q.second →
    (s.port p).holder = some q.holder ∧ (s.port p).device.map (fun d => d.kind) = some .motor ∧
      ((s.motor p).state = .running ↔ (s.motor q.first).active ≠ none)
  bound : ∀ p k, (s.motor p).pair = some k → ∃ q, s.pair k = some q ∧ (p = q.first ∨ p = q.second)

/-- The agreement of ChannelsAgree is that of the Link Units and this one. -/
theorem State.channelsAgree_iff (s : State) :
    s.ChannelsAgree ↔ s.LinksSound ∧ s.Agree (fun l => (s.link l).up) := by
  constructor
  · intro h
    exact ⟨h.links, fun p => ⟨h.held p, h.device p, h.stage p⟩, h.heldI, fun p => ⟨h.waiting p, h.commands p⟩, h.running,
      h.pairs, h.bound⟩
  · rintro ⟨hl, h⟩
    exact ⟨hl, fun p => (h.ports p).held, h.heldI, fun p => (h.ports p).device, fun p => (h.ports p).stage, h.running,
      fun p => (h.queues p).waiting, fun p => (h.queues p).commands, h.pairs, h.bound⟩

/-! ### Changes that keep the agreement -/

/-- From `s` to `t` the ports' claims, the holder of port I and the pair table stand, and so do the channels that `D` does
not name, as far as the agreement reads them. -/
structure State.SameBut (D : Port → Prop) (s t : State) : Prop where
  ports : ∀ p, (t.port p).claim = (s.port p).claim
  holderI : t.holderI = s.holderI
  pair : ∀ k, t.pair k = s.pair k
  motors : ∀ p, ¬ D p → (t.motor p).claim = (s.motor p).claim

section Agree
variable {up up' : Link → Bool} {s t : State} {D : Port → Prop} {p : Port} {k : Nat} {q : Pair}

theorem PortRec.Sound.congr {r r' : PortRec} (h : r.Sound up) (e : r'.claim = r.claim) : r'.Sound up := by
  obtain ⟨h1, h2, h3, h4⟩ := PortRec.claim_eq e
  exact ⟨by rw [h1, h4]; exact h.held, by rw [h1, h3]; exact h.device, by rw [h1, h2]; exact h.stage⟩

theorem Motor.Queued.congr {m m' : Motor} {x : Option Link} (h : m.Queued x) (e : m'.claim = m.claim) : m'.Queued x := by
  obtain ⟨_, h2, h3, h4⟩ := Motor.claim_eq e
  exact ⟨by rw [h2, h3]; exact h.waiting, by rw [h2, h3, h4]; exact h.commands⟩

theorem Motor.Idle.queued {m : Motor} (h : m.Idle) (x : Option Link) : m.Queued x where
  waiting := by simp [h.waiting]
  commands := by simp [h.active, h.waiting]

/-- Two pairs with a port in common are one. -/
theorem State.Agree.pair_unique (h : s.Agree up) {j : Nat} {r : Pair} (hq : s.pair k = some q) (hr : s.pair j = some r)
    (h1 : p = q.first ∨ p = q.second) (h2 : p = r.first ∨ p = r.second) : j = k ∧ r = q := by
  have number : ∀ {i : Nat} {x : Pair}, s.pair i = some x → p = x.first ∨ p = x.second → (s.motor p).pair = some i := by
    rintro i x hx (rfl | rfl)
    · exact (h.pairs i x hx).2.1.pair.1
    · exact (h.pairs i x hx).2.1.pair.2
  have hj : j = k := Option.some.inj ((number hr h2).symm.trans (number hq h1))
  subst hj
  exact ⟨rfl, Option.some.inj (hr.symm.trans hq)⟩

/-- A change of whole pairs' channels and of channels outside pairs, each to a channel that agrees with its port. -/
theorem State.Agree.change (h : s.Agree up) (hs : s.SameBut D t)
    (hD : ∀ k q, s.pair k = some q → (D q.first ↔ D q.second))
    (hq : ∀ p, D p → (t.motor p).pair = (s.motor p).pair ∧ (t.motor p).Queued (s.port p).holder)
    (hr : ∀ p, D p → (s.motor p).pair = none → ((t.motor p).state = .running ↔ (t.motor p).active ≠ none))
    (hb : ∀ k q, s.pair k = some q → D q.first →
      ((t.motor q.second).active = none ∧ (t.motor q.second).waiting = []) ∧
      ∀ p, p = q.first ∨ p = q.second → ((t.motor p).state = .running ↔ (t.motor q.first).active ≠ none)) :
    t.Agree up := by
  have hpair : ∀ p, (t.motor p).pair = (s.motor p).pair := fun p => by
    by_cases hd : D p
    · exact (hq p hd).1
    · exact (Motor.claim_eq (hs.motors p hd)).2.2.2
  have hqueue : ∀ p, (t.motor p).Queued (t.port p).holder := fun p => by
    rw [(PortRec.claim_eq (hs.ports p)).2.2.2]
    by_cases hd : D p
    · exact (hq p hd).2
    · exact (h.queues p).congr (hs.motors p hd)
  refine ⟨fun p => (h.ports p).congr (hs.ports p), by rw [hs.holderI]; exact h.heldI, hqueue, fun p hn => ?_,
    fun k q hk => ?_, fun p k hk => ?_⟩
  · rw [hpair] at hn
    by_cases hd : D p
    · exact hr p hd hn
    · obtain ⟨h1, h2, _⟩ := Motor.claim_eq (hs.motors p hd)
      rw [h1, h2]
      exact h.running p hn
  · rw [hs.pair] at hk
    obtain ⟨hle, hbs, hports⟩ := h.pairs k q hk
    have hchan : ((t.motor q.second).active = none ∧ (t.motor q.second).waiting = []) ∧
        ∀ p, p = q.first ∨ p = q.second → ((t.motor p).state = .running ↔ (t.motor q.first).active ≠ none) := by
      by_cases hd : D q.first
      · exact hb k q hk hd
      · have hd2 : ¬ D q.second := fun e => hd ((hD k q hk).mpr e)
        have same : ∀ p, p = q.first ∨ p = q.second → (t.motor p).claim = (s.motor p).claim := by
          rintro p (rfl | rfl)
          · exact hs.motors _ hd
          · exact hs.motors _ hd2
        obtain ⟨_, a2, w2, _⟩ := Motor.claim_eq (same _ (.inr rfl))
        obtain ⟨_, a1, _, _⟩ := Motor.claim_eq (same _ (.inl rfl))
        refine ⟨by rw [a2, w2]; exact hbs.second, fun p hp => ?_⟩
        rw [(Motor.claim_eq (same p hp)).1, a1]
        exact (hports p hp).2.2
    refine ⟨hle, ⟨by rw [hs.pair]; exact hk, hbs.ports, by rw [hpair, hpair]; exact hbs.pair, hchan.1, fun c hc => ?_⟩,
      fun p hp => ?_⟩
    · rw [((hqueue q.first).commands c hc).1, hpair]
      exact hbs.pair.1
    · obtain ⟨_, _, hdev, hhold⟩ := PortRec.claim_eq (hs.ports p)
      rw [hdev, hhold]
      exact ⟨(hports p hp).1, (hports p hp).2.1, hchan.2 p hp⟩
  · rw [hpair] at hk
    obtain ⟨q, hq, hp⟩ := h.bound p k hk
    exact ⟨q, by rw [hs.pair]; exact hq, hp⟩

/-- What the agreement does not read has no part in it. -/
theorem State.Agree.same (h : s.Agree up) (hs : s.SameBut (fun _ => False) t) : t.Agree up :=
  h.change hs (fun _ _ _ => Iff.rfl) (fun _ hd => hd.elim) (fun _ hd => hd.elim) (fun _ _ _ hd => hd.elim)

/-- A channel outside any pair becomes another that agrees with its port. -/
theorem State.Agree.single (h : s.Agree up) (hn : (s.motor p).pair = none) (hs : s.SameBut (· = p) t)
    (hp : (t.motor p).pair = none) (hq : (t.motor p).Queued (s.port p).holder)
    (hr : (t.motor p).state = .running ↔ (t.motor p).active ≠ none) : t.Agree up := by
  have hout : ∀ k q, s.pair k = some q → q.first ≠ p ∧ q.second ≠ p := fun k q hk => by
    obtain ⟨hf, hsec⟩ := (h.pairs k q hk).2.1.pair
    exact ⟨by rintro rfl; simp [hn] at hf, by rintro rfl; simp [hn] at hsec⟩
  refine h.change hs (fun k q hk => ?_) ?_ ?_ (fun k q hk hd => absurd hd (hout k q hk).1)
  · simp [(hout k q hk).1, (hout k q hk).2]
  · rintro _ rfl
    exact ⟨hp.trans hn.symm, hq⟩
  · rintro _ rfl _
    exact hr

/-- The channels of a pair become others that agree with their ports. -/
theorem State.Agree.double (h : s.Agree up) (hk : s.pair k = some q)
    (hs : s.SameBut (fun x => x = q.first ∨ x = q.second) t)
    (hp : ∀ x, x = q.first ∨ x = q.second → (t.motor x).pair = some k)
    (h2 : (t.motor q.second).active = none ∧ (t.motor q.second).waiting = [])
    (hq : (t.motor q.first).Queued (s.port q.first).holder)
    (hr : ∀ x, x = q.first ∨ x = q.second → ((t.motor x).state = .running ↔ (t.motor q.first).active ≠ none)) :
    t.Agree up := by
  have hbs := (h.pairs k q hk).2.1
  refine h.change hs (fun j r hj => ?_) ?_ ?_ (fun j r hj hd => ?_)
  · constructor
    · intro hd
      rw [(h.pair_unique hk hj hd (.inl rfl)).2]
      exact .inr rfl
    · intro hd
      rw [(h.pair_unique hk hj hd (.inr rfl)).2]
      exact .inl rfl
  · rintro _ (rfl | rfl)
    · exact ⟨(hp _ (.inl rfl)).trans hbs.pair.1.symm, hq⟩
    · refine ⟨(hp _ (.inr rfl)).trans hbs.pair.2.symm, ?_, ?_⟩
      · simp [h2]
      · simp [h2]
  · rintro _ (rfl | rfl) hn
    · rw [hbs.pair.1] at hn
      cases hn
    · rw [hbs.pair.2] at hn
      cases hn
  · rw [(h.pair_unique hk hj hd (.inl rfl)).2]
    exact ⟨h2, hr⟩

/-- Channels are freed, whole pairs at a time: each idle and outside any pair, its pair gone, and its port's record sound;
every other channel and port stands. -/
theorem State.Agree.freed (h : s.Agree up) (hports : ∀ p, (t.port p).Sound up')
    (hI : ∀ l, t.holderI = some l → up' l = true) (hD : ∀ k q, s.pair k = some q → (D q.first ↔ D q.second))
    (hfree : ∀ p, D p → (t.motor p).Idle ∧ (t.motor p).pair = none)
    (hkept : ∀ p, ¬ D p → (t.motor p).claim = (s.motor p).claim ∧ (t.port p).claim = (s.port p).claim)
    (hpair : ∀ k q, t.pair k = some q ↔ s.pair k = some q ∧ ¬ D q.first) : t.Agree up' := by
  refine ⟨hports, hI, fun p => ?_, fun p hn => ?_, fun k q hk => ?_, fun p k hk => ?_⟩
  · by_cases hd : D p
    · exact (hfree p hd).1.queued _
    · obtain ⟨hm, hp⟩ := hkept p hd
      rw [(PortRec.claim_eq hp).2.2.2]
      exact (h.queues p).congr hm
  · by_cases hd : D p
    · obtain ⟨hi, _⟩ := hfree p hd
      simp [hi.state, hi.active]
    · obtain ⟨h1, h2, _, h4⟩ := Motor.claim_eq (hkept p hd).1
      rw [h4] at hn
      rw [h1, h2]
      exact h.running p hn
  · obtain ⟨hsk, hd⟩ := (hpair k q).mp hk
    obtain ⟨hle, hbs, hps⟩ := h.pairs k q hsk
    have kept : ∀ p, p = q.first ∨ p = q.second →
        (t.motor p).claim = (s.motor p).claim ∧ (t.port p).claim = (s.port p).claim := by
      rintro p (rfl | rfl)
      · exact hkept _ hd
      · exact hkept _ fun e => hd ((hD k q hsk).mpr e)
    obtain ⟨_, a1, w1, p1⟩ := Motor.claim_eq (kept _ (.inl rfl)).1
    obtain ⟨_, a2, w2, p2⟩ := Motor.claim_eq (kept _ (.inr rfl)).1
    refine ⟨hle, ⟨hk, hbs.ports, by rw [p1, p2]; exact hbs.pair, by rw [a2, w2]; exact hbs.second,
      by rw [a1, w1]; exact hbs.commands⟩, fun p hp => ?_⟩
    obtain ⟨_, _, hdev, hhold⟩ := PortRec.claim_eq (kept p hp).2
    rw [hdev, hhold, (Motor.claim_eq (kept p hp).1).1, a1]
    exact hps p hp
  · have hd : ¬ D p := fun e => by rw [(hfree p e).2] at hk; cases hk
    rw [(Motor.claim_eq (hkept p hd).1).2.2.2] at hk
    obtain ⟨q, hq, hp⟩ := h.bound p k hk
    refine ⟨q, (hpair k q).mpr ⟨hq, ?_⟩, hp⟩
    rcases hp with rfl | rfl
    · exact hd
    · exact fun e => hd ((hD k q hq).mp e)

/-- A port that no link holds has an idle channel outside any pair (R56, R59). -/
theorem State.Agree.vacant (h : s.Agree up) (hn : (s.port p).holder = none) :
    (s.motor p).Idle ∧ (s.motor p).pair = none := by
  have hp : (s.motor p).pair = none := by
    cases hk : (s.motor p).pair with
    | none => rfl
    | some k =>
      obtain ⟨q, hq, hpq⟩ := h.bound p k hk
      have := ((h.pairs k q hq).2.2 p hpq).1
      rw [hn] at this
      cases this
  have ha : (s.motor p).active = none := by
    cases hc : (s.motor p).active with
    | none => rfl
    | some c =>
      have := ((h.queues p).commands c (by simp [hc])).2
      rw [hn] at this
      cases this
  exact ⟨⟨fun e => (h.running p hp).mp e ha, ha, (h.queues p).waiting.2 ha⟩, hp⟩

/-- A port's record changes: to one with the same holder and device, or where its channel is free of commands and pairs. -/
theorem State.Agree.setPort (h : s.Agree up) {r : PortRec} (hr : r.Sound up)
    (hv : r.holder = (s.port p).holder ∧ r.device = (s.port p).device ∨ (s.motor p).Idle ∧ (s.motor p).pair = none) :
    (s.setPort p r).Agree up := by
  have hport : ∀ x, ((s.setPort p r).port x).Sound up := fun x => by
    rw [State.setPort_port]
    split
    · exact hr
    · exact h.ports x
  rcases hv with ⟨hh, hd⟩ | ⟨hi, hn⟩
  · have same : ∀ x, ((s.setPort p r).port x).holder = (s.port x).holder ∧
        ((s.setPort p r).port x).device = (s.port x).device := fun x => by
      rw [State.setPort_port]
      split
      · rename_i hx
        rw [hx]
        exact ⟨hh, hd⟩
      · exact ⟨rfl, rfl⟩
    refine ⟨hport, h.heldI, fun x => ?_, h.running, fun k q hk => ?_, h.bound⟩
    · rw [(same x).1]
      exact h.queues x
    · obtain ⟨hle, hb, hps⟩ := h.pairs k q hk
      refine ⟨hle, { hb with }, fun x hx => ?_⟩
      rw [(same x).1, (same x).2]
      exact hps x hx
  · have hout : ∀ k q, s.pair k = some q → q.first ≠ p ∧ q.second ≠ p := fun k q hk => by
      obtain ⟨hf, hsec⟩ := (h.pairs k q hk).2.1.pair
      exact ⟨by rintro rfl; simp [hn] at hf, by rintro rfl; simp [hn] at hsec⟩
    refine h.freed (D := (· = p)) hport h.heldI (fun k q hk => ?_) ?_ (fun x hx => ⟨rfl, ?_⟩) (fun k q => ?_)
    · simp [(hout k q hk).1, (hout k q hk).2]
    · rintro _ rfl
      exact ⟨hi, hn⟩
    · rw [State.setPort_port, if_neg hx]
    · constructor
      · exact fun hk => ⟨hk, (hout k q hk).1⟩
      · exact fun hk => hk.1

end Agree

end Sys2Proof.Machine

/-! SUPPORT. The Motion Unit keeps the agreement of ports, channels and pairs: halts, ends, starts, and the control period
(R42, R43, R49 to R52, R57 to R61, R65). -/

namespace Sys2Proof.Machine

section Motion
variable {up : Link → Bool} {s t u : State} {D : Port → Prop} {p : Port} {k : Nat} {q : Pair}

/-! ### What changes channels alone -/

theorem State.MotionOnly.refl (s : State) : s.MotionOnly s := rfl

theorem State.MotionOnly.hub (h : s.MotionOnly t) : t.hub = s.hub := by rw [h]

theorem State.MotionOnly.port (h : s.MotionOnly t) (p : Port) : t.port p = s.port p := by rw [State.port, h.ports, State.port]

theorem State.MotionOnly.setMotor (h : s.MotionOnly t) (p : Port) (m : Motor) : s.MotionOnly (t.setMotor p m) := h.trans rfl

theorem State.MotionOnly.sameBut (h : s.MotionOnly t) (hk : ∀ k, t.pair k = s.pair k)
    (hm : ∀ p, ¬ D p → (t.motor p).claim = (s.motor p).claim) : s.SameBut D t :=
  ⟨fun p => by rw [h.port], h.holderI, hk, hm⟩

theorem State.LinksOnly.motor (h : s.LinksOnly t) (p : Port) : t.motor p = s.motor p := by rw [State.motor, h.motors, State.motor]

theorem State.LinksOnly.pair (h : s.LinksOnly t) (k : Nat) : t.pair k = s.pair k := by rw [State.pair, h.pairs, State.pair]

/-- A channel changes where the agreement does not read it. -/
theorem State.Agree.setMotor (h : s.Agree up) {m : Motor} (e : m.claim = (s.motor p).claim) : (s.setMotor p m).Agree up := by
  refine h.same (((State.MotionOnly.refl s).setMotor p m).sameBut (fun _ => rfl) fun x _ => ?_)
  rw [State.setMotor_motor]
  split
  · rename_i hx
    rw [hx, e]
  · rfl

/-- Channels change one after another where the agreement does not read them. -/
theorem State.Agree.foldl_setMotor (h : s.Agree up) (ps : List Port) {f : State → Port → Motor}
    (e : ∀ t x, (f t x).claim = (t.motor x).claim) : (ps.foldl (fun t x => t.setMotor x (f t x)) s).Agree up :=
  List.foldlRecOn ps _ h fun _ hu x _ => hu.setMotor (e _ x)

/-- A port is outside any pair, or one of the two of its pair. -/
theorem State.Agree.alone_or_bound (h : s.Agree up) (p : Port) : (s.motor p).pair = none ∨
    ∃ k q, s.pair k = some q ∧ (s.motor p).pair = some k ∧ (p = q.first ∨ p = q.second) := by
  cases hk : (s.motor p).pair with
  | none => exact .inl rfl
  | some k =>
    obtain ⟨q, hq, hp⟩ := h.bound p k hk
    exact .inr ⟨k, q, hq, rfl, hp⟩

theorem State.Agree.isBound (h : s.Agree up) (hk : s.pair k = some q) : s.Bound k q := (h.pairs k q hk).2.1

/-! ### Halts (R50, R52) -/

theorem Motor.enter_ended (m : Motor) (e : EndAction) (x : Int) :
    ({ m with active := none, waiting := [] } : Motor).enter e x = m.ended e x := by cases e <;> rfl

theorem Motor.ended_idle (m : Motor) (e : EndAction) (x : Int) : (m.ended e x).Idle := by
  cases e <;> exact ⟨by simp [Motor.ended], rfl, rfl⟩

@[simp] theorem Motor.ended_pair (m : Motor) (e : EndAction) (x : Int) : (m.ended e x).pair = m.pair := by cases e <;> rfl

/-- The commands of a channel end and it enters the state of an end action. -/
theorem State.endEnter_motor (s : State) (p x : Port) (o : EndOutcome) (e : EndAction) :
    ((s.endAll p o).enterAll [p] e).motor x =
      if x = p then (s.motor p).ended e (s.motor p).position else s.motor x := by
  rw [State.enterAll_motor _ (by simp), State.endAll_motor]
  by_cases hx : x = p
  · simp only [hx, List.mem_singleton, if_true]
    exact Motor.enter_ended _ e _
  · simp [hx]

/-- The commands of a pair end and both its channels enter the state of an end action. -/
theorem State.endEnter_motors (s : State) {q : Pair} (hn : q.first ≠ q.second) (hw : (s.motor q.second).waiting = [])
    (ha : (s.motor q.second).active = none) (x : Port) (o : EndOutcome) (e : EndAction) :
    ((s.endAll q.first o).enterAll [q.first, q.second] e).motor x =
      if x = q.first ∨ x = q.second then (s.motor x).ended e (s.motor x).position else s.motor x := by
  rw [State.enterAll_motor _ (by simpa using hn), State.endAll_motor]
  by_cases h1 : x = q.first
  · simp only [h1, List.mem_cons, true_or, if_true]
    exact Motor.enter_ended _ e _
  · by_cases h2 : x = q.second
    · simp only [h2, List.mem_cons, or_true, true_or, if_true, Ne.symm hn, if_false]
      have same : (s.motor q.second) = { s.motor q.second with active := none, waiting := [] } := by rw [← hw, ← ha]
      rw [same]
      exact Motor.enter_ended _ e _
    · simp [h1, h2]

theorem State.MotionOnly.endEnter (s : State) (p : Port) (ps : List Port) (o : EndOutcome) (e : EndAction) :
    s.MotionOnly ((s.endAll p o).enterAll ps e) := (State.MotionOnly.endAll s p o).trans (.enterAll _ ps e)

/-- The commands of a channel outside any pair end, and it stops. -/
theorem State.Agree.endEnter_single (h : s.Agree up) (hn : (s.motor p).pair = none) (o : EndOutcome) (e : EndAction) :
    ((s.endAll p o).enterAll [p] e).Agree up := by
  have hm := s.endEnter_motor p (o := o) (e := e)
  have hi := (s.motor p).ended_idle e (s.motor p).position
  refine h.single hn ((State.MotionOnly.endEnter s p _ o e).sameBut (State.pair_congr (by simp)) fun x hx => ?_)
    ?_ ?_ ?_
  · rw [hm, if_neg hx]
  all_goals rw [hm, if_pos rfl]
  · rw [Motor.ended_pair, hn]
  · exact hi.queued _
  · simp [hi.state, hi.active]

/-- The commands of a pair end, and both its channels stop. -/
theorem State.Agree.endEnter_double (h : s.Agree up) (hk : s.pair k = some q) (o : EndOutcome) (e : EndAction) :
    ((s.endAll q.first o).enterAll [q.first, q.second] e).Agree up := by
  have hb := h.isBound hk
  have hm := s.endEnter_motors hb.ports hb.second.2 hb.second.1 (o := o) (e := e)
  have hon : ∀ x, x = q.first ∨ x = q.second → (((s.endAll q.first o).enterAll [q.first, q.second] e).motor x).Idle ∧
      (((s.endAll q.first o).enterAll [q.first, q.second] e).motor x).pair = some k := fun x hx => by
    rw [hm, if_pos hx, Motor.ended_pair]
    refine ⟨Motor.ended_idle _ _ _, ?_⟩
    rcases hx with rfl | rfl
    · exact hb.pair.1
    · exact hb.pair.2
  refine h.double hk ((State.MotionOnly.endEnter s q.first _ o e).sameBut (State.pair_congr (by simp)) fun x hx => ?_)
    (fun x hx => (hon x hx).2) ⟨(hon _ (.inr rfl)).1.active, (hon _ (.inr rfl)).1.waiting⟩ ((hon _ (.inl rfl)).1.queued _)
    (fun x hx => ?_)
  · rw [hm, if_neg hx]
  · simp [(hon x hx).1.state, (hon _ (.inl rfl)).1.active]

theorem State.Agree.haltMotor (h : s.Agree up) (p : Port) (e : EndAction) : (s.haltMotor p e).Agree up := by
  unfold State.haltMotor
  rcases h.alone_or_bound p with hn | ⟨k, q, hq, hp, _⟩
  · rw [State.queuePort_unpaired hn, State.haltPorts_unpaired hn]
    exact h.endEnter_single hn _ _
  · rw [State.queuePort_bound hp hq, State.haltPorts_bound hp hq]
    exact h.endEnter_double hq _ _

/-! ### The port whose queue holds a command (R57) -/

/-- The commands of port `p` stand in its own queue: it is outside any pair, or the first of its pair. -/
def State.Leads (s : State) (p : Port) : Prop :=
  (s.motor p).pair = none ∨ ∃ k q, s.pair k = some q ∧ (s.motor p).pair = some k ∧ p = q.first

theorem State.Agree.queuePort_leads (h : s.Agree up) (p : Port) : s.Leads (s.queuePort p) := by
  rcases h.alone_or_bound p with hn | ⟨k, q, hq, hp, _⟩
  · rw [State.queuePort_unpaired hn]
    exact .inl hn
  · rw [State.queuePort_bound hp hq]
    exact .inr ⟨k, q, hq, (h.isBound hq).pair.1, rfl⟩

/-- The ports that a command of a channel moves (R57). -/
theorem State.portsOf_single (s : State) (p : Port) {c : Command} (hc : c.pair = none) : s.portsOf p c = [p] := by
  simp [State.portsOf, hc]

theorem State.portsOf_double (p : Port) {c : Command} (hc : c.pair = some k) (hk : s.pair k = some q) :
    s.portsOf p c = [q.first, q.second] := by simp [State.portsOf, hc, hk]

/-- A pair's ports have motor parts (R25, R56). -/
theorem State.Agree.motorPart (h : s.Agree up) (hk : s.pair k = some q) {x : Port} (hx : x = q.first ∨ x = q.second) :
    ∃ part, s.motorPart x = some part := by
  obtain ⟨hh, hd, _⟩ := (h.pairs k q hk).2.2 x hx
  cases hx : (s.port x).device with
  | none => rw [hx] at hd; cases hd
  | some d =>
    rw [hx] at hd
    have hne : d.motor ≠ none := (h.ports x).device d (by rw [((h.ports x).held _ hh).1]; decide) hx (by simpa using hd)
    cases hm : d.motor with
    | none => exact absurd hm hne
    | some part => exact ⟨part, by simp [State.motorPart, hx, hm]⟩

/-! ### Starts (R62, R66) -/

/-- What the agreement reads of a channel that runs command `c`. -/
def Motor.running (m : Motor) (c : Option Command) : ChanState × Option Command × List Command × Option Nat :=
  (.running, c, m.waiting, m.pair)

/-- A command of a channel's own starts there. -/
theorem State.startCommand_single (s : State) (p : Port) {c : Command} (hc : c.pair = none) (f : StartFrom) :
    ∃ m, s.startCommand p c f = s.setMotor p m ∧ m.claim = (s.motor p).running (some c) := by
  unfold State.startCommand
  rw [hc]
  cases s.motorPart p with
  | none => exact ⟨_, rfl, rfl⟩
  | some part =>
    dsimp only [Option.bind_none]
    split
    · exact ⟨_, rfl, rfl⟩
    · exact ⟨_, rfl, rfl⟩

theorem State.MotionOnly.startCommand (s : State) (p : Port) (c : Command) (f : StartFrom) :
    s.MotionOnly (s.startCommand p c f) := by
  unfold State.startCommand
  split
  · rfl
  · split <;> rfl
  · rfl

@[simp] theorem State.startCommand_pairs (s : State) (p : Port) (c : Command) (f : StartFrom) :
    (s.startCommand p c f).pairs = s.pairs := by
  unfold State.startCommand
  split
  · rfl
  · split <;> rfl
  · rfl

/-- A command of a pair starts on both its channels and stands with the first. -/
theorem State.startCommand_double {part : MotorPart} (hp : s.motorPart q.first = some part) {c : Command}
    (hc : c.pair = some k) (hk : s.pair k = some q) (hn : q.first ≠ q.second) (f : StartFrom) (x : Port) :
    ((s.startCommand q.first c f).motor x).claim = if x = q.first then (s.motor x).running (some c)
      else if x = q.second then (s.motor x).running none else (s.motor x).claim := by
  have lead : ∀ m : Motor, (m.startEncoder part c f).claim = m.running (some c) := fun _ => rfl
  have follow : ∀ (m : Motor) (l : Profile), (m.startFollower part f l).claim = m.running none := fun _ _ => rfl
  simp only [State.startCommand, hp, hc, Option.bind_some, hk, State.setMotor_motor]
  by_cases hs : c.speedB.natAbs ≤ c.speed.natAbs
  all_goals
    simp only [leadPort, followPort, hs, decide_true, decide_false, if_true, Bool.false_eq_true, if_false]
    by_cases h1 : x = q.first
    · simp [h1, hn, Motor.claim, Motor.running, Motor.startEncoder, Motor.startFollower]
    · by_cases h2 : x = q.second
      · simp [h2, Ne.symm hn, Motor.claim, Motor.running, Motor.startEncoder, Motor.startFollower]
      · simp [h1, h2]

/-- The command `c` of the holder becomes active on a leading port, and the commands `ws` of the holder wait behind it. -/
theorem State.Agree.startCommand (h : s.Agree up) (hp : s.Leads p) {c : Command} {ws : List Command} (hl : ws.length ≤ 4)
    (hc : ∀ x ∈ c :: ws, x.pair = (s.motor p).pair ∧ (s.port p).holder = some x.link) (hu : s.MotionOnly u)
    (hpair : ∀ k, u.pair k = s.pair k)
    (hm : ∀ x, u.motor x = if x = p then { s.motor p with waiting := ws } else s.motor x) (f : StartFrom) :
    (u.startCommand p c f).Agree up := by
  have hmot : s.MotionOnly (u.startCommand p c f) := hu.trans (.startCommand u p c f)
  have hpairs : ∀ k, (u.startCommand p c f).pair k = s.pair k := fun k =>
    (State.pair_congr (by simp) k).trans (hpair k)
  have queue : ∀ m : Motor, m.active = some c → m.waiting = ws → m.pair = (s.motor p).pair →
      m.Queued (s.port p).holder := fun m ha hw hpr =>
    ⟨⟨by rw [hw]; exact hl, by simp [ha]⟩, by rw [ha, hw, hpr]; simpa using hc⟩
  have hcp := (hc c List.mem_cons_self).1
  rcases hp with hn | ⟨k, q, hq, hk, rfl⟩
  · obtain ⟨m, he, hcl⟩ := u.startCommand_single p (hcp.trans hn) f
    have hmp : ((u.startCommand p c f).motor p).claim = (.running, some c, ws, none) := by
      rw [he, State.setMotor_motor_self, hcl, hm, if_pos rfl]
      simp [Motor.running, hn]
    obtain ⟨h1, h2, h3, h4⟩ : _ ∧ _ ∧ _ ∧ _ := by simpa [Motor.claim] using hmp
    refine h.single hn (hmot.sameBut hpairs fun x hx => ?_) h4 (queue _ h2 h3 (h4.trans hn.symm)) (by simp [h1, h2])
    rw [he, State.setMotor_motor, if_neg hx, hm, if_neg hx]
  · have hb := h.isBound hq
    obtain ⟨part, hpart⟩ := h.motorPart hq (.inl rfl)
    have hpart' : u.motorPart q.first = some part := by
      rw [← hpart]
      simp only [State.motorPart, hu.port]
    have hcl := State.startCommand_double hpart' (hcp.trans hk) ((hpair k).trans hq) hb.ports f
    have first : ((u.startCommand q.first c f).motor q.first).claim = (.running, some c, ws, some k) := by
      rw [hcl, if_pos rfl, hm, if_pos rfl]
      simp [Motor.running, hk]
    have second : ((u.startCommand q.first c f).motor q.second).claim = (.running, none, [], some k) := by
      rw [hcl, if_neg (Ne.symm hb.ports), if_pos rfl, hm, if_neg (Ne.symm hb.ports)]
      simp [Motor.running, hb.second.2, hb.pair.2]
    obtain ⟨h1, h2, h3, h4⟩ : _ ∧ _ ∧ _ ∧ _ := by simpa [Motor.claim] using first
    obtain ⟨k1, k2, k3, k4⟩ : _ ∧ _ ∧ _ ∧ _ := by simpa [Motor.claim] using second
    refine h.double hq (hmot.sameBut hpairs fun x hx => ?_) ?_ ⟨k2, k3⟩ (queue _ h2 h3 (h4.trans hk.symm)) ?_
    · obtain ⟨n1, n2⟩ := not_or.mp hx
      rw [hcl, if_neg n1, if_neg n2, hm, if_neg n1]
    · rintro x (rfl | rfl)
      · exact h4
      · exact k4
    · rintro x (rfl | rfl)
      · simp [h1, h2]
      · simp [k1, h2]

end Motion

end Sys2Proof.Machine

/-! SUPPORT. The ends of commands and the entry to CUTOFF keep the agreement (R47 to R51, R58 to R61). -/

namespace Sys2Proof.Machine

section Ends
variable {up : Link → Bool} {s t u : State} {p : Port} {k : Nat} {q : Pair}

/-! ### The end of an active command (R49, R51) -/

theorem Motor.enter_idle {m : Motor} (hw : m.waiting = []) (e : EndAction) (x : Int) : (m.enter e x).Idle := by
  cases e <;> exact ⟨by simp [Motor.enter, Motor.rest, Motor.hold], rfl, hw⟩

@[simp] theorem Motor.enter_pair (m : Motor) (e : EndAction) (x : Int) : (m.enter e x).pair = m.pair := by cases e <;> rfl

/-- Channels enter the state of an end action, each at a target of its own. -/
theorem foldl_enter {ps : List Port} (hn : ps.Nodup) (e : EndAction) (g : Motor → Int) (s : State) :
    s.MotionOnly (ps.foldl (fun t x => t.setMotor x ((t.motor x).enter e (g (t.motor x)))) s) ∧
    (∀ k, (ps.foldl (fun t x => t.setMotor x ((t.motor x).enter e (g (t.motor x)))) s).pair k = s.pair k) ∧
    ∀ x, (ps.foldl (fun t x => t.setMotor x ((t.motor x).enter e (g (t.motor x)))) s).motor x =
      if x ∈ ps then (s.motor x).enter e (g (s.motor x)) else s.motor x := by
  rw [foldl_setMotor ps fun _ m => m.enter e (g m)]
  exact ⟨rfl, fun _ => rfl, PerPort.get_mapOn hn _ _⟩

theorem State.portsOf_congr (h : ∀ k, t.pair k = s.pair k) (p : Port) (c : Command) : t.portsOf p c = s.portsOf p c := by
  simp only [State.portsOf, funext h]

/-- A leading channel without waiting commands, and its partner, enter the state of an end action. -/
theorem State.Agree.stopped (h : s.Agree up) (hp : s.Leads p) (hw : (s.motor p).waiting = []) {v : State} {c : Command}
    {e : EndAction} {g : Motor → Int} (hmot : s.MotionOnly v) (hpair : ∀ k, v.pair k = s.pair k)
    (hcp : c.pair = (s.motor p).pair)
    (hm : ∀ x, v.motor x = if x ∈ s.portsOf p c then (s.motor x).enter e (g (s.motor x)) else s.motor x) : v.Agree up := by
  have hi := Motor.enter_idle hw e
  rcases hp with hn | ⟨k, q, hq, hk, rfl⟩
  · rw [State.portsOf_single _ _ (hcp.trans hn)] at hm
    refine h.single hn (hmot.sameBut hpair fun x hx => ?_) ?_ ?_ ?_
    · rw [hm, if_neg (by simpa using hx)]
    all_goals rw [hm, if_pos List.mem_cons_self]
    · rw [Motor.enter_pair, hn]
    · exact (hi _).queued _
    · simp [(hi _).state, (hi _).active]
  · have hb := h.isBound hq
    rw [State.portsOf_double _ (hcp.trans hk) hq] at hm
    have hon : ∀ x, x = q.first ∨ x = q.second → (v.motor x).Idle ∧ (v.motor x).pair = some k := fun x hx => by
      rw [hm, if_pos (by simpa using hx), Motor.enter_pair]
      rcases hx with rfl | rfl
      · exact ⟨hi _, hk⟩
      · exact ⟨Motor.enter_idle hb.second.2 _ _, hb.pair.2⟩
    refine h.double hq (hmot.sameBut hpair fun x hx => ?_) (fun x hx => (hon x hx).2)
      ⟨(hon _ (.inr rfl)).1.active, (hon _ (.inr rfl)).1.waiting⟩ ((hon _ (.inl rfl)).1.queued _) (fun x hx => ?_)
    · rw [hm, if_neg (by simpa using hx)]
    · simp [(hon x hx).1.state, (hon _ (.inl rfl)).1.active]

/-- A port with an active command leads: the second port of a pair has none (R57). -/
theorem State.Agree.leads (h : s.Agree up) (ha : (s.motor p).active ≠ none) : s.Leads p := by
  rcases h.alone_or_bound p with hn | ⟨k, q, hq, hk, rfl | rfl⟩
  · exact .inl hn
  · exact .inr ⟨k, q, hq, hk, rfl⟩
  · exact absurd (h.isBound hq).second.1 ha

/-- A channel's command ends and the next waiting one starts, or it stops. -/
theorem State.Agree.finish (h : s.Agree up) (p : Port) (o : EndOutcome) (f : StartFrom) : (s.finish p o f).Agree up := by
  unfold State.finish
  dsimp only
  split
  · exact h
  · rename_i c hc
    have hp := h.leads (p := p) (by simp [hc])
    have hcp := ((h.queues p).commands c (by simp [hc])).1
    have hd := (State.LinksOnly.refl s).motionDone p c o true
    split
    · rename_i next rest hw
      have hlen := (h.queues p).waiting.1
      rw [hw] at hlen
      refine h.startCommand hp (Nat.le_of_succ_le hlen) (fun x hx => (h.queues p).commands x ?_) (hd.motion.setMotor _ _)
        hd.pair (fun x => ?_) f
      · simp only [hw, List.mem_append]
        exact .inr hx
      · simp only [State.setMotor_motor, hd.motor]
    · rename_i hw
      have hnodup : (State.portsOf (s.motionDone p c o true) p c).Nodup := by
        rcases hp with hn | ⟨k, q, hq, hk, rfl⟩
        · rw [State.portsOf_single _ _ (hcp.trans hn)]
          exact List.nodup_singleton _
        · rw [State.portsOf_double _ (hcp.trans hk) ((hd.pair k).trans hq)]
          simpa using (h.isBound hq).ports
      obtain ⟨hmot, hpair, hm⟩ := foldl_enter hnodup c.endAction
        (fun m => if (decide (o = .done) && c.kind.bounded) = true then m.profile.target else m.position)
        (s.motionDone p c o true)
      simp only [hd.motor] at hm
      refine h.stopped (c := c) (e := c.endAction) hp hw
        (g := fun m => if (decide (o = .done) && c.kind.bounded) = true then m.profile.target else m.position)
        (hd.motion.trans hmot) (fun k => (hpair k).trans (hd.pair k)) hcp fun x => (hm x).trans ?_
      rw [State.portsOf_congr hd.pair]

/-! ### Placing a command (R47, R48) -/

theorem State.MotionOnly.placeCommand (s : State) (p : Port) (c : Command) (append : Bool) :
    s.MotionOnly (s.placeCommand p c append) := by
  unfold State.placeCommand
  split
  · exact .setMotor (.refl s) _ _
  · rw [State.replaceCommand_eq]
    exact (((State.LinksOnly.refl s).endNotices p _ _).motion.setMotor _ _).trans (.startCommand _ _ _ _)

/-- A leading channel runs exactly while it has an active command. -/
theorem State.Agree.running_leads (h : s.Agree up) (hp : s.Leads p) :
    (s.motor p).state = .running ↔ (s.motor p).active ≠ none := by
  rcases hp with hn | ⟨k, q, hq, _, rfl⟩
  · exact h.running p hn
  · exact ((h.pairs k q hq).2.2 _ (.inl rfl)).2.2

/-- A command of the holder of a leading port replaces those there, or joins at most three that wait. -/
theorem State.Agree.placeCommand (h : s.Agree up) (hp : s.Leads p) {c : Command} {append : Bool}
    (hc : c.pair = (s.motor p).pair ∧ (s.port p).holder = some c.link)
    (hl : append = true → (s.motor p).state = .running → (s.motor p).waiting.length < 4) :
    (s.placeCommand p c append).Agree up := by
  unfold State.placeCommand
  split
  · rename_i hj
    obtain ⟨ha, hr⟩ : append = true ∧ (s.motor p).state = .running := by simpa using hj
    have hact := (h.running_leads hp).mp hr
    have hq : ({ s.motor p with waiting := (s.motor p).waiting ++ [c] } : Motor).Queued (s.port p).holder := by
      refine ⟨⟨?_, fun e => absurd e hact⟩, fun x hx => ?_⟩
      · have := hl ha hr
        simp only [List.length_append, List.length_singleton]
        omega
      · simp only [← List.append_assoc, List.mem_append (s := _ ++ _), List.mem_singleton] at hx
        rcases hx with hx | rfl
        · exact (h.queues p).commands x hx
        · exact hc
    have hm := fun x => State.setMotor_motor s p x { s.motor p with waiting := (s.motor p).waiting ++ [c] }
    have hmot : s.MotionOnly (s.setMotor p { s.motor p with waiting := (s.motor p).waiting ++ [c] }) :=
      .setMotor (.refl s) _ _
    rcases hp with hn | ⟨k, q, hk, hpk, rfl⟩
    · refine h.single hn (hmot.sameBut (fun _ => rfl) fun x hx => by rw [hm, if_neg hx]) ?_ ?_ ?_
      all_goals rw [hm, if_pos rfl]
      · exact hn
      · exact hq
      · exact h.running p hn
    · have hb := h.isBound hk
      refine h.double hk (hmot.sameBut (fun _ => rfl) fun x hx => by rw [hm, if_neg (not_or.mp hx).1]) ?_ ?_ ?_ ?_
      · rintro x (rfl | rfl)
        · rw [hm, if_pos rfl]
          exact hpk
        · rw [hm, if_neg (Ne.symm hb.ports)]
          exact hb.pair.2
      · rw [hm, if_neg (Ne.symm hb.ports)]
        exact hb.second
      · rw [hm, if_pos rfl]
        exact hq
      · intro x hx
        rw [hm, hm, if_pos rfl]
        have := ((h.pairs k q hk).2.2 x hx).2.2
        split
        · rename_i hxf
          rw [hxf] at this
          exact this
        · exact this
  · have hd := (State.LinksOnly.refl s).endNotices p (s.motor p) .superseded
    rw [State.replaceCommand_eq]
    refine h.startCommand (ws := []) hp (Nat.zero_le 4) (by simpa using hc) (hd.motion.setMotor _ _) hd.pair (fun x => ?_) .request
    simp only [State.setMotor_motor, hd.motor]

/-! ### A port's channel is dropped, or departs, and its pair with it (R58, R59) -/

/-- The channel of a departed port, outside any pair. -/
def Motor.departed (m : Motor) : Motor := { m.vacated with pair := none }

theorem Motor.departed_idle (m : Motor) : m.departed.Idle := ⟨by simp [Motor.departed, Motor.vacated], rfl, rfl⟩

theorem Motor.released_idle (m : Motor) : m.released.Idle := ⟨by simp [Motor.released, Motor.ended], rfl, rfl⟩

theorem State.MotionOnly.departMotor (s : State) (p : Port) : s.MotionOnly (s.departMotor p) := by
  unfold State.departMotor
  exact ((State.MotionOnly.endEnter s _ _ _ _).setMotor _ _).trans (.unpair _ _)

/-- The departure of a port outside any pair. -/
theorem State.departMotor_unpaired (h : (s.motor p).pair = none) :
    s.departMotor p = (s.endAll p .removed).setMotor p (s.motor p).departed := by
  have hm : ((s.endAll p .removed).enterAll [] .coast).motor p = { s.motor p with active := none, waiting := [] } :=
    (State.endAll_motor s p p .removed).trans (if_pos rfl)
  have hv : ({ s.motor p with active := none, waiting := [] } : Motor).vacated = (s.motor p).departed := by
    unfold Motor.departed Motor.vacated
    rw [← h]
  unfold State.departMotor
  rw [State.queuePort_unpaired h, State.haltPorts_unpaired h]
  simp only [ne_eq, decide_not, List.filter_cons, decide_true, Bool.not_true, Bool.false_eq_true, if_false, List.filter_nil]
  rw [hm, hv, State.unpair_none (by rw [State.setMotor_motor_self]; rfl)]
  rfl

theorem State.departMotor_unpaired_motor (h : (s.motor p).pair = none) (x : Port) :
    (s.departMotor p).motor x = if x = p then (s.motor p).departed else s.motor x := by
  rw [State.departMotor_unpaired h, State.setMotor_motor, State.endAll_motor]
  split <;> rfl

/-- A pair is dissolved, and nothing else of its channels changes (R58). -/
theorem State.freePair_bound (hk : s.pair k = some q) (hn : q.first ≠ q.second) :
    (∀ x, (s.freePair k).motor x = if x = q.first ∨ x = q.second then { s.motor x with pair := none } else s.motor x) ∧
    ∀ j, (s.freePair k).pair j = if j = k then none else s.pair j := by
  simp only [State.freePair, hk]
  constructor
  · intro x
    rw [State.setPair_motor, State.setMotor_motor, State.setMotor_motor, State.setMotor_motor]
    by_cases h2 : x = q.second
    · simp [h2, Ne.symm hn]
    · by_cases h1 : x = q.first
      · simp [h1, hn]
      · simp [h1, h2]
  · intro j
    rw [State.pair, State.setPair_pairs, Table.get_set]
    rfl

theorem State.unpair_bound (hp : (s.motor p).pair = some k) : s.unpair p = s.freePair k := by
  simp [State.unpair, hp]

/-- The ports of a pair but `p`. -/
theorem Pair.filter_ne (hn : q.first ≠ q.second) (hp : p = q.first ∨ p = q.second) :
    ∃ y, [q.first, q.second].filter (fun x => decide (x ≠ p)) = [y] ∧ y ≠ p ∧
      ∀ x, (x = q.first ∨ x = q.second) ↔ (x = p ∨ x = y) := by
  rcases hp with rfl | rfl
  · exact ⟨q.second, by simp [Ne.symm hn], Ne.symm hn, fun x => Iff.rfl⟩
  · exact ⟨q.first, by simp [hn], hn, fun x => or_comm⟩

/-- The commands of a pair end; those of its second channel's own are none. -/
theorem State.Bound.endAll_motor (h : s.Bound k q) (o : EndOutcome) (x : Port) : (s.endAll q.first o).motor x =
    if x = q.first ∨ x = q.second then { s.motor x with active := none, waiting := [] } else s.motor x := by
  rw [State.endAll_motor]
  by_cases h1 : x = q.first
  · simp [h1]
  · by_cases h2 : x = q.second
    · rw [if_neg h1, if_pos (.inr h2), h2]
      conv_rhs => rw [← h.second.1, ← h.second.2]
    · rw [if_neg h1, if_neg (not_or.mpr ⟨h1, h2⟩)]

/-- The departure of a port of a pair dissolves the pair, and its partner coasts (R58, R59). -/
theorem State.departMotor_bound (h : s.Bound k q) (hp : p = q.first ∨ p = q.second) :
    (∀ x, (s.departMotor p).motor x = if x = p then (s.motor p).departed
      else if x = q.first ∨ x = q.second then (s.motor x).released else s.motor x) ∧
    ∀ j, (s.departMotor p).pair j = if j = k then none else s.pair j := by
  have hpk : (s.motor p).pair = some k := by
    rcases hp with rfl | rfl
    · exact h.pair.1
    · exact h.pair.2
  obtain ⟨y, hy, hyp, hall⟩ := Pair.filter_ne h.ports hp
  have hv : ∀ x, ((s.endAll q.first .removed).enterAll [y] .coast).motor x =
      if x = y then (s.motor y).ended .coast (s.motor y).position
      else if x = p then { s.motor p with active := none, waiting := [] } else s.motor x := fun x => by
    rw [State.enterAll_motor _ (by simp), h.endAll_motor]
    by_cases hxy : x = y
    · rw [if_pos (by simp [hxy]), if_pos ((hall x).mpr (.inr hxy)), if_pos hxy, hxy]
      exact Motor.enter_ended _ _ _
    · by_cases hxp : x = p
      · rw [if_neg (by simpa using hxy), if_pos ((hall x).mpr (.inl hxp)), if_neg hxy, if_pos hxp, hxp]
      · rw [if_neg (by simpa using hxy), if_neg fun e => ((hall x).mp e).elim hxp hxy, if_neg hxy, if_neg hxp]
  have hpairs : ((s.endAll q.first .removed).enterAll [y] .coast).pairs = s.pairs := by simp
  have he : s.departMotor p = (((s.endAll q.first .removed).enterAll [y] .coast).setMotor p
      (Motor.vacated { s.motor p with active := none, waiting := [] })).freePair k := by
    unfold State.departMotor
    rw [State.queuePort_bound hpk h.entry, State.haltPorts_bound hpk h.entry]
    dsimp only
    rw [hy, hv, if_neg (Ne.symm hyp), if_pos rfl, State.unpair_bound]
    rw [State.setMotor_motor_self]
    exact hpk
  obtain ⟨hm, hj⟩ := State.freePair_bound (s := ((s.endAll q.first .removed).enterAll [y] .coast).setMotor p
    (Motor.vacated { s.motor p with active := none, waiting := [] })) (k := k) (q := q)
    ((State.pair_congr hpairs k).trans h.entry) h.ports
  rw [he]
  refine ⟨fun x => ?_, fun j => by rw [hj]; exact if_congr Iff.rfl rfl (State.pair_congr hpairs j)⟩
  rw [hm, State.setMotor_motor, hv]
  by_cases hxp : x = p
  · rw [if_pos ((hall x).mpr (.inl hxp)), if_pos hxp, if_pos hxp]
    rfl
  · by_cases hxy : x = y
    · rw [if_pos ((hall x).mpr (.inr hxy)), if_neg hxp, if_neg hxp, if_pos ((hall x).mpr (.inr hxy)), if_pos hxy, hxy,
        if_neg hyp]
      rfl
    · have hn : ¬ (x = q.first ∨ x = q.second) := fun e => ((hall x).mp e).elim hxp hxy
      rw [if_neg hn, if_neg hxp, if_neg hxp, if_neg hn, if_neg hxy, if_neg hxp]

/-- Where a port stands to the pairs: the ports that are dissolved with it. -/
def State.Partners (s : State) (p x : Port) : Prop :=
  x = p ∨ ∃ k q, s.pair k = some q ∧ (p = q.first ∨ p = q.second) ∧ (x = q.first ∨ x = q.second)

theorem State.Agree.partners_unpaired (h : s.Agree up) (hn : (s.motor p).pair = none) (x : Port) : s.Partners p x ↔ x = p := by
  refine ⟨fun hx => hx.elim id ?_, .inl⟩
  rintro ⟨k, q, hq, hp, _⟩
  obtain ⟨hf, hsec⟩ := (h.isBound hq).pair
  rcases hp with rfl | rfl
  · rw [hn] at hf; cases hf
  · rw [hn] at hsec; cases hsec

theorem State.Agree.partners_bound (h : s.Agree up) (hq : s.pair k = some q) (hp : p = q.first ∨ p = q.second) (x : Port) :
    s.Partners p x ↔ (x = q.first ∨ x = q.second) := by
  constructor
  · rintro (rfl | ⟨j, r, hr, hpr, hx⟩)
    · exact hp
    · rwa [(h.pair_unique hq hr hp hpr).2] at hx
  · exact fun hx => .inr ⟨k, q, hq, hp, hx⟩

/-- A pair goes with a port whole, or not at all. -/
theorem State.Agree.partners_whole (h : s.Agree up) (p : Port) {j : Nat} {r : Pair} (hr : s.pair j = some r) :
    s.Partners p r.first ↔ s.Partners p r.second := by
  rcases h.alone_or_bound p with hn | ⟨k, q, hq, _, hp⟩
  · obtain ⟨hf, hsec⟩ := (h.isBound hr).pair
    rw [h.partners_unpaired hn, h.partners_unpaired hn]
    constructor
    · intro e; rw [e, hn] at hf; cases hf
    · intro e; rw [e, hn] at hsec; cases hsec
  · rw [h.partners_bound hq hp, h.partners_bound hq hp]
    constructor
    · intro e
      rw [(h.pair_unique hq hr e (.inl rfl)).2]
      exact .inr rfl
    · intro e
      rw [(h.pair_unique hq hr e (.inr rfl)).2]
      exact .inl rfl

/-- A port has let go of its channel and its pair: they are idle and dissolved, and all other channels and pairs stand. -/
structure State.LetGo (s t : State) (p : Port) : Prop where
  freed : ∀ x, s.Partners p x → (t.motor x).Idle ∧ (t.motor x).pair = none
  kept : ∀ x, ¬ s.Partners p x → t.motor x = s.motor x
  pairs : ∀ k q, t.pair k = some q ↔ s.pair k = some q ∧ ¬ s.Partners p q.first

/-- What frees the channels of a port or of its pair lets the port go. -/
theorem State.Agree.letGo_unpaired (h : s.Agree up) (hn : (s.motor p).pair = none) {m : Motor} (hi : m.Idle) (hm : m.pair = none)
    (ht : ∀ x, t.motor x = if x = p then m else s.motor x) (hk : ∀ k, t.pair k = s.pair k) : s.LetGo t p := by
  have hpart := h.partners_unpaired hn
  refine ⟨fun x hx => ?_, fun x hx => ?_, fun k q => ?_⟩
  · rw [ht, if_pos ((hpart x).mp hx)]
    exact ⟨hi, hm⟩
  · rw [ht, if_neg fun e => hx ((hpart x).mpr e)]
  · rw [hk, hpart]
    refine ⟨fun hq => ⟨hq, fun e => ?_⟩, And.left⟩
    have hf := (h.isBound hq).pair.1
    rw [e, hn] at hf
    cases hf

theorem State.Agree.letGo_bound (h : s.Agree up) (hq : s.pair k = some q) (hp : p = q.first ∨ p = q.second)
    (hon : ∀ x, x = q.first ∨ x = q.second → (t.motor x).Idle ∧ (t.motor x).pair = none)
    (hoff : ∀ x, ¬ (x = q.first ∨ x = q.second) → t.motor x = s.motor x)
    (hk : ∀ j, t.pair j = if j = k then none else s.pair j) : s.LetGo t p := by
  have hpart := h.partners_bound hq hp
  refine ⟨fun x hx => hon x ((hpart x).mp hx), fun x hx => hoff x fun e => hx ((hpart x).mpr e), fun j r => ?_⟩
  rw [hk, hpart]
  split
  · rename_i hj
    subst hj
    refine ⟨fun e => (by cases e), fun e => absurd ?_ e.2⟩
    rw [Option.some.inj (hq.symm.trans e.1)]
    exact .inl rfl
  · rename_i hj
    refine ⟨fun hr => ⟨hr, fun e => hj (h.pair_unique hq hr e (.inl rfl)).1⟩, And.left⟩

theorem State.Agree.dropMotor_letGo (h : s.Agree up) (p : Port) (o : EndOutcome) : s.LetGo (s.dropMotor p o) p := by
  rcases h.alone_or_bound p with hn | ⟨k, q, hq, _, hp⟩
  · obtain ⟨hm, hk⟩ := State.dropMotor_unpaired hn o
    exact h.letGo_unpaired hn (Motor.released_idle _) rfl hm hk
  · obtain ⟨hm, hk⟩ := State.dropMotor_bound (h.isBound hq) hp o
    exact h.letGo_bound hq hp (fun x hx => by rw [hm, if_pos hx]; exact ⟨Motor.released_idle _, rfl⟩)
      (fun x hx => by rw [hm, if_neg hx]) hk

theorem State.Agree.departMotor_letGo (h : s.Agree up) (p : Port) : s.LetGo (s.departMotor p) p := by
  rcases h.alone_or_bound p with hn | ⟨k, q, hq, _, hp⟩
  · exact h.letGo_unpaired hn (Motor.departed_idle _) rfl (State.departMotor_unpaired_motor hn)
      (State.pair_congr (by rw [State.departMotor_unpaired hn]; simp))
  · obtain ⟨hm, hk⟩ := State.departMotor_bound (h.isBound hq) hp
    refine h.letGo_bound hq hp (fun x hx => ?_) (fun x hx => ?_) hk
    · rw [hm]
      by_cases hxp : x = p
      · rw [if_pos hxp]
        exact ⟨Motor.departed_idle _, rfl⟩
      · rw [if_neg hxp, if_pos hx]
        exact ⟨Motor.released_idle _, rfl⟩
    · rw [hm, if_neg (fun e => hx (by rw [e]; exact hp)), if_neg hx]

/-- A port that has let go takes any sound record; a port alone may change its own (R31, R36). -/
theorem State.Agree.letGo (h : s.Agree up) (hl : s.LetGo t p) (ht : s.MotionOnly t) {r : PortRec} (hr : r.Sound up) :
    (t.setPort p r).Agree up := by
  have hport : ∀ x, (t.setPort p r).port x = if x = p then r else s.port x := fun x => by
    rw [State.setPort_port, ht.port]
  refine h.freed (D := s.Partners p) (fun x => ?_) (fun l hI => h.heldI l (by rw [← ht.holderI]; exact hI))
    (fun _ _ hq => h.partners_whole p hq) hl.freed (fun x hx => ?_) hl.pairs
  · rw [hport]
    split
    · exact hr
    · exact h.ports x
  · rw [hport, if_neg fun e => hx (.inl e)]
    exact ⟨congrArg _ (hl.kept x hx), rfl⟩

/-! ### CUTOFF (R61) -/

theorem foldl_endAll (ps : List Port) (o : EndOutcome) (s : State) :
    s.MotionOnly (ps.foldl (fun t p => t.endAll p o) s) ∧ (ps.foldl (fun t p => t.endAll p o) s).pairs = s.pairs ∧
    ∀ x, (ps.foldl (fun t p => t.endAll p o) s).motor x =
      if x ∈ ps then { s.motor x with active := none, waiting := [] } else s.motor x := by
  induction ps generalizing s with
  | nil => exact ⟨.refl s, rfl, fun _ => rfl⟩
  | cons p rest ih =>
    obtain ⟨h1, h2, h3⟩ := ih (s.endAll p o)
    refine ⟨(State.MotionOnly.endAll s p o).trans h1, h2.trans (by simp), fun x => ?_⟩
    rw [List.foldl_cons, h3, State.endAll_motor]
    by_cases hx : x = p
    · rw [if_pos hx, hx]
      simp
    · simp [hx]

/-- Every channel after the entry to CUTOFF (R61). -/
theorem State.cutoffMotors_motor (s : State) (x : Port) : s.cutoffMotors.motor x =
    if (s.motor x).state ≠ .free ∨ (s.motor x).duty ≠ 0 then (s.motor x).ended .coast (s.motor x).position
    else { s.motor x with active := none, waiting := [] } := by
  obtain ⟨_, _, hm⟩ := foldl_endAll allPorts .supply s
  unfold State.cutoffMotors
  rw [State.enterAll_motor _ ((by decide : allPorts.Nodup).filter _), hm, if_pos (mem_allPorts x)]
  simp only [List.mem_filter, mem_allPorts, true_and, decide_eq_true_eq]
  split
  · exact Motor.enter_ended _ _ _
  · rfl

theorem State.MotionOnly.cutoffMotors (s : State) : s.MotionOnly s.cutoffMotors :=
  (foldl_endAll allPorts .supply s).1.trans (.enterAll _ _ _)

theorem State.Agree.cutoffMotors (h : s.Agree up) : s.cutoffMotors.Agree up := by
  have hi : ∀ x, (s.cutoffMotors.motor x).Idle ∧ (s.cutoffMotors.motor x).pair = (s.motor x).pair := fun x => by
    rw [State.cutoffMotors_motor]
    split
    · exact ⟨Motor.ended_idle _ _ _, Motor.ended_pair _ _ _⟩
    · rename_i hf
      have hfree : (s.motor x).state = .free := not_not.mp (not_or.mp hf).1
      exact ⟨⟨by simp [hfree], rfl, rfl⟩, rfl⟩
  have hpair : ∀ k, s.cutoffMotors.pair k = s.pair k := State.pair_congr (by
    simp [State.cutoffMotors, (foldl_endAll allPorts .supply s).2.1])
  refine h.change (D := fun _ => True) ((State.MotionOnly.cutoffMotors s).sameBut hpair fun x hx => absurd trivial hx)
    (fun _ _ _ => Iff.rfl) (fun x _ => ⟨(hi x).2, (hi x).1.queued _⟩) (fun x _ _ => ?_) (fun k q _ _ => ⟨?_, fun x _ => ?_⟩)
  · simp [(hi x).1.state, (hi x).1.active]
  · exact ⟨(hi _).1.active, (hi _).1.waiting⟩
  · simp [(hi x).1.state, (hi q.first).1.active]

end Ends

end Sys2Proof.Machine

/-! SUPPORT. What the commands of reports, sound, asset store and media leave alone: the claims, everything that the agreement
of ports, channels and pairs reads beside the Link Units. -/

namespace Sys2Proof.Machine

/-! ### Claims -/

/-- What the agreement reads of the hub beside the Link Units, with whether RESET is asserted. -/
def State.claims (s : State) : (Port → PortState × Option IdentStage × Option DeviceRecord × Option Link) ×
    (Port → ChanState × Option Command × List Command × Option Nat) × (Nat → Option Pair) × Option Link × Bool :=
  (fun p => (s.port p).claim, fun p => (s.motor p).claim, s.pair, s.holderI, s.hub.held)

@[simp] theorem State.notify_claims (s : State) (l : Link) (b : NoticeBody) : (s.notify l b).claims = s.claims := by
  rw [State.notify_links_only]; rfl

@[simp] theorem State.notifyBoth_claims (s : State) (b : NoticeBody) : (s.notifyBoth b).claims = s.claims := by
  rw [State.notifyBoth_links_only]; rfl

@[simp] theorem State.respond_claims (s : State) (t : Ticket) (j : Judgement) (b : List Byte) :
    (s.respond t j b).claims = s.claims := rfl

@[simp] theorem State.refuse_claims (s : State) (t : Ticket) (j : Judgement) : (s.refuse t j).claims = s.claims := rfl

@[simp] theorem State.complete_claims (s : State) (t : Ticket) (b : List Byte) :
    (s.complete t b).claims = s.claims := rfl

@[simp] theorem State.setVoice_claims (s : State) (v : VoiceId) (x : Option Voice) :
    (s.setVoice v x).claims = s.claims := rfl

@[simp] theorem State.setSound_claims (s : State) (x : SoundUnit) : (s.setSound x).claims = s.claims := rfl

@[simp] theorem State.setSched_claims (s : State) (l : Link) (x : Scheduler) : (s.setSched l x).claims = s.claims := rfl

@[simp] theorem State.setLink_claims (s : State) (l : Link) (x : LinkUnit) : (s.setLink l x).claims = s.claims := rfl

@[simp] theorem State.setView_claims (s : State) (l : Link) (c : Chan) (x : View) :
    (s.setView l c x).claims = s.claims := rfl

@[simp] theorem State.claims_with (s : State) (pe : List Instr) (pi : Pins) (li : PerLink LinkUnit)
    (sa : PerChan Sample)
    (vi : PerLink (PerChan View)) (sh : SharedI) (br : BrickState) (bs : BrickSettings) (bw : DetectorWork) (su : PerLink Byte)
    (wa : PerLink (Table (Option Watch))) (sc : PerLink Scheduler) (so : SoundUnit) (a : AssetMap) (me : Media) (sp : Supply) :
    ({ s with pending := pe, pins := pi, links := li, samples := sa, views := vi, sharedI := sh, brick := br, brickSet := bs,
              brickWork := bw, subs := su, watches := wa, scheds := sc, sound := so, assets := a, media := me, supply := sp } :
                State).claims = s.claims := rfl

theorem State.MediaOnly.claims {s t : State} (h : s.MediaOnly t) : t.claims = s.claims := by
  rw [h.eq]; rfl

theorem State.check_claims (s : State) (t : Ticket) (cs : List (Bool × Judgement)) {f : State → State}
    (hf : (f s).claims = s.claims) : (s.check t cs f).claims = s.claims := by
  unfold State.check
  split
  · rfl
  · exact hf

theorem foldl_claims {β : Type} {f : State → β → State} (hf : ∀ t x, (f t x).claims = t.claims) (xs : List β) (s : State) :
    (xs.foldl f s).claims = s.claims :=
  List.foldlRecOn (motive := fun t => t.claims = s.claims) xs f rfl fun t ht x _ => (hf t x).trans ht

/-! ### Blocks, versions and reads (R142, R143, R151) -/

@[simp] theorem State.setBlock_claims (s : State) (b : Nat) (x : Block) : (s.setBlock b x).claims = s.claims :=
  ((State.MediaOnly.refl s).setBlock b x).claims

@[simp] theorem State.abandonRefresh_claims (s : State) (left : BlockState) :
    (s.abandonRefresh left).claims = s.claims :=
  ((State.MediaOnly.refl s).abandonRefresh left).claims

@[simp] theorem State.setBlockState_claims (s : State) (b : Nat) (st : BlockState) :
    (s.setBlockState b st).claims = s.claims :=
  ((State.MediaOnly.refl s).setBlockState b st).claims

@[simp] theorem State.setBlockStates_claims (s : State) (bs : List Nat) (st : BlockState) :
    (s.setBlockStates bs st).claims = s.claims :=
  ((State.MediaOnly.refl s).setBlockStates bs st).claims

@[simp] theorem State.setEntry_claims (s : State) (n : Nat) (e : DirEntry) : (s.setEntry n e).claims = s.claims := by
  simp [State.setEntry]

@[simp] theorem State.setReadMark_claims (s : State) (n : Nat) : (s.setReadMark n).claims = s.claims := by
  simp [State.setReadMark]

@[simp] theorem State.cachedBlock_claims (s : State) (n logical : Nat) (v : VersionImage) :
    (s.cachedBlock n logical v).1.claims = s.claims := by
  simp only [State.cachedBlock]
  split <;> simp

@[simp] theorem State.flushUser_claims (s : State) : s.flushUser.claims = s.claims := by
  simp [State.flushUser]

@[simp] theorem State.flushBlock_claims (s : State) (b : Nat) : (s.flushBlock b).claims = s.claims := by
  simp [State.flushBlock]

@[simp] theorem State.flushAll_claims (s : State) : s.flushAll.claims = s.claims := by
  simp [State.flushAll]

@[simp] theorem State.pin_claims (s : State) (holder : Nat) : (s.pin holder).claims = s.claims := by
  simp only [State.pin]
  split <;> simp

@[simp] theorem State.unpinRetired_claims (s : State) (holder serial : Nat) :
    (s.unpinRetired holder serial).claims = s.claims := by
  simp [State.unpinRetired]

@[simp] theorem State.unpin_claims (s : State) (holder serial : Nat) : (s.unpin holder serial).claims = s.claims := by
  unfold State.unpin
  repeat' split
  all_goals simp

@[simp] theorem State.supersede_claims (s : State) (holder : Nat) (v : Version) :
    (s.supersede holder v).claims = s.claims := by
  simp only [State.supersede]
  split <;> simp

@[simp] theorem State.lookupPages_claims (s : State) (n : Nat) (v : VersionImage) (xs : List (Nat × Nat)) :
    (s.lookupPages n v xs).1.claims = s.claims := by
  induction xs generalizing s with
  | nil => rfl
  | cons x rest ih => simp [State.lookupPages, ih]

@[simp] theorem State.readFails_claims (s : State) (t : Ticket) (p : ReadPurpose) (j : Judgement) (hit factory : Bool) :
    (s.readFails t p j hit factory).claims = s.claims := by
  simp only [State.readFails]
  split <;> simp

@[simp] theorem State.beginRead_claims (s : State) (t : Ticket) (p : ReadPurpose) :
    (s.beginRead t p).claims = s.claims := by
  simp only [State.beginRead]
  split <;> simp

@[simp] theorem State.dropRead_claims (s : State) (t : Ticket) : (s.dropRead t).claims = s.claims := by
  simp [State.dropRead]

@[simp] theorem State.restartReads_claims (s : State) (holder number : Nat) :
    (s.restartReads holder number).claims = s.claims :=
  foldl_claims (by simp) _ s

@[simp] theorem State.finishRead_claims (s : State) (j : ReadJob) : (s.finishRead j).claims = s.claims := by
  simp only [State.finishRead]
  split <;> simp

@[simp] theorem State.readArrived_claims (s : State) (t : Ticket) (slot : Nat) (data : Option (List Byte)) :
    (s.readArrived t slot data).claims = s.claims := by
  unfold State.readArrived
  dsimp only
  repeat' split
  all_goals simp

/-! ### Changes of the directory (R160) -/

@[simp] theorem State.applyChange_claims (s : State) (n : Nat) (r : CatRecord) (replaces : Bool) :
    (s.applyChange n r replaces).claims = s.claims := by
  simp only [State.applyChange]
  split <;> simp

/-! ### Sounds (R124 to R133) -/

@[simp] theorem State.askRefill_claims (s : State) (x : VoiceId) : (s.askRefill x).claims = s.claims := by
  unfold State.askRefill
  repeat' split
  all_goals simp

@[simp] theorem State.takeVoice_claims (s : State) (v : VoiceId) (x : Sound) : (s.takeVoice v x).claims = s.claims := by
  simp [State.takeVoice]

@[simp] theorem State.fillVoice_claims (s : State) (v : VoiceId) : (s.fillVoice v).claims = s.claims := by
  simp only [State.fillVoice]
  split <;> simp

@[simp] theorem State.fillVoices_claims (s : State) : s.fillVoices.claims = s.claims :=
  foldl_claims (by simp) _ s

@[simp] theorem State.dropPin_claims (s : State) (x : Sound) : (s.dropPin x).claims = s.claims := by
  simp only [State.dropPin]
  split <;> simp

@[simp] theorem State.endVoice_claims (s : State) (v : VoiceId) (o : EndOutcome) :
    (s.endVoice v o).claims = s.claims := by
  simp only [State.endVoice]
  split <;> simp

@[simp] theorem State.endWaiting_claims (s : State) (x : Sound) (o : EndOutcome) :
    (s.endWaiting x o).claims = s.claims := by
  simp [State.endWaiting]

@[simp] theorem State.endSounds_claims (s : State) (p : Sound → Bool) (o : EndOutcome) :
    (s.endSounds p o).claims = s.claims := by
  unfold State.endSounds
  simp only [State.fillVoices_claims]
  refine (foldl_claims (by simp) _ _).trans (foldl_claims (fun t v => ?_) _ s)
  repeat' split
  all_goals simp

@[simp] theorem State.finishVoice_claims (s : State) (v : VoiceId) (o : EndOutcome) :
    (s.finishVoice v o).claims = s.claims := by
  simp [State.finishVoice]

@[simp] theorem State.placeSound_claims (s : State) (x : Sound) : (s.placeSound x).1.claims = s.claims := by
  unfold State.placeSound
  repeat' split
  all_goals simp

@[simp] theorem State.refillArrived_claims (s : State) (v : VoiceId) (data : List Byte) :
    (s.refillArrived v data).claims = s.claims := by
  unfold State.refillArrived
  repeat' split
  all_goals simp

@[simp] theorem State.toneEnd_claims (s : State) (v : VoiceId) : (s.toneEnd v).claims = s.claims := by
  simp only [State.toneEnd]
  split <;> simp

@[simp] theorem State.passEnd_claims (s : State) (v : VoiceId) : (s.passEnd v).claims = s.claims := by
  unfold State.passEnd
  dsimp only
  repeat' split
  all_goals simp

@[simp] theorem State.starved_claims (s : State) (v : VoiceId) : (s.starved v).claims = s.claims := by
  simp only [State.starved]
  split <;> simp

@[simp] theorem State.voiceSample_claims (s : State) (v : VoiceId) : (s.voiceSample v).1.claims = s.claims := by
  unfold State.voiceSample
  repeat' split
  all_goals simp

@[simp] theorem State.voiceSamples_claims (s : State) (xs : List VoiceId) :
    (s.voiceSamples xs).1.claims = s.claims := by
  induction xs generalizing s with
  | nil => rfl
  | cons x rest ih => simp [State.voiceSamples, ih]

@[simp] theorem State.outputSample_claims (s : State) : s.outputSample.claims = s.claims := by
  simp [State.outputSample]

/-! ### The media (R144 to R163) -/

@[simp] theorem State.setWork_claims (s : State) (m : Media) : (s.setWork m).claims = s.claims :=
  ((State.MediaOnly.refl s).setWork m).claims

@[simp] theorem State.ask2_claims (s : State) (o : FlashOp) : (s.ask2 o).claims = s.claims :=
  ((State.MediaOnly.refl s).ask2 o).claims

@[simp] theorem State.ask4_claims (s : State) (o : FlashOp) : (s.ask4 o).claims = s.claims :=
  ((State.MediaOnly.refl s).ask4 o).claims

@[simp] theorem State.askCompaction_claims (s : State) (o : FlashOp) : (s.askCompaction o).claims = s.claims :=
  ((State.MediaOnly.refl s).askCompaction o).claims

@[simp] theorem State.tidyErases_claims (s : State) : s.tidyErases.claims = s.claims :=
  ((State.MediaOnly.refl s).tidyErases).claims

@[simp] theorem State.startOp_claims (s : State) (o : FlashOp) : (s.startOp o).claims = s.claims :=
  ((State.MediaOnly.refl s).startOp o).claims

@[simp] theorem State.takeOp_claims (s : State) : s.takeOp.claims = s.claims := by
  unfold State.takeOp
  repeat' split
  all_goals simp

@[simp] theorem State.chooseOp_claims (s : State) : s.chooseOp.claims = s.claims := by
  simp only [State.chooseOp]
  split <;> simp

@[simp] theorem State.storeEvent_claims (s : State) (k : StoreEventKind) (previous : StoreState)
    (asset : Option Nat) (version : Nat) :
    (s.storeEvent k previous asset version).claims = s.claims := by
  simp [State.storeEvent]

@[simp] theorem State.pumpRecords_claims (s : State) : s.pumpRecords.claims = s.claims :=
  ((State.MediaOnly.refl s).pumpRecords).claims

@[simp] theorem State.append_claims (s : State) (r : CatRecord) (a : Asker) : (s.append r a).claims = s.claims :=
  ((State.MediaOnly.refl s).append r a).claims

@[simp] theorem State.badBlock_claims (s : State) (b : Nat) : (s.badBlock b).claims = s.claims :=
  ((State.MediaOnly.refl s).badBlock b).claims

@[simp] theorem State.takeReplacement_claims (s : State) (r : Nat × Bool) (st : BlockState) :
    (s.takeReplacement r st).claims = s.claims :=
  ((State.MediaOnly.refl s).takeReplacement r st).claims

@[simp] theorem State.endSession_claims (s : State) (j : Judgement) : (s.endSession j).claims = s.claims := by
  unfold State.endSession
  split
  · rfl
  · simp only [State.setBlockStates_claims, State.setWork_claims]
    exact foldl_claims (by simp) _ s

@[simp] theorem State.stopBackground_claims (s : State) : s.stopBackground.claims = s.claims := by
  simp [State.stopBackground]

@[simp] theorem State.stopAllBackground_claims (s : State) : s.stopAllBackground.claims = s.claims :=
  ((State.MediaOnly.refl s).stopAllBackground).claims

@[simp] theorem State.failSession_claims (s : State) (previous : StoreState) :
    (s.failSession previous).claims = s.claims := by
  simp only [State.failSession]
  split <;> simp

@[simp] theorem State.enterReadOnly_claims (s : State) : s.enterReadOnly.claims = s.claims := by
  unfold State.enterReadOnly
  dsimp only
  repeat' split
  all_goals simp

@[simp] theorem State.setSession_claims (s : State) (x : Session) : (s.setSession x).claims = s.claims :=
  ((State.MediaOnly.refl s).setSession x).claims

@[simp] theorem State.stepRepair_claims (s : State) (place : Nat) : (s.stepRepair place).claims = s.claims :=
  ((State.MediaOnly.refl s).stepRepair place).claims

@[simp] theorem State.replaceReserved_claims (s : State) (x : Session) (place b : Nat) (todo : List PageWork) :
    (s.replaceReserved x place b todo).claims = s.claims := by
  unfold State.replaceReserved
  dsimp only
  repeat' split
  all_goals simp

@[simp] theorem State.sessionBlockFailed_claims (s : State) (place : Nat) (todo : List PageWork) :
    (s.sessionBlockFailed place todo).claims = s.claims := by
  unfold State.sessionBlockFailed
  repeat' split
  all_goals simp

@[simp] theorem State.pumpClose_claims (s : State) : s.pumpClose.claims = s.claims :=
  ((State.MediaOnly.refl s).pumpClose).claims

@[simp] theorem State.committed_claims (s : State) (n : Nat) (v : VersionImage) :
    (s.committed n v).claims = s.claims := by
  unfold State.committed
  repeat' split
  all_goals simp

@[simp] theorem State.changeApplied_claims (s : State) : s.changeApplied.claims = s.claims := by
  unfold State.changeApplied
  repeat' split
  all_goals simp

@[simp] theorem State.remapApplied_claims (s : State) (old new : Nat) : (s.remapApplied old new).claims = s.claims := by
  unfold State.remapApplied
  repeat' split
  all_goals simp

@[simp] theorem State.refreshPageDone_claims (s : State) (page : Nat) : (s.refreshPageDone page).claims = s.claims :=
  ((State.MediaOnly.refl s).refreshPageDone page).claims

@[simp] theorem State.refreshFailed_claims (s : State) : s.refreshFailed.claims = s.claims := by
  unfold State.refreshFailed
  dsimp only
  repeat' split
  all_goals simp

@[simp] theorem State.recordFails_claims (s : State) (a : Asker) : (s.recordFails a).claims = s.claims := by
  unfold State.recordFails
  repeat' split
  all_goals simp

@[simp] theorem State.compactionFails_claims (s : State) : s.compactionFails.claims = s.claims := by
  simp [State.compactionFails, foldl_claims]

@[simp] theorem State.formatFails_claims (s : State) (f : Format) : (s.formatFails f).claims = s.claims := by
  simp only [State.formatFails]
  split <;> simp

@[simp] theorem State.formatDone_claims (s : State) (f : Format) : (s.formatDone f).claims = s.claims := by
  simp [State.formatDone]

@[simp] theorem State.snapshotDone_claims (s : State) (c : Compaction) (x : SnapshotImage) :
    (s.snapshotDone c x).claims = s.claims := by
  simp only [State.snapshotDone]
  split <;> simp

@[simp] theorem State.ringFailed_claims (s : State) : s.ringFailed.claims = s.claims := by
  unfold State.ringFailed
  repeat' split
  all_goals simp

@[simp] theorem State.askSnapshotPage_claims (s : State) (c : Compaction) (x : SnapshotImage) (i : Nat) :
    (s.askSnapshotPage c x i).claims = s.claims :=
  ((State.MediaOnly.refl s).askSnapshotPage c x i).claims

@[simp] theorem State.snapshotPageDone_claims (s : State) (i : Nat) : (s.snapshotPageDone i).claims = s.claims := by
  unfold State.snapshotPageDone
  repeat' split
  all_goals simp

@[simp] theorem State.setFormatSpares_claims (s : State) (f : Format) (bs : List Nat) :
    (s.setFormatSpares f bs).claims = s.claims :=
  ((State.MediaOnly.refl s).setFormatSpares f bs).claims

@[simp] theorem State.spareFailed_claims (s : State) (f : Format) (b : Nat) : (s.spareFailed f b).claims = s.claims :=
  ((State.MediaOnly.refl s).spareFailed f b).claims

@[simp] theorem State.beginFormat_claims (s : State) (t : Ticket) : (s.beginFormat t).claims = s.claims := by
  simp [State.beginFormat, foldl_claims]

@[simp] theorem State.blockLost_claims (s : State) (b : Nat) : (s.blockLost b).claims = s.claims := by
  unfold State.blockLost
  dsimp only
  repeat' split
  all_goals simp

@[simp] theorem State.afterAppend_claims (s : State) : s.afterAppend.claims = s.claims :=
  ((State.MediaOnly.refl s).afterAppend).claims

@[simp] theorem State.recordDone_claims (s : State) : s.recordDone.claims = s.claims := by
  unfold State.recordDone
  repeat' split
  all_goals simp

@[simp] theorem State.recordPageFailed_claims (s : State) : s.recordPageFailed.claims = s.claims := by
  simp [State.recordPageFailed]

@[simp] theorem State.sessionPageDone_claims (s : State) (place : Nat) (w : PageWork) (b : Nat) :
    (s.sessionPageDone place w b).claims = s.claims := by
  unfold State.sessionPageDone
  dsimp only
  repeat' split
  all_goals simp

@[simp] theorem State.copyDone_claims (s : State) (place page b : Nat) : (s.copyDone place page b).claims = s.claims :=
  ((State.MediaOnly.refl s).copyDone place page b).claims

@[simp] theorem State.workDone_claims (s : State) (o : FlashOp) : (s.workDone o).claims = s.claims := by
  simp only [State.workDone]
  split <;> simp

@[simp] theorem State.workFailed_claims (s : State) (o : FlashOp) : (s.workFailed o).claims = s.claims := by
  unfold State.workFailed
  repeat' split
  all_goals simp

@[simp] theorem State.askVerify_claims (s : State) (o : FlashOp) : (s.askVerify o).claims = s.claims :=
  ((State.MediaOnly.refl s).askVerify o).claims

@[simp] theorem State.programEnded_claims (s : State) (ok : Bool) : (s.programEnded ok).claims = s.claims := by
  unfold State.programEnded
  repeat' split
  all_goals simp

@[simp] theorem State.verifyEnded_claims (s : State) (sectors : List (Option Nat)) :
    (s.verifyEnded sectors).claims = s.claims := by
  unfold State.verifyEnded
  repeat' split
  all_goals simp

@[simp] theorem State.erased_claims (s : State) (o : FlashOp) : (s.erased o).claims = s.claims :=
  ((State.MediaOnly.refl s).erased o).claims

@[simp] theorem State.eraseFailed_claims (s : State) (o : FlashOp) : (s.eraseFailed o).claims = s.claims := by
  simp only [State.eraseFailed]
  split <;> simp

@[simp] theorem State.eraseEnded_claims (s : State) (ok : Bool) : (s.eraseEnded ok).claims = s.claims := by
  unfold State.eraseEnded
  repeat' split
  all_goals simp

@[simp] theorem State.noteCorrections_claims (s : State) (b : Nat) (sectors : List (Option Nat)) :
    (s.noteCorrections b sectors).claims = s.claims :=
  ((State.MediaOnly.refl s).noteCorrections b sectors).claims

@[simp] theorem State.refillEnded_claims (s : State) (v : VoiceId) (data : Option (List Byte)) :
    (s.refillEnded v data).claims = s.claims := by
  unfold State.refillEnded
  repeat' split
  all_goals simp

@[simp] theorem State.copyReadEnded_claims (s : State) (place page : Nat) (data : Option (List Byte)) :
    (s.copyReadEnded place page data).claims = s.claims := by
  simp only [State.copyReadEnded]
  split <;> simp

@[simp] theorem State.refreshReadEnded_claims (s : State) (page : Nat) (data : Option (List Byte)) :
    (s.refreshReadEnded page data).claims = s.claims :=
  ((State.MediaOnly.refl s).refreshReadEnded page data).claims

@[simp] theorem State.readEnded_claims (s : State) (o : FlashOp) (data : Option (List Byte)) :
    (s.readEnded o data).claims = s.claims := by
  simp only [State.readEnded]
  split <;> simp

@[simp] theorem State.pageRead_claims (s : State) (refill : Bool) (r : PageRead) :
    (s.pageRead refill r).claims = s.claims := by
  unfold State.pageRead
  repeat' split
  all_goals simp

@[simp] theorem State.mediaCutoff_claims (s : State) : s.mediaCutoff.claims = s.claims := by
  simp only [State.mediaCutoff]
  split <;> simp

@[simp] theorem State.mediaDown_claims (s : State) (l : Link) : (s.mediaDown l).claims = s.claims := by
  unfold State.mediaDown
  repeat' split
  all_goals simp

@[simp] theorem State.awaitChange_claims (s : State) (t : Ticket) (r : CatRecord) (numbers : List Nat) :
    (s.awaitChange t r numbers).claims = s.claims := by
  simp [State.awaitChange]

/-! ### Requests of the asset store (R138 to R163) -/

@[simp] theorem State.assetInfo_claims (t : Ticket) (b : List Byte) (s : State) :
    (State.assetInfo t b s).claims = s.claims :=
  State.check_claims _ _ _ (by simp)

@[simp] theorem State.acceptRead_claims (s : State) (t : Ticket) (n offset count : Nat) :
    (s.acceptRead t n offset count).claims = s.claims := by
  simp only [State.acceptRead]
  split <;> simp

@[simp] theorem State.assetRead_claims (t : Ticket) (b : List Byte) (s : State) :
    (State.assetRead t b s).claims = s.claims :=
  State.check_claims _ _ _ (by simp)

@[simp] theorem State.probePage_claims (t : Ticket) (b : List Byte) (s : State) :
    (State.probePage t b s).claims = s.claims := by
  unfold State.probePage
  repeat' split
  all_goals simp

@[simp] theorem State.assetDelete_claims (t : Ticket) (b : List Byte) (s : State) :
    (State.assetDelete t b s).claims = s.claims :=
  State.check_claims _ _ _ (by simp)

@[simp] theorem State.assetAlias_claims (t : Ticket) (b : List Byte) (s : State) :
    (State.assetAlias t b s).claims = s.claims :=
  State.check_claims _ _ _ (by simp)

@[simp] theorem State.assetProtect_claims (t : Ticket) (b : List Byte) (s : State) :
    (State.assetProtect t b s).claims = s.claims :=
  State.check_claims _ _ _ (by split <;> simp)

@[simp] theorem State.marksRead_claims (t : Ticket) (b : List Byte) (s : State) :
    (State.marksRead t b s).claims = s.claims :=
  State.check_claims _ _ _ (by simp)

@[simp] theorem State.clearMarks_claims (s : State) (t : Ticket) (numbers : List Nat) :
    (s.clearMarks t numbers).claims = s.claims := by
  simp only [State.clearMarks]
  split <;> simp

@[simp] theorem State.marksClear_claims (t : Ticket) (b : List Byte) (s : State) :
    (State.marksClear t b s).claims = s.claims :=
  State.check_claims _ _ _ (by simp)

@[simp] theorem State.storeLock_claims (t : Ticket) (b : List Byte) (s : State) :
    (State.storeLock t b s).claims = s.claims :=
  State.check_claims _ _ _ (by simp)

@[simp] theorem State.lockDown_claims (s : State) (l : Link) : (s.lockDown l).claims = s.claims := by
  simp only [State.lockDown]
  split <;> simp

@[simp] theorem State.openSession_claims (s : State) (l : Link) (asset : Nat) (k : AssetKind) (f : SoundFormat)
    (length : Nat) (bs : List Nat) :
    (s.openSession l asset k f length bs).claims = s.claims :=
  ((State.MediaOnly.refl s).openSession l asset k f length bs).claims

@[simp] theorem State.writeOpen_claims (t : Ticket) (b : List Byte) (s : State) :
    (State.writeOpen t b s).claims = s.claims :=
  State.check_claims _ _ _ (by simp)

@[simp] theorem State.takeChunk_claims (s : State) (t : Ticket) (data : List Byte) :
    (s.takeChunk t data).claims = s.claims := by
  unfold State.takeChunk
  dsimp only
  repeat' split
  all_goals simp

@[simp] theorem State.writeChunk_claims (t : Ticket) (b : List Byte) (s : State) :
    (State.writeChunk t b s).claims = s.claims :=
  State.check_claims _ _ _ (by simp)

@[simp] theorem State.beginClose_claims (s : State) (t : Ticket) : (s.beginClose t).claims = s.claims := by
  unfold State.beginClose
  repeat' split
  all_goals simp

@[simp] theorem State.writeClose_claims (t : Ticket) (b : List Byte) (s : State) :
    (State.writeClose t b s).claims = s.claims :=
  State.check_claims _ _ _ (by simp)

@[simp] theorem State.writeCancel_claims (t : Ticket) (b : List Byte) (s : State) :
    (State.writeCancel t b s).claims = s.claims :=
  State.check_claims _ _ _ (by simp)

@[simp] theorem State.storeState_claims (t : Ticket) (b : List Byte) (s : State) :
    (State.storeState t b s).claims = s.claims :=
  State.check_claims _ _ _ (by simp)

@[simp] theorem State.formatUser_claims (t : Ticket) (b : List Byte) (s : State) :
    (State.formatUser t b s).claims = s.claims :=
  State.check_claims _ _ _ (by simp)

/-! ### Background work (R151, R154) -/

@[simp] theorem State.startErase_claims (s : State) : s.startErase.claims = s.claims :=
  ((State.MediaOnly.refl s).startErase).claims

@[simp] theorem State.startRefresh_claims (s : State) : s.startRefresh.claims = s.claims :=
  ((State.MediaOnly.refl s).startRefresh).claims

/-! ### Report streams (R111 to R121) -/

@[simp] theorem State.setStream_claims (s : State) (l : Link) (n : Nat) (x : Stream) :
    (s.setStream l n x).claims = s.claims := by
  simp [State.setStream]

@[simp] theorem State.withdraw_claims (s : State) (l : Link) (q : QueueId) : (s.withdraw l q).claims = s.claims := by
  simp only [State.withdraw]
  split <;> simp

@[simp] theorem State.member_claims (s : State) (l : Link) (c : Chan) : (s.member l c).1.claims = s.claims := by
  unfold State.member
  split
  · simp [State.delivered]
  · rfl

@[simp] theorem State.members_claims (s : State) (l : Link) (xs : List Chan) :
    (s.members l xs).1.claims = s.claims := by
  induction xs generalizing s with
  | nil => rfl
  | cons x rest ih => simp [State.members, ih]

@[simp] theorem State.assemble_claims (s : State) (l : Link) (q : QueueId) (xs : List Nat) :
    (s.assemble l q xs).1.claims = s.claims := by
  induction xs generalizing s with
  | nil => rfl
  | cons x rest ih => simp [State.assemble, ih]

@[simp] theorem State.beginService_claims (s : State) (l : Link) (q : QueueId) :
    (s.beginService l q).claims = s.claims := by
  simp [State.beginService]

@[simp] theorem State.setRates_claims (s : State) (l : Link) (b : List Byte) : (s.setRates l b).claims = s.claims := by
  simp [State.setRates]

@[simp] theorem State.rateSet_claims (t : Ticket) (b : List Byte) (s : State) :
    (State.rateSet t b s).claims = s.claims :=
  State.check_claims _ _ _ (by simp)

@[simp] theorem State.setStreamTo_claims (s : State) (l : Link) (b : List Byte) :
    (s.setStreamTo l b).claims = s.claims := by
  simp [State.setStreamTo]

@[simp] theorem State.streamSet_claims (t : Ticket) (b : List Byte) (s : State) :
    (State.streamSet t b s).claims = s.claims :=
  State.check_claims _ _ _ (by simp)

@[simp] theorem State.enableStream_claims (s : State) (l : Link) (n : Nat) (on : Bool) :
    (s.enableStream l n on).claims = s.claims := by
  simp [State.enableStream]

@[simp] theorem State.streamEnable_claims (t : Ticket) (b : List Byte) (s : State) :
    (State.streamEnable t b s).claims = s.claims :=
  State.check_claims _ _ _ (by simp)

/-! ### Requests of the Sound Unit (R126, R127, R134 to R136) -/

@[simp] theorem State.acceptSound_claims (s : State) (x : Sound) : (s.acceptSound x).1.claims = s.claims := by
  simp [State.acceptSound]

@[simp] theorem State.playTone_claims (t : Ticket) (b : List Byte) (s : State) :
    (State.playTone t b s).claims = s.claims :=
  State.check_claims _ _ _ (by simp)

@[simp] theorem State.playFound_claims (s : State) (t : Ticket) (b : List Byte) (holder : Nat) (v : Version) :
    (s.playFound t b holder v).claims = s.claims :=
  State.check_claims _ _ _ (by simp)

@[simp] theorem State.playClip_claims (t : Ticket) (b : List Byte) (s : State) :
    (State.playClip t b s).claims = s.claims := by
  refine State.check_claims _ _ _ ?_
  split <;> simp

@[simp] theorem State.soundStop_claims (t : Ticket) (b : List Byte) (s : State) :
    (State.soundStop t b s).claims = s.claims :=
  State.check_claims _ _ _ (by simp)

@[simp] theorem State.volumeSet_claims (t : Ticket) (b : List Byte) (s : State) :
    (State.volumeSet t b s).claims = s.claims :=
  State.check_claims _ _ _ (by simp)

@[simp] theorem State.soundState_claims (t : Ticket) (b : List Byte) (s : State) :
    (State.soundState t b s).claims = s.claims :=
  State.check_claims _ _ _ (by simp)

end Sys2Proof.Machine

/-! SUPPORT. The control period, samples and watches keep the agreement (R65, R70, R71, R75, R81, R108). -/

namespace Sys2Proof.Machine

section Period
variable {up : Link → Bool} {s t : State} {p : Port}

theorem State.Agree.claims (h : s.Agree up) (e : t.claims = s.claims) : t.Agree up := by
  simp only [State.claims, Prod.mk.injEq, funext_iff] at e
  obtain ⟨hport, hmotor, hpair, hI, _⟩ := e
  exact h.same ⟨hport, hI, hpair, fun p _ => hmotor p⟩

/-! ### Stages of the control period -/

@[simp] theorem Motor.settleTest_claim (m : Motor) (b : Bool) : (m.settleTest b).claim = m.claim := rfl

@[simp] theorem Motor.elapse_claim (m : Motor) (c : Command) : (m.elapse c).claim = m.claim := by
  unfold Motor.elapse
  split <;> rfl

@[simp] theorem Motor.profileStep_claim (m : Motor) (c : Command) : (m.profileStep c).claim = m.claim := by
  unfold Motor.profileStep
  split <;> rfl

@[simp] theorem Motor.idleReference_claim (m : Motor) : m.idleReference.claim = m.claim := by
  unfold Motor.idleReference
  split <;> rfl

@[simp] theorem Motor.follow_claim (m : Motor) (c : Command) (lead : Motor) : (m.follow c lead).claim = m.claim := by
  unfold Motor.follow
  dsimp only
  split <;> rfl

@[simp] theorem Motor.control_claim (m : Motor) : m.control.claim = m.claim := by
  unfold Motor.control
  split
  · split <;> rfl
  · rfl

@[simp] theorem Motor.stallTest_claim (m : Motor) : m.stallTest.claim = m.claim := by
  unfold Motor.stallTest
  split <;> rfl

@[simp] theorem Motor.zero_claim (m : Motor) : m.zero.claim = m.claim := by
  unfold Motor.zero
  dsimp only
  split <;> rfl

theorem State.Agree.timeRunEnd (h : s.Agree up) (p : Port) : (s.timeRunEnd p).Agree up := by
  unfold State.timeRunEnd
  dsimp only
  split
  · exact h
  · split
    · exact h.setMotor rfl
    · exact h

theorem State.Agree.settleDone (h : s.Agree up) (p : Port) : (s.settleDone p).Agree up := by
  unfold State.settleDone
  dsimp only
  split
  · exact h
  · split
    · exact h.finish _ _ _
    · exact h

theorem State.Agree.settleTimeout (h : s.Agree up) (p : Port) : (s.settleTimeout p).Agree up := by
  unfold State.settleTimeout
  dsimp only
  split
  · exact h
  · split
    · exact h.finish _ _ _
    · exact h

theorem State.Agree.timeDone (h : s.Agree up) (p : Port) (c : Command) : (s.timeDone p c).Agree up := by
  unfold State.timeDone
  dsimp only
  split
  · exact h.finish _ _ _
  · exact h

theorem State.Agree.singleReference (h : s.Agree up) (p : Port) : (s.singleReference p).Agree up := by
  unfold State.singleReference
  dsimp only
  split
  · split
    · exact h.setMotor (by simp)
    · split
      · exact ((h.setMotor (by simp)).settleDone p).settleTimeout p
      · exact (((h.setMotor (by simp)).timeRunEnd p).setMotor (by simp)).timeDone p _
  · exact h
  · exact h.setMotor (by simp)

theorem State.Agree.pairReference (h : s.Agree up) (q : Pair) (c : Command) : (s.pairReference q c).Agree up := by
  unfold State.pairReference
  dsimp only
  split
  · exact (((h.setMotor (by simp)).setMotor (by simp)).settleDone _).settleTimeout _
  · have h1 := (h.setMotor (p := leadPort c q) (Motor.elapse_claim _ c)).timeRunEnd q.first
    split
    · exact h1.setMotor rfl
    · exact ((h1.setMotor (by simp)).setMotor (by simp)).timeDone _ _

/-- A recognised stall ends the command of a channel or pair by its stall policy (R51, R75). -/
theorem State.Agree.recogniseStall (h : s.Agree up) (p : Port) : (s.recogniseStall p).Agree up := by
  unfold State.recogniseStall
  dsimp only
  split
  · exact h
  · rename_i c hc
    have hcp := ((h.queues (s.queuePort p)).commands c (by simp [hc])).1
    split
    · split
      · rcases h.queuePort_leads p with hn | ⟨k, q, hq, hk, he⟩
        · rw [State.portsOf_single _ _ (hcp.trans hn)]
          exact h.endEnter_single hn _ _
        · rw [State.portsOf_double _ (hcp.trans hk) hq, he]
          exact h.endEnter_double hq _ _
      · exact h.finish _ _ _
    · exact h

theorem State.Agree.controlAndStall (h : s.Agree up) (ps : List Port) (p : Port) : (s.controlAndStall ps p).Agree up := by
  unfold State.controlAndStall
  dsimp only
  have h1 := h.foldl_setMotor ps (f := fun t x => (t.motor x).control.stallTest) (by simp)
  split
  · exact (h1.recogniseStall p).foldl_setMotor ps (by simp)
  · exact h1

theorem State.Agree.output (h : s.Agree up) (p : Port) : (s.output p).Agree up := h.setMotor rfl

theorem State.Agree.periodStages (h : s.Agree up) (ps : List Port) : (s.periodStages ps).Agree up := by
  unfold State.periodStages
  dsimp only
  have h1 := h.foldl_setMotor ps (f := fun t x => (t.motor x).takePosition) fun _ _ => rfl
  refine List.foldlRecOn _ _ (State.Agree.controlAndStall ?_ _ _) fun _ ht x _ => ht.output x
  split
  · exact h1.singleReference _
  · split
    · exact h1.pairReference _ _
    · exact List.foldlRecOn _ _ h1 fun _ ht x _ => ht.singleReference x
  · exact h1

/-! ### Samples, views and watches -/

@[simp] theorem State.setWatch_claims (s : State) (l : Link) (n : Nat) (w : Option Watch) :
    (s.setWatch l n w).claims = s.claims := rfl

@[simp] theorem State.setSample_claims (s : State) (c : Chan) (x : Sample) : (s.setSample c x).claims = s.claims := rfl

theorem State.Agree.carryOut (h : s.Agree up) (a : WatchAction) : (s.carryOut a).Agree up := by
  unfold State.carryOut
  split
  · exact h
  · exact h.haltMotor _ _
  · split
    · exact h
    · exact h.haltMotor _ _

theorem State.Agree.fireWatch (h : s.Agree up) (l : Link) (n : Nat) : (s.fireWatch l n).Agree up := by
  unfold State.fireWatch
  dsimp only
  split
  · exact h
  · split
    · have h1 := fun w b => h.claims (t := (s.setWatch l n w).notify l b) (by simp)
      split
      · exact (h1 _ _).carryOut _
      · exact h1 _ _
    · exact h

theorem State.Agree.evalWatch (h : s.Agree up) (l : Link) (c : Chan) (n : Nat) : (s.evalWatch l c n).Agree up := by
  have h1 := fun w => h.claims (s.setWatch_claims l n w)
  have h2 := fun w => (h1 w).fireWatch l n
  unfold State.evalWatch
  split
  · exact h
  · split
    · dsimp only
      split
      case h_1 => split; exacts [h2 _, h]
      case h_2 => split; exacts [h2 _, h1 _]
      case h_3 => split; exacts [h1 _, h]
      case h_4 => exact h
    · exact h

theorem State.Agree.viewTake (h : s.Agree up) (l : Link) (c : Chan) : (s.viewTake l c).Agree up := by
  have h1 := fun v => h.claims (s.setView_claims l c v)
  unfold State.viewTake
  dsimp only
  split
  · exact h
  · split
    · exact List.foldlRecOn _ _ (h1 _) fun _ ht n _ => ht.evalWatch l c n
    · exact h1 _

theorem State.Agree.takeSample (h : s.Agree up) (c : Chan) (mode : Option Nat) (xs : List Int) (cs : List Bool) (n : Nat) :
    (s.takeSample c mode xs cs n).Agree up := ((h.claims (s.setSample_claims c _)).viewTake .pl c).viewTake .tl c

theorem State.Agree.controlPeriod (h : s.Agree up) : s.controlPeriod.Agree up :=
  List.foldlRecOn _ _ h fun _ ht ps _ =>
    List.foldlRecOn _ _ (ht.periodStages ps) fun _ ht _ _ => ht.takeSample _ _ _ _ _

end Period

end Sys2Proof.Machine

/-! SUPPORT. The Port Service keeps the agreement: a record that changes its state is sound and unheld, and its channel is
free of commands and pairs (R20 to R31, R38). -/

namespace Sys2Proof.Machine

section Ports
variable {up : Link → Bool} {s t : State} {p : Port} {r : PortRec}

/-! ### Parts of a change that the agreement does not read -/

theorem State.setPort_claims (e : r.claim = (s.port p).claim) : (s.setPort p r).claims = s.claims := by
  have hp : ∀ x, ((s.setPort p r).port x).claim = (s.port x).claim := fun x => by
    rw [State.setPort_port]
    split
    · rename_i hx
      rw [hx, e]
    · rfl
  simp only [State.claims, hp]
  rfl

@[simp] theorem State.disarm_claims (s : State) (l : Link) (c : Chan) (x : DisarmReason) : (s.disarm l c x).claims = s.claims := by
  refine foldl_claims (fun t n => ?_) _ s
  split
  · rfl
  · split
    · simp
    · rfl

@[simp] theorem State.disarmBoth_claims (s : State) (c : Chan) (x : DisarmReason) : (s.disarmBoth c x).claims = s.claims := by
  simp [State.disarmBoth]

@[simp] theorem State.bothViews_claims (s : State) (c : Chan) (f : View → View) : (s.bothViews c f).claims = s.claims := by
  simp [State.bothViews]

@[simp] theorem State.sensingDeparture_claims (s : State) (p : Port) : (s.sensingDeparture p).claims = s.claims := by
  simp [State.sensingDeparture]

theorem PortRec.takeInterval_claim (r : PortRec) (us : Nat) : (r.takeInterval us).claim = r.claim := by
  unfold PortRec.takeInterval
  split <;> rfl

@[simp] theorem State.recomputePort_claims (s : State) (p : Port) : (s.recomputePort p).claims = s.claims := by
  unfold State.recomputePort
  split
  · exact State.setPort_claims (PortRec.takeInterval_claim _ _)
  · rfl

@[simp] theorem State.recomputeI_claims (s : State) : s.recomputeI.claims = s.claims := rfl

@[simp] theorem State.recompute_claims (s : State) (c : Chan) : (s.recompute c).claims = s.claims := by
  cases c <;> simp [State.recompute]

@[simp] theorem State.sensingAttach_claims (s : State) (p : Port) : (s.sensingAttach p).claims = s.claims := by
  simp [State.sensingAttach]

theorem State.Agree.sensorSample (h : s.Agree up) (p : Port) (mode : Nat) (xs : List Int) :
    (s.sensorSample p mode xs).Agree up := by
  unfold State.sensorSample
  split
  · exact h
  · exact h.takeSample _ _ _ _ _

/-! ### Records -/

/-- A record without a holder, device and stage keeps to its rules in any state but IDENTIFYING. -/
theorem PortRec.Sound.vacant (h1 : r.holder = none) (h2 : r.device = none) (h3 : r.stage ≠ none → r.state = .identifying) :
    r.Sound up := ⟨by simp [h1], by simp [h2], h3⟩

theorem PortRec.toEmpty_sound (r : PortRec) : r.toEmpty.Sound up := .vacant rfl rfl fun h => absurd rfl h

theorem PortRec.toSettling_sound (r : PortRec) (x : Level) (now : Word32) : (r.toSettling x now).Sound up :=
  .vacant rfl rfl fun h => absurd rfl h

theorem PortRec.toFault_sound (r : PortRec) (x : FaultReason) : (r.toFault x).Sound up := .vacant rfl rfl fun h => absurd rfl h

theorem PortRec.toIdentifying_sound (r : PortRec) (now : Word32) : (r.toIdentifying now).Sound up := .vacant rfl rfl fun _ => rfl

theorem PortRec.toRejected_sound (r : PortRec) (d : DeviceRecord) (x : RejectReason) : (r.toRejected d x).Sound up :=
  ⟨fun _ h => (by cases h), fun _ h => absurd rfl h, fun h => absurd rfl h⟩

theorem PortRec.toActive_sound (now : Word32) (h : ∀ d, r.device = some d → d.kind = .motor → d.motor ≠ none) :
    (r.toActive now).Sound up :=
  ⟨fun _ h => (by cases h), fun d _ => h d, fun h => absurd rfl h⟩

/-- A port that is not ACTIVE is unheld, so its channel is idle and outside any pair (R34, R59). -/
theorem State.Agree.idle (h : s.Agree up) (hs : (s.port p).state ≠ .active) :
    (s.port p).holder = none ∧ (s.motor p).Idle ∧ (s.motor p).pair = none := by
  have hn : (s.port p).holder = none := Option.eq_none_iff_forall_ne_some.mpr fun l e => hs (((h.ports p).held l e).1)
  exact ⟨hn, h.vacant hn⟩

/-- A port that is not ACTIVE takes any sound record. -/
theorem State.Agree.setIdlePort (h : s.Agree up) (hs : (s.port p).state ≠ .active) (hr : r.Sound up) :
    (s.setPort p r).Agree up := h.setPort hr (.inr (h.idle hs).2)

/-- A record changes where the agreement does not read it. -/
theorem State.Agree.samePort (h : s.Agree up) (e : r.claim = (s.port p).claim) : (s.setPort p r).Agree up :=
  h.claims (State.setPort_claims e)

/-- A channel outside any pair takes an idle one. -/
theorem State.Agree.setIdleMotor (h : s.Agree up) (hn : (s.motor p).pair = none) {m : Motor} (hi : m.Idle)
    (hm : m.pair = none) : (s.setMotor p m).Agree up := by
  refine h.single hn (((State.MotionOnly.refl s).setMotor p m).sameBut (fun _ => rfl) fun x hx => ?_) ?_ ?_ ?_
  · rw [State.setMotor_motor, if_neg hx]
  all_goals rw [State.setMotor_motor_self]
  · exact hm
  · exact hi.queued _
  · simp [hi.state, hi.active]

/-! ### Changes of state (R19, R27, R31) -/

theorem State.Agree.depart (h : s.Agree up) (hr : r.Sound up) : (s.depart p r).Agree up := by
  have step : ∀ {u : State}, u.Agree up → ((u.departMotor p).setPort p r).Agree up := fun hu =>
    hu.letGo (hu.departMotor_letGo p) (.departMotor _ _) hr
  unfold State.depart
  refine State.Agree.claims ?_ ((State.disarmBoth_claims _ _ _).trans (State.sensingDeparture_claims _ _))
  split
  · exact step h
  · exact step (h.claims (State.refuse_claims _ _ _))

@[simp] theorem State.changePort_notice_port (s : State) (b : Bool) (x : NoticeBody) (p : Port) :
    (if b then s.notifyBoth x else s).port p = s.port p := by
  cases b <;> simp

/-- A record changes its state: to another than ACTIVE, or from another. -/
theorem State.Agree.changePort (h : s.Agree up) (hr : r.Sound up) (hs : (s.port p).state ≠ .active ∨ r.state ≠ .active) :
    (s.changePort p r).Agree up := by
  have hn : (if noticed (s.port p).state r.state then s.notifyBoth (portNotice p r (s.port p).state) else s).Agree up := by
    split
    · exact h.claims (State.notifyBoth_claims _ _)
    · exact h
  unfold State.changePort
  dsimp only
  split
  · exact hn.depart hr
  · rename_i hd
    refine hn.setIdlePort (fun e => hd ?_) hr
    rw [State.changePort_notice_port] at e
    simp [e, hs.resolve_left (not_not.mpr e)]

theorem State.Agree.faultPort (h : s.Agree up) (p : Port) (x : FaultReason) : (s.faultPort p x).Agree up :=
  h.changePort (PortRec.toFault_sound _ _) (.inr (by simp [PortRec.toFault]))

theorem State.Agree.settlePort (h : s.Agree up) (p : Port) (x : Level) : (s.settlePort p x).Agree up := by
  have h1 := h.changePort (p := p) (PortRec.toSettling_sound (s.port p) x s.now) (.inr (by simp [PortRec.toSettling]))
  unfold State.settlePort
  dsimp only
  split
  · exact h1.faultPort p _
  · exact h1

theorem State.Agree.emptyPort (h : s.Agree up) (p : Port) : (s.emptyPort p).Agree up :=
  h.changePort (PortRec.toEmpty_sound _) (.inr (by simp [PortRec.toEmpty]))

theorem State.Agree.identifyPort (h : s.Agree up) (p : Port) : (s.identifyPort p).Agree up :=
  h.changePort (PortRec.toIdentifying_sound _ _) (.inr (by simp [PortRec.toIdentifying]))

/-- What a port reads of its record after a change of state that is no departure. -/
theorem State.changePort_attach (hs : (s.port p).state ≠ .active) : ((s.changePort p r).port p) = r := by
  unfold State.changePort
  simp [hs]

theorem State.Agree.activate (h : s.Agree up) (hs : (s.port p).state ≠ .active) (hj : (s.port p).state ≠ .rejected) :
    (s.activate p).Agree up := by
  have h1 : (s.changePort p ((s.port p).toActive s.now)).Agree up :=
    h.changePort (PortRec.toActive_sound _ fun d => (h.ports p).device d hj) (.inl hs)
  have hv := (h1.vacant (p := p) (by rw [State.changePort_attach hs]; rfl)).2
  unfold State.activate
  refine State.Agree.claims ?_ (State.sensingAttach_claims _ _)
  split
  · exact h1.setIdleMotor hv ⟨by simp [Motor.reset], rfl, rfl⟩ rfl
  · exact h1

/-! ### Detection (R18, R20, R21) -/

theorem State.Agree.detectInput (h : s.Agree up) (p : Port) (x : Level) : (s.detectInput p x).Agree up := by
  unfold State.detectInput
  dsimp only
  split
  · exact h
  · exact h.emptyPort p
  · exact h.claims (State.setPort_claims rfl)
  · exact h.emptyPort p
  · exact h.settlePort p _

/-- A port that leaves SETTLING with the record of a plain device. -/
theorem State.Agree.settledPlain (h : s.Agree up) (hs : (s.port p).state = .settling) {k : DeviceClass} (hk : k ≠ .motor) :
    ((s.setPort p { s.port p with device := some (plainDevice k), mode := none }).activate p).Agree up := by
  have hn : (s.port p).state ≠ .active := by simp [hs]
  have hr : ({ s.port p with device := some (plainDevice k), mode := none } : PortRec).Sound up := by
    refine ⟨(h.ports p).held, fun d _ e hd => absurd ?_ hk, (h.ports p).stage⟩
    rw [← hd, ← Option.some.inj e]
    rfl
  exact (h.setIdlePort hn hr).activate (by simpa using hn) (by simp [hs])

theorem State.Agree.settled (h : s.Agree up) (hs : (s.port p).state = .settling) : (s.settled p).Agree up := by
  unfold State.settled
  split
  · exact h
  · exact h.settledPlain hs (by decide)
  · exact h.settledPlain hs (by decide)
  · exact h.identifyPort p

theorem State.Agree.beginDetection (h : s.Agree up) (p : Port) : (s.beginDetection p).Agree up := by
  unfold State.beginDetection
  dsimp only
  split
  · refine State.Agree.faultPort ?_ p _
    exact h.samePort rfl
  · split
    · exact h
    · exact h.settlePort p _

theorem State.Agree.resetPort (h : s.Agree up) (p : Port) : (s.resetPort p).Agree up := by
  unfold State.resetPort
  split
  · exact h.emptyPort p
  · exact h.settlePort p _

/-! ### Identification (R24 to R26) -/

/-- A valid record of a MOTOR has a motor part (R25). -/
theorem DeviceRecord.motor_of_valid {d : DeviceRecord} (hv : DeviceRecord.rejection d = none) (hk : d.kind = .motor) :
    d.motor ≠ none := by
  have hd : DeviceRecord.valid d = true := by
    unfold DeviceRecord.rejection at hv
    split at hv
    · cases hv
    · split at hv
      · cases hv
      · split at hv
        · assumption
        · cases hv
  intro hm
  simp [DeviceRecord.valid, hk, hm] at hd

/-- A port in identification is neither ACTIVE nor REJECTED. -/
theorem State.Agree.staged (h : s.Agree up) {x : IdentStage} (hx : (s.port p).stage = some x) :
    (s.port p).state = .identifying := (h.ports p).stage (by simp [hx])

theorem State.Agree.identity (h : s.Agree up) (hs : (s.port p).state = .identifying) (d : DeviceRecord) :
    (s.identity p d).Agree up := by
  have hn : (s.port p).state ≠ .active := by simp [hs]
  unfold State.identity
  dsimp only
  split
  · exact h.changePort (PortRec.toRejected_sound _ _ _) (.inl hn)
  · rename_i hv
    refine h.setIdlePort hn ⟨(h.ports p).held, fun e _ he => ?_, fun _ => hs⟩
    obtain rfl := Option.some.inj he
    exact DeviceRecord.motor_of_valid hv

theorem State.Agree.askFirstData (h : s.Agree up) (hs : (s.port p).state = .identifying) (b : Bool) :
    (s.askFirstData p b).Agree up :=
  h.setIdlePort (by simp [hs]) ⟨(h.ports p).held, (h.ports p).device, fun _ => hs⟩

theorem State.Agree.speedAck (h : s.Agree up) (hs : (s.port p).state = .identifying) : (s.speedAck p).Agree up := by
  have h1 := h.claims (State.setPort_claims (p := p) (r := { s.port p with line := (s.port p).dataSpeed }) rfl)
  unfold State.speedAck
  dsimp only
  split
  · exact h1.activate (by simp [hs]) (by simp [hs])
  · exact h1.askFirstData (by simpa using hs) false

theorem State.restartSupervision_claims (s : State) (p : Port) : (s.restartSupervision p).claims = s.claims :=
  State.setPort_claims rfl

theorem State.Agree.firstData (h : s.Agree up) (hs : (s.port p).state = .identifying) (xs : List Int) :
    (s.firstData p xs).Agree up := by
  have h1 := h.claims (State.setPort_claims (p := p) (r := { s.port p with mode := some 0 }) rfl)
  exact ((h1.activate (by simp [hs]) (by simp [hs])).claims (State.restartSupervision_claims _ p)).sensorSample p 0 xs

/-! ### Supervision (R28, R29, R38) -/

theorem State.Agree.modeChanged (h : s.Agree up) (p : Port) (w : PendingMode) (xs : List Int) :
    (s.modeChanged p w xs).Agree up := by
  unfold State.modeChanged
  refine State.Agree.claims (State.Agree.sensorSample (State.Agree.claims ?_ (State.restartSupervision_claims _ p)) _ _ _)
    (State.complete_claims _ _ _)
  refine (h.claims (State.setPort_claims (p := p)
    (r := { s.port p with mode := some w.mode, pendingMode := none }) rfl)).claims ?_
  simp

theorem State.Agree.silent (h : s.Agree up) (p : Port) : (s.silent p).Agree up := by
  unfold State.silent
  split
  · exact h.faultPort p _
  · exact h.changePort ((PortRec.toIdentifying_sound (s.port p) s.now).congr rfl) (.inr (by simp [PortRec.toIdentifying]))

theorem State.Agree.data (h : s.Agree up) {mode : Nat} {xs : List Int} (ht : s.data p mode xs = some t) : t.Agree up := by
  unfold State.data at ht
  dsimp only at ht
  split at ht
  · cases ht
  · split at ht
    case h_1 hs _ =>
      split at ht
      · exact Option.some.inj ht ▸ h.firstData hs xs
      · cases ht
    case h_2 =>
      split at ht
      · split at ht
        · exact Option.some.inj ht ▸ h.modeChanged p _ xs
        · split at ht
          · exact Option.some.inj ht ▸ h
          · cases ht
      · split at ht
        · exact Option.some.inj ht ▸ (h.claims (State.restartSupervision_claims s p)).sensorSample p mode xs
        · cases ht
    case h_3 => cases ht

/-- A message on a device line is counted, and taken where it is expected (R23). -/
theorem State.Agree.lineMessage (h : s.Agree up) (p : Port) (m : LineMessage) {rule : State → Option State}
    (hr : ∀ u v, u.Agree up → rule u = some v → v.Agree up) : (s.lineMessage p m rule).Agree up := by
  have h1 := h.claims (State.setPort_claims (p := p) (r := (s.port p).countReceived) rfl)
  unfold State.lineMessage
  split
  · exact h
  · split
    · dsimp only
      cases hv : rule (s.setPort p (s.port p).countReceived) with
      | none => exact h1.claims (State.setPort_claims rfl)
      | some v => exact hr _ v h1 hv
    · exact h.claims (State.setPort_claims rfl)

end Ports

end Sys2Proof.Machine

/-! SUPPORT. The requests of the Port Service and the Motion Unit keep the agreement (R34 to R37, R44, R52 to R58). -/

namespace Sys2Proof.Machine

section Requests
variable {up up' : Link → Bool} {s t u : State} {p : Port} {k : Nat} {q : Pair} {l : Link}

/-! ### The checks of a request (R33) -/

theorem judge_eq_none {cs : List (Bool × Judgement)} : judge cs = none ↔ ∀ c ∈ cs, c.1 = false := by
  induction cs with
  | nil => simp
  | cons c rest ih =>
    obtain ⟨b, j⟩ := c
    cases b <;> simp [ih]

theorem State.Agree.check (h : s.Agree up) (x : Ticket) {cs : List (Bool × Judgement)} {f : State → State}
    (hf : (∀ c ∈ cs, c.1 = false) → (f s).Agree up) : (s.check x cs f).Agree up := by
  unfold State.check
  split
  · exact h.claims (State.refuse_claims _ _ _)
  · rename_i hj
    exact hf (judge_eq_none.mp hj)

theorem State.Agree.complete (h : s.Agree up) (x : Ticket) (b : List Byte) : (s.complete x b).Agree up :=
  h.claims (State.complete_claims _ _ _)

/-- A port that passes its checks is ACTIVE (R33). -/
theorem State.active_of_portChecks {n g : Nat} (h : ∀ c ∈ s.portChecks n g, c.1 = false) :
    s.active (portOf n) = true ∧ n ≤ 5 := by
  simp only [State.portChecks, List.forall_mem_cons, decide_eq_false_iff_not, Bool.not_eq_eq_eq_not, Bool.not_false] at h
  exact ⟨h.2.1, by omega⟩

/-! ### Claims and releases (R34, R36) -/

/-- A port that the other link does not hold is the link's own, or unheld. -/
theorem State.heldByOther_eq_false : s.heldByOther l p = false ↔ (s.port p).holder = none ∨ (s.port p).holder = some l := by
  cases h : (s.port p).holder with
  | none => simp [State.heldByOther, h]
  | some k => cases k <;> cases l <;> simp [State.heldByOther, h, otherLink]

/-- A port's holder changes: the port is ACTIVE and the link UP, and the channel is the holder's own or free. -/
theorem State.Agree.claim (h : s.Agree up) (hu : up l = true) (ha : s.active p = true) (ho : s.heldByOther l p = false) :
    (s.claim l p).Agree up := by
  have hs : (s.port p).state = .active := by simpa [State.active] using ha
  refine h.setPort ⟨fun k e => ?_, (h.ports p).device, (h.ports p).stage⟩ ?_
  · cases e
    exact ⟨hs, hu⟩
  · rcases State.heldByOther_eq_false.mp ho with hn | hl
    · exact .inr (h.vacant hn)
    · exact .inl ⟨hl.symm, rfl⟩

@[simp] theorem State.claim_motor (s : State) (l : Link) (x p : Port) : (s.claim l x).motor p = s.motor p := rfl

@[simp] theorem State.claim_pair (s : State) (l : Link) (x : Port) (k : Nat) : (s.claim l x).pair k = s.pair k := rfl

theorem State.claim_port (s : State) (l : Link) (x p : Port) :
    (s.claim l x).port p = if p = x then { s.port x with holder := some l } else s.port p := s.setPort_port x p _

@[simp] theorem State.claim_holder (s : State) (l : Link) (p : Port) : ((s.claim l p).port p).holder = some l := by
  simp [State.claim_port]

theorem State.Agree.setHolderI (h : s.Agree up) {x : Option Link} (hx : ∀ l, x = some l → up l = true) :
    ({ s with holderI := x } : State).Agree up :=
  ⟨h.ports, hx, h.queues, h.running, fun k q hk => ⟨(h.pairs k q hk).1, { (h.pairs k q hk).2.1 with }, (h.pairs k q hk).2.2⟩,
    h.bound⟩

theorem State.Agree.releaseChan (h : s.Agree up) (c : Chan) : (s.releaseChan c).Agree up := by
  cases c with
  | internal => exact h.setHolderI (by simp)
  | port p =>
    have hm : s.MotionOnly (s.dropMotor p .released) := .dropMotor s p .released
    refine h.letGo (h.dropMotor_letGo p .released) hm ⟨fun l e => (by cases e), ?_, ?_⟩
    · rw [hm.port]
      exact (h.ports p).device
    · rw [hm.port]
      exact (h.ports p).stage

theorem State.Agree.claimPort (h : s.Agree up) {x : Ticket} (hu : up x.link = true) (b : List Byte) :
    (State.claimPort x b s).Agree up := by
  unfold State.claimPort
  refine h.check x fun hc => ?_
  refine State.Agree.complete ?_ _ _
  simp only [List.forall_mem_append, List.forall_mem_cons] at hc
  obtain ⟨⟨⟨_, hn, _⟩, hp⟩, ho, _⟩ := hc
  have h6 : u8 b 0 ≤ 6 := by simpa using hn
  by_cases h5 : u8 b 0 = 6
  · rw [h5]
    exact h.setHolderI fun l e => by cases e; exact hu
  · have hle : u8 b 0 ≤ 5 := by omega
    rw [State.chanChecks, if_neg h5] at hp
    rw [chanOf, if_pos hle] at ho ⊢
    exact h.claim hu (State.active_of_portChecks hp).1 (beq_eq_false_iff_ne.mpr (of_decide_eq_false ho))

theorem State.Agree.releasePort (h : s.Agree up) (x : Ticket) (b : List Byte) : (State.releasePort x b s).Agree up := by
  unfold State.releasePort
  exact h.check x fun _ => (h.releaseChan _).complete _ _

theorem State.Agree.selectMode (h : s.Agree up) {x : Ticket} (hu : up x.link = true) (b : List Byte) :
    (State.selectMode x b s).Agree up := by
  unfold State.selectMode
  refine h.check x fun hc => ?_
  simp only [List.forall_mem_append, List.forall_mem_cons] at hc
  obtain ⟨⟨_, hp⟩, _, _, ho, _⟩ := hc
  exact (h.claim hu (State.active_of_portChecks hp).1 ho).samePort rfl

theorem State.Agree.portReset (h : s.Agree up) (x : Ticket) (b : List Byte) : (State.portReset x b s).Agree up := by
  unfold State.portReset
  exact h.check x fun _ => (h.resetPort _).complete _ _

/-! ### MOVE, HALT, SET ZERO and SET GAINS (R44, R52 to R54) -/

theorem State.Agree.takeNumber (h : s.Agree up) (p : Port) : (s.takeNumber p).Agree up := h.setMotor rfl

theorem State.takeNumber_leads (h : s.Leads p) : (s.takeNumber p).Leads p := by
  have hp : ((s.takeNumber p).motor p).pair = (s.motor p).pair := by simp [State.takeNumber]
  unfold State.Leads
  rw [hp]
  exact h

/-- A command that passes the resource checks of R45 finds room behind a running one. -/
theorem State.room_of_queueChecks {append : Bool} (hc : ∀ c ∈ s.queueChecks p append, c.1 = false) (ha : append = true)
    (hr : (s.motor p).state = .running) : (s.motor p).waiting.length < 4 := by
  simp only [State.queueChecks, List.forall_mem_cons, ha, hr] at hc
  simpa using hc.2.2.1

theorem State.Agree.move (h : s.Agree up) {x : Ticket} (hu : up x.link = true) (b : List Byte) :
    (State.move x b s).Agree up := by
  unfold State.move
  refine h.check x fun hc => ?_
  refine State.Agree.complete ?_ _ _
  simp only [State.moveChecks, List.forall_mem_append, List.forall_mem_cons] at hc
  obtain ⟨⟨⟨_, hp⟩, _, _, _, hn, _, ho, _⟩, hq⟩ := hc
  have hpair : (s.motor (portOf (u8 b 0))).pair = none := by simpa using hn
  have hroom := State.room_of_queueChecks hq
  refine ((h.claim hu (State.active_of_portChecks hp).1 ho).takeNumber _).placeCommand
    (State.takeNumber_leads (.inl hpair)) ⟨?_, ?_⟩ fun ha hr => ?_
  · simp [State.takeNumber, State.moveCommand, hpair]
  · simp [State.takeNumber, State.moveCommand]
  · simp only [State.takeNumber, State.setMotor_motor_self, State.claim_motor] at hr ⊢
    exact hroom ha hr

theorem State.Agree.halt (h : s.Agree up) {x : Ticket} (hu : up x.link = true) (b : List Byte) :
    (State.halt x b s).Agree up := by
  unfold State.halt
  refine h.check x fun hc => ?_
  refine State.Agree.complete ?_ _ _
  simp only [List.forall_mem_append, List.forall_mem_cons] at hc
  obtain ⟨⟨_, hp⟩, _, _, ho, _⟩ := hc
  exact (h.claim hu (State.active_of_portChecks hp).1 ho).haltMotor _ _

theorem State.Agree.setZero (h : s.Agree up) {x : Ticket} (hu : up x.link = true) (b : List Byte) :
    (State.setZero x b s).Agree up := by
  unfold State.setZero
  refine h.check x fun hc => ?_
  refine State.Agree.complete ?_ _ _
  simp only [List.forall_mem_append, List.forall_mem_cons] at hc
  obtain ⟨⟨_, hp⟩, _, ho, _⟩ := hc
  exact (h.claim hu (State.active_of_portChecks hp).1 ho).setMotor (Motor.zero_claim _)

theorem State.Agree.setGains (h : s.Agree up) {x : Ticket} (hu : up x.link = true) (b : List Byte) :
    (State.setGains x b s).Agree up := by
  unfold State.setGains
  refine h.check x fun hc => ?_
  refine State.Agree.complete ?_ _ _
  simp only [List.forall_mem_append, List.forall_mem_cons] at hc
  obtain ⟨⟨_, hp⟩, _, ho, _⟩ := hc
  exact (h.claim hu (State.active_of_portChecks hp).1 ho).setMotor rfl

/-! ### Pairs (R56 to R58) -/

/-- Two motors that do not run, held by one link and outside any pair, become a free entry's pair. -/
theorem State.Agree.newPair (h : s.Agree up) {p q : Port} {lag : Nat} (hpq : p ≠ q) (hk : k ≤ 2) (hfree : s.pair k = none)
    (hports : ∀ x, x = p ∨ x = q → (s.port x).holder = some l ∧ s.classOf x = some .motor ∧ (s.motor x).pair = none ∧
      (s.motor x).state ≠ .running)
    (ht : ∀ x, t.motor x = if x = p ∨ x = q then { s.motor x with pair := some k } else s.motor x)
    (htp : ∀ j, t.pair j = if j = k then some ⟨p, q, lag, l⟩ else s.pair j) (hport : ∀ x, t.port x = s.port x)
    (hI : t.holderI = s.holderI) : t.Agree up := by
  have hidle : ∀ x, x = p ∨ x = q → (s.motor x).active = none ∧ (s.motor x).waiting = [] := fun x hx => by
    obtain ⟨_, _, hn, hr⟩ := hports x hx
    have ha : (s.motor x).active = none := by
      by_contra ha
      exact hr ((h.running x hn).mpr ha)
    exact ⟨ha, (h.queues x).waiting.2 ha⟩
  have hon : ∀ x, x = p ∨ x = q → t.motor x = { s.motor x with pair := some k } := fun x hx => by rw [ht, if_pos hx]
  have hoff : ∀ x, ¬ (x = p ∨ x = q) → t.motor x = s.motor x := fun x hx => by rw [ht, if_neg hx]
  have hold : ∀ j r, s.pair j = some r → ∀ x, x = r.first ∨ x = r.second → ¬ (x = p ∨ x = q) := fun j r hr x hx hxp => by
    have hp := (h.isBound hr).pair
    have hn := (hports x hxp).2.2.1
    rcases hx with rfl | rfl
    · rw [hp.1] at hn; cases hn
    · rw [hp.2] at hn; cases hn
  refine ⟨fun x => by rw [hport]; exact h.ports x, by rw [hI]; exact h.heldI, fun x => ?_, fun x hn => ?_, fun j r hr => ?_,
    fun x j hj => ?_⟩
  · rw [hport]
    by_cases hx : x = p ∨ x = q
    · obtain ⟨ha, hw⟩ := hidle x hx
      rw [hon x hx]
      exact ⟨by simp [hw], by simp [ha, hw]⟩
    · rw [hoff x hx]
      exact h.queues x
  · by_cases hx : x = p ∨ x = q
    · rw [hon x hx] at hn
      cases hn
    · rw [hoff x hx] at hn ⊢
      exact h.running x hn
  · rw [htp] at hr
    split at hr
    · rename_i hj
      cases hr
      have hp := hidle p (.inl rfl)
      have hq := hidle q (.inr rfl)
      refine ⟨hj ▸ hk, ⟨by rw [htp, if_pos hj], hpq, ?_, ?_, ?_⟩, fun x hx => ?_⟩
      · rw [hon p (.inl rfl), hon q (.inr rfl), hj]
        exact ⟨rfl, rfl⟩
      · rw [hon q (.inr rfl)]
        exact hq
      · rw [hon p (.inl rfl)]
        simp [hp.1, hp.2]
      · obtain ⟨hh, hc, _, hrun⟩ := hports x hx
        rw [hport, hon x hx, hon p (.inl rfl)]
        refine ⟨hh, hc, ?_⟩
        simp [hrun, hp.1]
    · obtain ⟨hle, hb, hps⟩ := h.pairs j r hr
      have hf := hoff r.first (hold j r hr _ (.inl rfl))
      have hs := hoff r.second (hold j r hr _ (.inr rfl))
      rename_i hj
      refine ⟨hle, ⟨by rw [htp, if_neg hj]; exact hr, hb.ports, by rw [hf, hs]; exact hb.pair, by rw [hs]; exact hb.second,
        by rw [hf]; exact hb.commands⟩, fun x hx => ?_⟩
      rw [hport, hoff x (hold j r hr x hx), hf]
      exact hps x hx
  · by_cases hx : x = p ∨ x = q
    · rw [hon x hx] at hj
      cases hj
      exact ⟨⟨p, q, lag, l⟩, by rw [htp, if_pos rfl], hx⟩
    · rw [hoff x hx] at hj
      obtain ⟨r, hr, hxr⟩ := h.bound x j hj
      refine ⟨r, ?_, hxr⟩
      rw [htp, if_neg]
      · exact hr
      · rintro rfl
        rw [hfree] at hr
        cases hr

/-- The entry that PAIR BIND takes is a free one (R56). -/
theorem State.freePairNumber_free {k : Nat} (h : s.freePairNumber = some k) : k ≤ 2 ∧ s.pair k = none := by
  have hm := List.mem_of_find?_eq_some h
  have hp := List.find?_some h
  refine ⟨?_, by simpa using hp⟩
  simp only [List.mem_cons, List.not_mem_nil, or_false] at hm
  omega

theorem State.bind_motor (s : State) (l : Link) {p q : Port} (hpq : p ≠ q) (lag k : Nat) (x : Port) :
    (s.bind l p q lag k).motor x = if x = p ∨ x = q then { s.motor x with pair := some k } else s.motor x := by
  simp only [State.bind, State.setPair_motor, State.setMotor_motor, State.claim_motor]
  by_cases hq : x = q
  · simp [hq, Ne.symm hpq]
  · by_cases hp : x = p
    · simp [hp, hpq]
    · simp [hp, hq]

theorem portOf_injective {m n : Nat} (hm : m ≤ 5) (hn : n ≤ 5) (h : portOf m = portOf n) : m = n := by
  have : ∀ m ≤ 5, ∀ n ≤ 5, portOf m = portOf n → m = n := by decide
  exact this m hm n hn h

/-- Two free motors that the other link does not hold are bound (R56). -/
theorem State.Agree.bind (h : s.Agree up) (hu : up l = true) {p q : Port} (hpq : p ≠ q) (lag : Nat) (hk : k ≤ 2)
    (hfree : s.pair k = none) (hports : ∀ x, x = p ∨ x = q → s.active x = true ∧ s.heldByOther l x = false ∧
      s.classOf x = some .motor ∧ (s.motor x).pair = none ∧ (s.motor x).state ≠ .running) :
    (s.bind l p q lag k).Agree up := by
  obtain ⟨hap, hop, _⟩ := hports p (.inl rfl)
  obtain ⟨haq, hoq, _⟩ := hports q (.inr rfl)
  have hq : (s.claim l p).port q = s.port q := by rw [State.claim_port, if_neg (Ne.symm hpq)]
  have h1 := (h.claim hu hap hop).claim hu (p := q) (by rw [State.active, hq]; exact haq)
    (by rw [State.heldByOther, hq]; exact hoq)
  refine h1.newPair (l := l) (lag := lag) hpq hk hfree (fun y hy => ?_) (s.bind_motor l hpq lag k)
    (fun j => Table.get_set _ _ _ _ _) (fun _ => rfl) rfl
  obtain ⟨_, _, hc, hn, hr⟩ := hports y hy
  have hd : (((s.claim l p).claim l q).port y).holder = some l ∧ ((s.claim l p).claim l q).classOf y = s.classOf y := by
    simp only [State.classOf, State.claim_port]
    rcases hy with rfl | rfl
    · simp [hpq]
    · simp [Ne.symm hpq]
  exact ⟨hd.1, hd.2.trans hc, hn, hr⟩

theorem State.Agree.pairBind (h : s.Agree up) {x : Ticket} (hu : up x.link = true) (b : List Byte) :
    (State.pairBind x b s).Agree up := by
  unfold State.pairBind
  refine h.check x fun hc => ?_
  refine State.Agree.complete ?_ _ _
  simp only [State.bindChecks, List.forall_mem_cons, Bool.or_eq_false_iff, decide_eq_false_iff_not,
    Bool.not_eq_eq_eq_not, Bool.not_false] at hc
  obtain ⟨⟨_, hne⟩, ⟨⟨⟨h5p, h5q⟩, hap⟩, haq⟩, _, ⟨⟨hcp, hcq⟩, _⟩, ⟨hpp, hpq⟩, ⟨hop, hoq⟩, ⟨hrp, hrq⟩, hfree, _⟩ := hc
  obtain ⟨k, hk⟩ := Option.isSome_iff_exists.mp (Option.isNone_eq_false_iff.mp hfree)
  obtain ⟨hk2, hkn⟩ := State.freePairNumber_free hk
  rw [hk]
  refine h.bind hu (fun e => hne (portOf_injective (by omega) (by omega) e)) _ hk2 hkn ?_
  rintro y (rfl | rfl)
  · exact ⟨hap, hop, not_not.mp hcp, by simpa using hpp, hrp⟩
  · exact ⟨haq, hoq, not_not.mp hcq, by simpa using hpq, hrq⟩

theorem State.MotionOnly.freePair (s : State) (k : Nat) : s.MotionOnly (s.freePair k) := by
  unfold State.freePair
  split <;> rfl

theorem State.Agree.pairUnbind (h : s.Agree up) (x : Ticket) (b : List Byte) : (State.pairUnbind x b s).Agree up := by
  unfold State.pairUnbind
  split
  · exact h.claims (State.refuse_claims _ _ _)
  · rename_i q hq
    refine h.check x fun hc => State.Agree.complete ?_ _ _
    simp only [List.forall_mem_cons] at hc
    obtain ⟨_, _, hrun, _⟩ := hc
    obtain ⟨_, hb, hps⟩ := h.pairs _ q hq
    have ha : (s.motor q.first).active = none := by simpa [State.pairRunning] using hrun
    obtain ⟨hm, hp⟩ := State.freePair_bound hq hb.ports
    have hf := State.MotionOnly.freePair s (u8 b 0)
    refine h.freed (D := fun y => y = q.first ∨ y = q.second) (fun y => by rw [hf.port]; exact h.ports y)
      (by rw [hf.holderI]; exact h.heldI) (fun j r hr => ?_) (fun y hy => ?_)
      (fun y hy => ?_) fun j r => ?_
    · constructor
      · intro e
        rw [(h.pair_unique hq hr e (.inl rfl)).2]
        exact .inr rfl
      · intro e
        rw [(h.pair_unique hq hr e (.inr rfl)).2]
        exact .inl rfl
    · rw [hm, if_pos hy]
      refine ⟨⟨fun e => (hps y hy).2.2.mp e ha, ?_, ?_⟩, rfl⟩
      · rcases hy with rfl | rfl
        · exact ha
        · exact hb.second.1
      · rcases hy with rfl | rfl
        · exact (h.queues _).waiting.2 ha
        · exact hb.second.2
    · rw [hm, if_neg hy, hf.port]
      exact ⟨rfl, rfl⟩
    · rw [hp]
      split
      · rename_i hj
        subst hj
        refine ⟨fun e => (by cases e), fun e => absurd (.inl ?_) e.2⟩
        rw [Option.some.inj (hq.symm.trans e.1)]
      · rename_i hj
        exact ⟨fun hr => ⟨hr, fun e => hj (h.pair_unique hq hr e (.inl rfl)).1⟩, And.left⟩

theorem State.Agree.pairMove (h : s.Agree up) (x : Ticket) (b : List Byte) : (State.pairMove x b s).Agree up := by
  unfold State.pairMove
  split
  · exact h.claims (State.refuse_claims _ _ _)
  · rename_i q hq
    refine h.check x fun hc => State.Agree.complete ?_ _ _
    simp only [List.forall_mem_append, List.forall_mem_cons] at hc
    obtain ⟨⟨_, hh, _⟩, hqc⟩ := hc
    obtain ⟨_, hb, hps⟩ := h.pairs _ q hq
    have hroom := State.room_of_queueChecks hqc
    have hl : q.holder = x.link := by simpa using hh
    refine (h.takeNumber _).placeCommand (State.takeNumber_leads (.inr ⟨_, q, hq, hb.pair.1, rfl⟩)) ⟨?_, ?_⟩ fun ha hr => ?_
    · simp [State.takeNumber, State.pairCommand, hb.pair.1]
    · simpa [State.takeNumber, State.pairCommand, ← hl] using (hps _ (.inl rfl)).1
    · simp only [State.takeNumber, State.setMotor_motor_self] at hr ⊢
      exact hroom ha hr

/-! ### The brick (R102) -/

theorem State.setBrick_claims (s : State) (l : Link) (x : BrickSettings) :
    (s.setBrick l x).claims = ({ s with holderI := some l } : State).claims := by
  unfold State.setBrick
  dsimp only
  split <;> rfl

theorem State.Agree.brickDetectSet (h : s.Agree up) {x : Ticket} (hu : up x.link = true) (b : List Byte) :
    (State.brickDetectSet x b s).Agree up := by
  unfold State.brickDetectSet
  refine h.check x fun _ => ?_
  refine State.Agree.complete ?_ _ _
  exact (h.setHolderI (x := some x.link) fun l e => by cases e; exact hu).claims (State.setBrick_claims s x.link _)

end Requests

end Sys2Proof.Machine

/-! SUPPORT. The acts of the hub, the start-up and the Link Units on the agreement, and what no request changes of RESET
(R3, R14, R166, R169). -/

namespace Sys2Proof.Machine

section Hub
variable {up up' : Link → Bool} {s t u : State} {p : Port} {l : Link}

/-! ### Requests that claim nothing -/

@[simp] theorem State.hubStatus_claims (t : Ticket) (b : List Byte) (s : State) :
    (State.hubStatus t b s).claims = s.claims := State.check_claims _ _ _ (by simp)

theorem State.setHub_claims {x : HubRec} (e : x.held = s.hub.held) : (s.setHub x).claims = s.claims := by
  simp only [State.claims, State.setHub_hub, e]
  rfl

@[simp] theorem State.hubReset_claims (t : Ticket) (b : List Byte) (s : State) : (State.hubReset t b s).claims = s.claims :=
  State.check_claims _ _ _ ((State.complete_claims _ _ _).trans (State.setHub_claims rfl))

@[simp] theorem State.portInfo_claims (t : Ticket) (b : List Byte) (s : State) : (State.portInfo t b s).claims = s.claims :=
  State.check_claims _ _ _ (by simp)

@[simp] theorem State.motorState_claims (t : Ticket) (b : List Byte) (s : State) :
    (State.motorState t b s).claims = s.claims := State.check_claims _ _ _ (by simp)

@[simp] theorem State.viewSet_claims (t : Ticket) (b : List Byte) (s : State) : (State.viewSet t b s).claims = s.claims :=
  State.check_claims _ _ _ (by simp [State.setViewOf])

@[simp] theorem State.readValues_claims (t : Ticket) (b : List Byte) (s : State) :
    (State.readValues t b s).claims = s.claims := State.check_claims _ _ _ (by simp [State.delivered])

@[simp] theorem State.subscribe_claims (t : Ticket) (b : List Byte) (s : State) :
    (State.subscribe t b s).claims = s.claims := State.check_claims _ _ _ (by simp)

@[simp] theorem State.brickState_claims (t : Ticket) (b : List Byte) (s : State) :
    (State.brickState t b s).claims = s.claims := State.check_claims _ _ _ (by simp)

@[simp] theorem State.watchSet_claims (t : Ticket) (b : List Byte) (s : State) :
    (State.watchSet t b s).claims = s.claims := State.check_claims _ _ _ (by simp)

@[simp] theorem State.watchClear_claims (t : Ticket) (b : List Byte) (s : State) :
    (State.watchClear t b s).claims = s.claims :=
  State.check_claims _ _ _ ((State.complete_claims _ _ _).trans (foldl_claims (by simp) _ s))

@[simp] theorem State.watchState_claims (t : Ticket) (b : List Byte) (s : State) :
    (State.watchState t b s).claims = s.claims := State.check_claims _ _ _ (by simp)

@[simp] theorem State.linkCounts_claims (t : Ticket) (b : List Byte) (s : State) :
    (State.linkCounts t b s).claims = s.claims :=
  State.check_claims _ _ _ ((State.complete_claims _ _ _).trans (by split <;> simp))

/-! ### RESET stands through the requests that claim, release or move -/

theorem State.held_of_claims (e : t.claims = s.claims) : t.hub.held = s.hub.held := congrArg (·.2.2.2.2) e

theorem State.check_held (s : State) (x : Ticket) (cs : List (Bool × Judgement)) {f : State → State}
    (hf : (f s).hub.held = s.hub.held) : (s.check x cs f).hub.held = s.hub.held := by
  unfold State.check
  split
  · rfl
  · exact hf

theorem State.setHolder_held (s : State) (c : Chan) (x : Option Link) : (s.setHolder c x).hub.held = s.hub.held := by
  cases c <;> rfl

theorem State.claimPort_held (x : Ticket) (b : List Byte) (s : State) : (State.claimPort x b s).hub.held = s.hub.held :=
  State.check_held _ _ _ (State.setHolder_held _ _ _)

theorem State.releasePort_held (x : Ticket) (b : List Byte) (s : State) : (State.releasePort x b s).hub.held = s.hub.held := by
  refine State.check_held _ _ _ ?_
  cases chanOf (u8 b 0) with
  | internal => rfl
  | port p => exact congrArg HubRec.held (State.MotionOnly.dropMotor s p .released).hub

theorem State.selectMode_held (x : Ticket) (b : List Byte) (s : State) : (State.selectMode x b s).hub.held = s.hub.held :=
  State.check_held _ _ _ rfl

theorem State.depart_held (s : State) (p : Port) (r : PortRec) : (s.depart p r).hub.held = s.hub.held := by
  have step : ∀ u : State, (((u.departMotor p).setPort p r).sensingDeparture p).hub.held = u.hub.held := fun u =>
    (State.held_of_claims (State.sensingDeparture_claims _ p)).trans
      (congrArg HubRec.held (State.MotionOnly.departMotor u p).hub)
  unfold State.depart
  rw [State.held_of_claims (State.disarmBoth_claims _ _ _)]
  split
  · exact step s
  · exact step _

theorem State.changePort_held (s : State) (p : Port) (r : PortRec) : (s.changePort p r).hub.held = s.hub.held := by
  have hn : ∀ c b, (if c = true then s.notifyBoth b else s).hub.held = s.hub.held := fun c b => by
    split
    · exact State.held_of_claims (State.notifyBoth_claims s b)
    · rfl
  unfold State.changePort
  dsimp only
  split
  · exact (State.depart_held _ _ _).trans (hn _ _)
  · exact hn _ _

theorem State.portReset_held (x : Ticket) (b : List Byte) (s : State) : (State.portReset x b s).hub.held = s.hub.held := by
  refine State.check_held _ _ _ ?_
  show (s.resetPort _).hub.held = s.hub.held
  unfold State.resetPort
  split
  · exact State.changePort_held _ _ _
  · unfold State.settlePort
    dsimp only
    split
    · exact (State.changePort_held _ _ _).trans (State.changePort_held _ _ _)
    · exact State.changePort_held _ _ _

theorem State.move_held (x : Ticket) (b : List Byte) (s : State) : (State.move x b s).hub.held = s.hub.held :=
  State.check_held _ _ _ (congrArg HubRec.held (State.MotionOnly.placeCommand _ _ _ _).hub)

theorem State.halt_held (x : Ticket) (b : List Byte) (s : State) : (State.halt x b s).hub.held = s.hub.held :=
  State.check_held _ _ _ (congrArg HubRec.held (State.MotionOnly.endEnter _ _ _ _ _).hub)

theorem State.setZero_held (x : Ticket) (b : List Byte) (s : State) : (State.setZero x b s).hub.held = s.hub.held :=
  State.check_held _ _ _ rfl

theorem State.setGains_held (x : Ticket) (b : List Byte) (s : State) : (State.setGains x b s).hub.held = s.hub.held :=
  State.check_held _ _ _ rfl

theorem State.pairBind_held (x : Ticket) (b : List Byte) (s : State) : (State.pairBind x b s).hub.held = s.hub.held :=
  State.check_held _ _ _ rfl

theorem State.pairUnbind_held (x : Ticket) (b : List Byte) (s : State) : (State.pairUnbind x b s).hub.held = s.hub.held := by
  unfold State.pairUnbind
  split
  · rfl
  · exact State.check_held _ _ _ (congrArg HubRec.held (State.MotionOnly.freePair s _).hub)

theorem State.pairMove_held (x : Ticket) (b : List Byte) (s : State) : (State.pairMove x b s).hub.held = s.hub.held := by
  unfold State.pairMove
  split
  · rfl
  · exact State.check_held _ _ _ (congrArg HubRec.held (State.MotionOnly.placeCommand _ _ _ _).hub)

theorem State.brickDetectSet_held (x : Ticket) (b : List Byte) (s : State) :
    (State.brickDetectSet x b s).hub.held = s.hub.held :=
  State.check_held _ _ _ 
    ((State.held_of_claims (State.setBrick_claims s x.link (brickSettingsOf b))).trans rfl)

/-! ### The brick, hub time and start-up -/

@[simp] theorem State.brickNotice_claims (s : State) (l : Link) (e : BrickRaise) (n : Nat) :
    (s.brickNotice l e n).claims = s.claims := by
  unfold State.brickNotice
  split <;> simp

@[simp] theorem State.raiseBrick_claims (s : State) (e : Option BrickRaise) : (s.raiseBrick e).claims = s.claims := by
  unfold State.raiseBrick
  split <;> simp

@[simp] theorem State.runDetector_claims (s : State) (b : Bool) (f : BrickState → DetectorWork → DetectorResult) :
    (s.runDetector b f).claims = s.claims := by
  simp [State.runDetector]

@[simp] theorem State.detect_claims (s : State) (x : Word32) (xs : List Int) : (s.detect x xs).claims = s.claims := by
  unfold State.detect
  split <;> simp

theorem State.Agree.internalSample (h : s.Agree up) (ax ay az gx gy gz : Int) :
    (s.internalSample ax ay az gx gy gz).Agree up :=
  (h.claims (State.detect_claims _ _ _)).takeSample _ _ _ _ _

@[simp] theorem State.expire_claims (s : State) (x : Word32) (n : Nat) : (s.expire x n).claims = s.claims := by
  unfold State.expire
  split
  · exact State.setHub_claims rfl
  · rfl

@[simp] theorem State.setSupply_claims (s : State) (x : Supply) : (s.setSupply x).claims = s.claims := rfl

@[simp] theorem State.setPins_claims (s : State) (x : Pins) : (s.setPins x).claims = s.claims := rfl

theorem State.Agree.supplyChange (h : s.Agree up) (a b : SupplyState) (n : Nat) : (s.supplyChange a b n).Agree up := by
  unfold State.supplyChange
  dsimp only
  have h1 := fun x => h.claims (t := (s.setSupply x).notifyBoth (.supplyChanged b a n)) (by simp)
  split
  · exact State.Agree.claims (h1 _).cutoffMotors ((State.mediaCutoff_claims _).trans (State.endSounds_claims _ _ _))
  · exact h1 _

theorem State.Agree.takeReading (h : s.Agree up) (n : Nat) : (s.takeReading n).Agree up := by
  have h1 := fun x => h.claims (s.setSupply_claims x)
  unfold State.takeReading
  dsimp only
  split
  · exact h1 _
  · split
    · split
      · exact State.Agree.claims ((h1 _).claims (State.setSupply_claims _ _)) (State.setHub_claims rfl)
      · exact (h1 _).claims (State.setSupply_claims _ _)
    · split
      · exact h1 _
      · exact (h1 _).supplyChange _ _ _

@[simp] theorem State.recordFailure_claims (s : State) (a : Area) (n : Nat) (ps : List Nat) :
    (s.recordFailure a n ps).claims = s.claims := State.setHub_claims rfl

@[simp] theorem State.setStep_claims (s : State) (n : Nat) : (s.setStep n).claims = s.claims := State.setHub_claims rfl

@[simp] theorem State.enterFailed_claims (s : State) : s.enterFailed.claims = s.claims := State.setHub_claims rfl

theorem State.Agree.enterReady (h : s.Agree up) : s.enterReady.Agree up := by
  unfold State.enterReady
  refine List.foldlRecOn _ _ ?_ fun _ ht p _ => ht.beginDetection p
  exact h.claims ((State.setSample_claims _ _ _).trans ((State.recomputeI_claims _).trans (State.setHub_claims rfl)))

theorem State.memoryTested_claims (s : State) (r : MemoryResult) : (s.memoryTested r).claims = s.claims := by
  cases r with
  | pass => exact State.setStep_claims _ _
  | patternFault => exact (State.enterFailed_claims _).trans (State.recordFailure_claims _ _ _ _)
  | addressFault => exact (State.enterFailed_claims _).trans (State.recordFailure_claims _ _ _ _)

theorem State.driversChecked_claims (s : State) : s.driversChecked.claims = s.claims := by
  unfold State.driversChecked
  refine (State.setHub_claims rfl).trans ?_
  split
  · rfl
  · exact State.recordFailure_claims _ _ _ _

theorem State.Agree.storeUnusable (h : s.Agree up) (n : Nat) (ps : List Nat) : (s.storeUnusable n ps).Agree up := by
  unfold State.storeUnusable
  exact State.Agree.enterReady (h.claims (by simp))

theorem State.Agree.flashScanned (h : s.Agree up) (x : FlashScan) : (s.flashScanned x).Agree up := by
  unfold State.flashScanned
  split
  · exact h.storeUnusable _ _
  · exact h.storeUnusable _ _
  · exact h.claims (by simp)

theorem State.factoryRead_claims (s : State) (x : FactoryIndex) : (s.factoryRead x).claims = s.claims := by
  cases x with
  | unreadable => exact (State.setStep_claims _ _).trans (State.recordFailure_claims _ _ _ _)
  | checkFailed => exact (State.setStep_claims _ _).trans (State.recordFailure_claims _ _ _ _)
  | index => exact (State.setStep_claims _ _).trans (State.setBlockStates_claims _ _ _)

theorem State.replayRing_claims (s : State) (ring : List RingImage) : (s.replayRing ring).claims = s.claims := by
  unfold State.replayRing
  split
  · rfl
  · exact (State.setWork_claims _ _).trans (State.recordFailure_claims _ _ _ _)

/-! ### Links that go UP and DOWN (R3, R14) -/

/-- The agreement reads of the Link Units which of the holders are UP. -/
theorem State.Agree.reup (h : s.Agree up) (hp : ∀ p l, (s.port p).holder = some l → up' l = true)
    (hI : ∀ l, s.holderI = some l → up' l = true) : s.Agree up' :=
  ⟨fun p => ⟨fun l e => ⟨((h.ports p).held l e).1, hp p l e⟩, (h.ports p).device, (h.ports p).stage⟩, hI, h.queues, h.running,
    h.pairs, h.bound⟩

theorem State.Agree.releaseAll (h : s.Agree up) (l : Link) : (s.releaseAll l).Agree up := by
  refine List.foldlRecOn _ _ h fun t ht c _ => ?_
  split
  · exact ht.releaseChan c
  · exact ht

theorem State.viewsDown_claims (s : State) (l : Link) : (s.viewsDown l).claims = s.claims :=
  (foldl_claims (by simp) _ _).trans (foldl_claims (by simp) _ s)

theorem State.Agree.goDown (h : s.Agree up) (l : Link) : (s.goDown l).Agree up := by
  have h1 := ((h.claims (s.setLink_claims l ((s.link l).cleared false))).releaseAll l).claims (State.viewsDown_claims _ l)
  exact h1.claims (by simp [State.goDown])

end Hub

end Sys2Proof.Machine

/-! PROOF of O58: every step keeps ports, channels and pairs in agreement (R24, R34, R40 to R45, R52, R56 to R61). -/

namespace Sys2Proof.Machine

section Steps
variable {s t : State}

/-- Which links are UP. -/
def State.ups (s : State) (l : Link) : Bool := (s.link l).up

/-- An act keeps the agreement for the links that were UP, in a hub that is not held, and does not end RESET. -/
def State.Kept (s t : State) : Prop := t.hub.held = false → s.hub.held = false ∧ (s.ChannelsAgree → t.Agree s.ups)

theorem State.ChannelsAgree.agree (h : s.ChannelsAgree) : s.Agree s.ups := ((State.channelsAgree_iff s).mp h).2

/-- What the agreement does not read keeps it. -/
theorem State.Kept.of_claims (e : t.claims = s.claims) : s.Kept t :=
  fun hh => ⟨(State.held_of_claims e).symm.trans hh, fun h => h.agree.claims e⟩

theorem State.Kept.unlessHeld {f : State → State} (hf : s.ChannelsAgree → (f s).Agree s.ups) : s.Kept (s.unlessHeld f) := by
  unfold State.unlessHeld
  split
  · rename_i hh
    exact fun e => absurd hh (by simp [e])
  · rename_i hh
    exact fun _ => ⟨by simpa using hh, hf⟩

theorem State.Kept.unlessHeld_claims {f : State → State} (hf : (f s).claims = s.claims) : s.Kept (s.unlessHeld f) :=
  .unlessHeld fun h => h.agree.claims hf

/-- A request that waits for its owner came on a link that is UP (R3). -/
theorem State.LinksSound.up_of_routed (h : s.LinksSound) {l : Link} {tag : Byte} {code : ReqCode} {x : Nat × List Byte}
    (hr : (s.link l).routed tag code = some x) : (s.link l).up = true := by
  by_contra hu
  obtain ⟨e, he, _⟩ := LinkUnit.routed_mem hr
  have ht := ((h l).2 (by simpa using hu)).1
  rw [ht] at he
  cases he

theorem State.Kept.serve {l : Link} {tag : Byte} {code : ReqCode} {f : Ticket → List Byte → State → State}
    (hh : ∀ x b u, (f x b u).hub.held = u.hub.held)
    (hf : ∀ x b u, s.ups x.link = true → u.Agree s.ups → (f x b u).Agree s.ups) : s.Kept (s.serve l tag code f) := by
  unfold State.serve
  split
  · exact .of_claims rfl
  · rename_i n b hr
    refine fun e => ⟨(hh _ _ (s.setLink l _)).symm.trans e, fun h => hf _ _ _ (h.links.up_of_routed hr) ?_⟩
    exact h.agree.claims (State.setLink_claims _ _ _)

theorem State.Kept.serve_claims {l : Link} {tag : Byte} {code : ReqCode} {f : Ticket → List Byte → State → State}
    (hf : ∀ x b u, (f x b u).claims = u.claims) : s.Kept (s.serve l tag code f) :=
  .serve (fun _ _ _ => State.held_of_claims (hf _ _ _)) fun _ _ _ _ h => h.claims (hf _ _ _)

/-- The requests that claim or release ports, or move channels. -/
def claimsPorts : Instr → Bool
  | .claimPort .. | .releasePort .. | .selectMode .. | .portReset .. | .move .. | .halt .. | .setZero .. | .setGains ..
  | .pairBind .. | .pairUnbind .. | .pairMove .. | .brickDetectSet .. => true
  | _ => false

theorem exec_claiming_kept {i : Instr} (hc : claimsPorts i = true) (h : exec i s = .next t) : s.Kept t := by
  cases i <;> cases hc <;> cases h
  case claimPort => exact .serve State.claimPort_held fun _ b _ hu h => h.claimPort hu b
  case releasePort => exact .serve State.releasePort_held fun x b _ _ h => h.releasePort x b
  case selectMode => exact .serve State.selectMode_held fun _ b _ hu h => h.selectMode hu b
  case portReset => exact .serve State.portReset_held fun x b _ _ h => h.portReset x b
  case move => exact .serve State.move_held fun _ b _ hu h => h.move hu b
  case halt => exact .serve State.halt_held fun _ b _ hu h => h.halt hu b
  case setZero => exact .serve State.setZero_held fun _ b _ hu h => h.setZero hu b
  case setGains => exact .serve State.setGains_held fun _ b _ hu h => h.setGains hu b
  case pairBind => exact .serve State.pairBind_held fun _ b _ hu h => h.pairBind hu b
  case pairUnbind => exact .serve State.pairUnbind_held fun x b _ _ h => h.pairUnbind x b
  case pairMove => exact .serve State.pairMove_held fun x b _ _ h => h.pairMove x b
  case brickDetectSet => exact .serve State.brickDetectSet_held fun _ b _ hu h => h.brickDetectSet hu b

/-- Every other request leaves ports, channels and pairs as they are. -/
theorem exec_answering_kept {i : Instr} (hr : isRequest i = true) (hc : claimsPorts i = false) (h : exec i s = .next t) :
    s.Kept t := by
  cases i <;> cases hr <;> cases hc <;> cases h
  all_goals
    refine .serve_claims fun x b u => ?_
    simp

/-! ### Pins, timers and device-line messages -/

section Devices
variable {up : Link → Bool} {p : Port}

@[simp] theorem State.expire_port (s : State) (x : Word32) (n : Nat) (p : Port) : (s.expire x n).port p = s.port p := by
  unfold State.expire
  split <;> rfl

theorem State.Agree.expire (h : s.Agree up) (x : Word32) (n : Nat) : (s.expire x n).Agree up := h.claims (s.expire_claims x n)

/-- An act under a condition, in a hub that is not held. -/
theorem State.Kept.unlessHeld_ite {c : State → Prop} [∀ x, Decidable (c x)] {f : State → State}
    (hf : c s → s.Agree s.ups → (f s).Agree s.ups) : s.Kept (s.unlessHeld fun x => if c x then f x else x) := by
  refine .unlessHeld fun h => ?_
  split
  · rename_i hc
    exact hf hc h.agree
  · exact h.agree

theorem State.Kept.lineMessage (p : Port) (m : LineMessage) {rule : State → Option State}
    (hr : ∀ u v, u.Agree s.ups → rule u = some v → v.Agree s.ups) :
    s.Kept (s.unlessHeld fun x => x.lineMessage p m rule) := .unlessHeld fun h => h.agree.lineMessage p m hr

theorem exec_detectChange_kept (s : State) (p : Port) (x : Level) (h : exec (.detectChange p x) s = .next t) : s.Kept t := by
  cases h
  have hc : (s.setPins { s.pins with detect := s.pins.detect.set p x }).claims = s.claims := State.setPins_claims _ _
  split
  · rename_i hh
    refine fun _ => ⟨by simpa using hh.2.2, fun h => ?_⟩
    exact (h.agree.claims hc).detectInput p x
  · exact .of_claims hc

theorem exec_driverFault_kept (s : State) (p : Port) (b : Bool) (h : exec (.driverFault p b) s = .next t) : s.Kept t := by
  cases h
  have hc : (s.setPins { s.pins with fault := s.pins.fault.set p b }).claims = s.claims := State.setPins_claims _ _
  split
  · rename_i hh
    refine fun _ => ⟨by simpa using hh.2.1, fun h => ?_⟩
    exact (h.agree.claims hc).faultPort p .overload
  · exact .of_claims hc

/-- The timers of a device (R20, R24, R26, R29, R38). -/
theorem State.Agree.modeChangeTimeout (h : s.Agree up) (w : PendingMode) (r : PortRec) (hr : r.claim = (s.port p).claim) :
    (((s.setPort p r).refuse w.ticket .deviceTimeout).silent p).Agree up :=
  ((h.samePort hr).claims (State.refuse_claims _ _ _)).silent p

theorem exec_port_kept {i : Instr} (hr : isRequest i = false) (hw : writesLinks i = false) (h : exec i s = .next t) :
    s.Kept t := by
  cases i <;> cases hr <;> cases hw
  case detectChange p x => exact exec_detectChange_kept s p x h
  case driverFault p b => exact exec_driverFault_kept s p b h
  all_goals cases h
  case memoryTest r => exact .unlessHeld_ite fun _ h => h.claims (State.memoryTested_claims s r)
  case driverCheck => exact .unlessHeld_ite fun _ h => h.claims (State.driversChecked_claims s)
  case flashIdentification x => exact .unlessHeld_ite fun _ h => h.flashScanned x
  case factoryIndexRead x => exact .unlessHeld_ite fun _ h => h.claims (State.factoryRead_claims s x)
  case catalogueReplay r => exact .unlessHeld_ite fun _ h => (h.claims (State.replayRing_claims s r)).enterReady
  case supplyReading mv => exact .unlessHeld_ite fun _ h => h.takeReading mv
  case holdRises => exact .of_claims (State.setPins_claims _ _)
  case holdFalls => exact .of_claims (State.setPins_claims _ _)
  case debounceExpiry p => exact .unlessHeld_ite fun hs h => (h.expire _ _).settled (by simpa using hs)
  case deviceLineGapTimeout p =>
    refine .unlessHeld fun h => ?_
    split
    · exact h.agree
    · exact h.agree.samePort rfl
  case deviceNotReady p m =>
    refine .lineMessage p m fun u v hu hv => ?_
    split at hv <;> cases hv
    exact hu
  case deviceIdentity p d m =>
    refine .lineMessage p m fun u v hu hv => ?_
    split at hv <;> cases hv
    rename_i hs
    exact hu.identity (hu.staged hs) d
  case deviceAck p m =>
    refine .lineMessage p m fun u v hu hv => ?_
    split at hv <;> cases hv
    rename_i hs
    exact hu.speedAck (hu.staged hs)
  case deviceData p mode values m => exact .lineMessage p m fun u v hu hv => hu.data hv
  case enquirePoll p => exact .unlessHeld_ite fun _ h => (h.expire _ _).samePort rfl
  case identDeadlineExpiry p => exact .unlessHeld_ite fun _ h => (h.expire _ _).faultPort p _
  case speedAckTimeout p =>
    refine .unlessHeld_ite fun _ h => ?_
    dsimp only
    split
    · exact (h.expire _ _).faultPort p _
    · exact (h.expire _ _).samePort rfl
  case firstDataTimeout p =>
    refine .unlessHeld_ite fun hs h => ?_
    dsimp only
    split
    · exact (h.expire _ _).faultPort p _
    · exact (h.expire _ _).askFirstData (by simpa using h.staged hs) true
  case nudge p => exact .unlessHeld_ite fun _ h => (h.expire _ _).samePort rfl
  case silentPath p =>
    refine .unlessHeld fun h => ?_
    split
    · split
      · exact (h.agree.expire _ _).silent p
      · exact h.agree
    · exact h.agree
  case silentRetryClear p => exact .unlessHeld_ite fun _ h => (h.expire _ _).samePort rfl
  case modeChangeTimeout p =>
    refine .unlessHeld fun h => ?_
    split
    · exact h.agree
    · dsimp only
      split
      · exact (h.agree.expire _ _).modeChangeTimeout _ _ rfl
      · exact (h.agree.expire _ _).samePort rfl
  case controlPeriod => exact .unlessHeld fun h => h.agree.controlPeriod
  case timeRunEnd p => exact .unlessHeld fun h => h.agree.timeRunEnd p
  case settleDone p => exact .unlessHeld fun h => h.agree.settleDone p
  case settleTimeout p => exact .unlessHeld fun h => h.agree.settleTimeout p
  case stallRecognised p => exact .unlessHeld fun h => h.agree.recogniseStall p
  case encoderEdge p x => exact .unlessHeld_ite fun _ h => h.setMotor rfl
  case portISample => exact .unlessHeld_ite fun _ h => h.internalSample _ _ _ _ _ _
  case watchFired l n => exact .unlessHeld fun h => h.agree.fireWatch l n
  case outputSample =>
    refine .unlessHeld_claims ?_
    split
    · simp
    · rfl
  case backgroundEraseStart => exact .unlessHeld_ite fun _ h => h.claims (by simp)
  case refreshStart => exact .unlessHeld_ite fun _ h => h.claims (by simp)
  all_goals exact .unlessHeld_claims (by simp)

end Devices

/-! ### The Link Units (R3, R4, R12, R14) -/

/-- A Link Unit's own work: what the agreement reads stands, and so do the links that are UP. -/
structure State.Quiet (s t : State) : Prop where
  claims : t.claims = s.claims
  ups : t.ups = s.ups

theorem State.Quiet.refl (s : State) : s.Quiet s := ⟨rfl, rfl⟩

theorem State.Quiet.trans {u : State} (h : s.Quiet t) (k : t.Quiet u) : s.Quiet u :=
  ⟨k.claims.trans h.claims, k.ups.trans h.ups⟩

theorem State.Quiet.of_links (hc : t.claims = s.claims) (hl : t.links = s.links) : s.Quiet t :=
  ⟨hc, funext fun l => by rw [State.ups, State.link, hl]; rfl⟩

theorem State.Tells.ups {A : Link → Prop} (h : s.Tells A t) : t.ups = s.ups := funext fun l => h.up_eq l

theorem State.tick_ups (s : State) : s.tick.ups = s.ups := by
  unfold State.tick State.unlessHeld
  split <;> rfl

theorem State.Quiet.setLink {u : LinkUnit} (h : s.Quiet t) (l : Link) (hu : u.up = (t.link l).up) : s.Quiet (t.setLink l u) := by
  refine h.trans ⟨State.setLink_claims _ _ _, funext fun k => ?_⟩
  unfold State.ups
  rw [State.setLink_link]
  split
  · rename_i hk
    rw [hk, hu]
  · rfl

theorem State.Quiet.setSched (h : s.Quiet t) (l : Link) (x : Scheduler) : s.Quiet (t.setSched l x) :=
  h.trans (.of_links (State.setSched_claims _ _ _) rfl)

theorem State.Quiet.expire (h : s.Quiet t) (x : Word32) (n : Nat) : s.Quiet (t.expire x n) :=
  h.trans ⟨State.expire_claims _ _ _, ((State.Tells.refl anyLink t).expire x n).ups⟩

theorem State.Quiet.sendReport (h : s.Quiet t) (l : Link) : s.Quiet (t.sendReport l) := by
  unfold State.sendReport
  split
  · exact h
  · split
    · exact h.setSched l _
    · exact h.setLink l rfl

theorem State.Quiet.chooseFrame (s : State) (l : Link) : s.Quiet (s.chooseFrame l) := by
  unfold State.chooseFrame
  split
  · dsimp only
    split
    · exact (State.Quiet.refl s).setLink l rfl
    · exact (State.Quiet.refl s).setLink l rfl
    · unfold State.chooseReport
      split
      · exact (State.Quiet.refl s).sendReport l
      · split
        · exact (State.Quiet.of_links (State.beginService_claims _ _ _) (State.beginService_links _ _ _)).sendReport l
        · exact .refl s
  · exact .refl s

theorem State.Quiet.queueExpired (h : s.Quiet t) (l : Link) (q : QueueId) : s.Quiet (t.queueExpired l q) := by
  unfold State.queueExpired
  dsimp only
  split
  · exact h
  · split
    · exact h.setLink l rfl
    · exact h.setSched l _

theorem State.Quiet.linkCounts (s : State) (l : Link) (tag : Byte) :
    s.Quiet (s.serve l tag .linkCounts State.linkCounts) := by
  unfold State.serve
  split
  · exact .refl s
  · rename_i n b _
    have ht := (State.Quiet.refl s).setLink l (u := (s.link l).take n) rfl
    refine ht.trans ⟨State.linkCounts_claims _ _ _, ?_⟩
    generalize s.setLink l ((s.link l).take n) = u
    have hf : u.Quiet (if decide (u8 b 1 = 1) = true then u.setLink (countsLink (u8 b 0))
        { u.link (countsLink (u8 b 0)) with counts := .zero } else u) := by
      split
      · exact (State.Quiet.refl u).setLink _ rfl
      · exact .refl u
    unfold State.linkCounts State.check
    dsimp only
    split
    · exact ((State.Tells.refl anyLink u).refuse trivial _).ups
    · exact (((State.Tells.refl anyLink _).complete trivial _).ups).trans hf.ups

/-- The Link Units' own commands but those that bring a link UP or DOWN or end a transmission. -/
theorem exec_link_quiet {i : Instr} (hw : writesLinks i = true) (h : exec i s = .next t) :
    s.Quiet t ∨ t = s.restart ∨ t.hub.held = true ∨ (∃ l, i = .linkUp l) ∨ ∃ l, i = .linkDown l := by
  cases i <;> cases hw
  case linkUp l => exact .inr (.inr (.inr (.inl ⟨l, rfl⟩)))
  case linkDown l => exact .inr (.inr (.inr (.inr ⟨l, rfl⟩)))
  all_goals cases h
  case powerOn => exact .inr (.inl rfl)
  case resetAsserted =>
    refine .inr (.inr (.inl ?_))
    unfold State.unlessHeld
    split
    · assumption
    · exact s.hold_held
  case resetReleased =>
    split
    · exact .inr (.inl rfl)
    · exact .inl (.refl s)
  case overlength l n =>
    refine .inl ?_
    split
    · exact (State.Quiet.refl s).setLink l rfl
    · exact .refl s
  case frameReceived l kind tag code b check =>
    refine .inl ?_
    split
    · exact (State.Quiet.refl s).setLink l (LinkUnit.frame_up _ _ _ _ _ _ _ _)
    · exact .refl s
  case fragmentTimeout l =>
    refine .inl ?_
    split
    · exact .refl s
    · exact ((State.Quiet.refl s).expire _ _).setLink l rfl
  case badStopBit =>
    refine .inl ?_
    split
    · exact .refl s
    · exact (State.Quiet.refl s).setLink .tl rfl
  case transmitArbiterChoose l => exact .inl (.chooseFrame s l)
  case frameSent l =>
    unfold State.frameSent
    dsimp only
    split
    · exact .inl (.refl s)
    · split
      · split
        · exact .inr (.inl rfl)
        · exact .inl ((State.Quiet.refl s).setLink l rfl)
      · exact .inl ((State.Quiet.refl s).setLink l rfl)
      · exact .inl ((State.Quiet.refl s).setLink l rfl)
      · refine .inl (State.Quiet.setSched ?_ l _)
        exact (State.Quiet.refl s).setLink l rfl
  case linkCounts l tag => exact .inl (.linkCounts s l tag)
  case rateQueueExpiry l q =>
    refine .inl ?_
    unfold State.unlessHeld
    split
    · exact .refl s
    · dsimp only
      split
      · exact .refl s
      · exact (((State.Quiet.refl s).expire _ _).setSched l _).queueExpired l q
  case syncByteReceived x =>
    refine .inl ?_
    show s.Quiet (s.byteReceived x.link x.byte)
    unfold State.byteReceived
    split
    · exact (State.Quiet.refl s).setLink _ rfl
    · exact .refl s

theorem State.ChannelsAgree.goUp (h : s.ChannelsAgree) (l : Link) : (s.goUp l).Agree (s.goUp l).ups := by
  have h1 : (s.goUp l).Agree s.ups :=
    h.agree.claims ((State.setSched_claims _ _ _).trans (State.setLink_claims _ _ _))
  have up : ∀ k, s.ups k = true → (s.goUp l).ups k = true := fun k hk => by
    unfold State.ups
    rw [State.goUp_link]
    split
    · rfl
    · exact hk
  exact h1.reup (fun p k e => up k ((h1.ports p).held k e).2) fun k e => up k (h1.heldI k e)

theorem State.ChannelsAgree.goDown (h : s.ChannelsAgree) (l : Link) : (s.goDown l).Agree (s.goDown l).ups := by
  have h1 : (s.goDown l).Agree s.ups := h.agree.goDown l
  have up : ∀ k, k ≠ l → s.ups k = true → (s.goDown l).ups k = true := fun k hk hu => by
    unfold State.ups
    rw [(s.goDown_tells l).up_eq, State.setLink_link, if_neg hk]
    exact hu
  have freed : ∀ x : Option Link, freedOf l x ≠ some l := fun x e => by
    unfold freedOf at e
    split at e
    · cases e
    · contradiction
  refine h1.reup (fun p k e => up k ?_ ((h1.ports p).held k e).2) fun k e => up k ?_ (h1.heldI k e)
  · rintro rfl
    rw [(s.goDown_ports k).1 p, State.recomputed_holder] at e
    exact freed _ e
  · rintro rfl
    rw [(s.goDown_records k).2.1] at e
    exact freed _ e

/-- LINK UP and LINK DOWN (R3, R14, R170). -/
theorem exec_linkUp_agree {l : Link} (hs : s.ChannelsAgree) (hh : s.hub.held = false) (h : exec (.linkUp l) s = .next t) :
    t.Agree t.ups := by
  have h1 := hs.enableLine l true
  cases hu : (s.link l).up with
  | false =>
    rw [exec_linkUp_down hh hu] at h
    cases h
    exact h1.goUp l
  | true =>
    rw [exec_linkUp_up hh hu] at h
    cases h
    exact h1.agree

theorem exec_linkDown_agree {l : Link} (hs : s.ChannelsAgree) (hh : s.hub.held = false)
    (h : exec (.linkDown l) s = .next t) : t.Agree t.ups := by
  have h1 := hs.enableLine l false
  cases hu : (s.link l).up with
  | false =>
    rw [exec_linkDown_down hh hu] at h
    cases h
    exact h1.agree
  | true =>
    by_cases hr : s.hub.resetPending = true ∧ l = .pl
    · have he : exec (.linkDown l) s = .next (s.enableLine l false).restart := by
        refine congrArg Host.Outcome.next ((State.unlessHeld_free (s := s.enableLine l false) hh _).trans ?_)
        exact (if_pos hu).trans (if_pos hr)
      rw [he] at h
      obtain rfl := Host.Outcome.next.inj h
      exact State.ChannelsAgree.agree (State.fresh_channelsAgree _ _)
    · rw [exec_linkDown_up hh hu hr] at h
      obtain rfl := Host.Outcome.next.inj h
      exact h1.goDown l

/-- RESET stays asserted through LINK UP and LINK DOWN (R169). -/
theorem exec_line_held {i : Instr} {l : Link} (hi : i = .linkUp l ∨ i = .linkDown l) (hh : s.hub.held = true)
    (h : exec i s = .next t) : t.hub.held = true := by
  rcases hi with rfl | rfl
  all_goals
    cases h
    unfold State.unlessHeld
    exact (congrArg (fun x : State => x.hub.held) (if_pos hh)).trans hh

/-- A command of the Link Units keeps the agreement. -/
theorem exec_link_agree {i : Instr} (hw : writesLinks i = true) (hs : s.hub.held = false → s.ChannelsAgree)
    (h : exec i s = .next t) (ht : t.hub.held = false) : t.Agree t.ups := by
  rcases exec_link_quiet hw h with hq | rfl | hh | ⟨l, hl⟩ | ⟨l, hl⟩
  · rw [hq.ups]
    exact (hs ((State.held_of_claims hq.claims).symm.trans ht)).agree.claims hq.claims
  · exact State.ChannelsAgree.agree (State.fresh_channelsAgree _ _)
  · rw [ht] at hh
    cases hh
  · cases hh : s.hub.held with
    | false => exact exec_linkUp_agree (hs hh) hh (hl ▸ h)
    | true => rw [exec_line_held (.inl hl) hh h] at ht; cases ht
  · cases hh : s.hub.held with
    | false => exact exec_linkDown_agree (hs hh) hh (hl ▸ h)
    | true => rw [exec_line_held (.inr hl) hh h] at ht; cases ht

/-- Every command that is none of the Link Units' own keeps the agreement. -/
theorem exec_kept {i : Instr} (hw : writesLinks i = false) (h : exec i s = .next t) : s.Kept t := by
  cases hr : isRequest i with
  | false => exact exec_port_kept hr hw h
  | true =>
    cases hc : claimsPorts i with
    | true => exact exec_claiming_kept hc h
    | false => exact exec_answering_kept hr hc h

/-- A command that ends RESET leaves the state after reset (R169). -/
theorem exec_restart {i : Instr} (hh : s.hub.held = true) (h : exec i s = .next t) (ht : t.hub.held = false) :
    t = s.restart := by
  have no : ∀ {b : Bool}, b = true → b = false → t = s.restart := fun h1 h2 => by rw [h1] at h2; cases h2
  cases hw : writesLinks i with
  | false => exact no hh (exec_kept hw h ht).1
  | true =>
    rcases exec_link_quiet hw h with hq | hr | hr | ⟨l, hl⟩ | ⟨l, hl⟩
    · exact no hh ((State.held_of_claims hq.claims).symm.trans ht)
    · exact hr
    · exact no hr ht
    · exact no (exec_line_held (.inl hl) hh h) ht
    · exact no (exec_line_held (.inr hl) hh h) ht

/-- Every command that leaves RESET not asserted keeps the agreement. -/
theorem exec_agree {i : Instr} (hs : s.hub.held = false → s.ChannelsAgree) (h : exec i s = .next t)
    (ht : t.hub.held = false) : t.ChannelsAgree := by
  cases hh : s.hub.held with
  | true =>
    rw [exec_restart hh h ht]
    exact State.fresh_channelsAgree _ _
  | false =>
    refine (State.channelsAgree_iff t).mpr ⟨(hs hh).links.exec h, ?_⟩
    cases hw : writesLinks i with
    | true => exact exec_link_agree hw hs h ht
    | false =>
      refine (congrArg t.Agree ?_).mpr ((exec_kept hw h ht).2 (hs hh))
      exact (exec_tells hw h).ups

end Steps

/-- Settles O58, by the command that the step takes: the Link Units' own commands read and write nothing that ports,
channels and pairs agree on but which links are UP; every other one is made of acts that keep the agreement. -/
theorem channelsStayAgreed : Obligations.ChannelsStayAgreed := by
  intro s t hs h ht
  unfold step at h
  split at h
  · obtain rfl := Host.Outcome.next.inj h
    have hk : s.Kept s.tick := .unlessHeld_claims (State.setHub_claims rfl)
    obtain ⟨hh, ha⟩ := hk ht
    refine (State.channelsAgree_iff _).mpr ⟨(hs hh).links.unlessHeld ((hs hh).links.of_links rfl), ?_⟩
    exact (congrArg s.tick.Agree s.tick_ups).mpr (ha (hs hh))
  · rename_i rest _
    exact exec_agree (s := { s with pending := rest }) (fun e => (State.channelsAgree_iff _).mpr
      ⟨(hs e).links.of_links rfl, (hs e).agree.claims rfl⟩) h ht

end Sys2Proof.Machine

/-! SUPPORT. Requests of ports and channels: the checks of R33 as the claims spell them, and responses that follow other
hand-overs and changes. -/

namespace Sys2Proof.Machine

section Requests
variable {s t : State} {l k : Link} {tag : Byte} {code : ReqCode} {n : Nat} {b : List Byte}

/-! ### The checks of R33 -/

theorem State.portGuard_eq (s : State) (x g : Nat) : s.portGuard x g = s.portChecks x g := by
  simp [State.portGuard, State.portChecks, State.active, Bool.decide_and, beq_eq_decide]

theorem State.chanGuard_eq (s : State) (x g : Nat) : s.chanGuard x g = s.chanChecks x g := by
  simp [State.chanGuard, State.chanChecks, State.portGuard_eq, State.hubReady, Bool.decide_and, beq_eq_decide]

/-- A holder that is some link but not this one is the other. -/
theorem other_iff (l : Link) (h : Option Link) : (h ≠ none ∧ h ≠ some l) ↔ h = some (otherLink l) := by
  cases h with
  | none => simp
  | some k => cases k <;> cases l <;> simp [otherLink]

theorem State.otherHolds_eq (s : State) (l : Link) (p : Port) : s.otherHolds l p = s.heldByOther l p := by
  simp only [State.otherHolds, State.heldByOther, other_iff, beq_eq_decide]

/-! ### Notices between the taking of a request and its response -/

theorem State.setLink_comm (s : State) (h : k ≠ l) (u v : LinkUnit) :
    (s.setLink k u).setLink l v = (s.setLink l v).setLink k u := by
  have hl : (s.links.set k u).set l v = (s.links.set l v).set k u := by
    refine PerLink.ext_get fun i => ?_
    simp only [PerLink.get_set]
    by_cases h1 : i = l
    · rw [if_pos h1, if_neg fun e => h (e.symm.trans h1), if_pos h1]
    · rw [if_neg h1, if_neg h1]
  simp only [State.setLink, hl]

/-- The Link Unit that is handed a notice while it is UP (R10). -/
def LinkUnit.hear (u : LinkUnit) (x : Notice) : LinkUnit := if u.up then u.queueNotice x else u

theorem State.notify_eq (s : State) (l : Link) (x : NoticeBody) :
    s.notify l x = s.setLink l ((s.link l).hear ⟨x, s.now⟩) := by
  unfold State.notify LinkUnit.hear
  split
  · rfl
  · rw [State.setLink_same]

@[simp] theorem LinkUnit.hear_table (u : LinkUnit) (x : Notice) : (u.hear x).table = u.table := by
  unfold LinkUnit.hear LinkUnit.queueNotice
  split
  · split <;> rfl
  · rfl

/-- A Link Unit's table is no part of what a notice reads or writes. -/
theorem LinkUnit.take_hear (u : LinkUnit) (n : Nat) (x : Notice) : (u.take n).hear x = (u.hear x).take n := by
  have h1 : (u.take n).up = u.up := rfl
  have h2 : (u.take n).notices = u.notices := rfl
  unfold LinkUnit.hear LinkUnit.queueNotice
  rw [h1, h2]
  by_cases hu : u.up = true
  · by_cases hn : u.notices.length < 16
    · simp only [hu, hn, if_true]
      rfl
    · simp only [hu, hn, if_true, if_false]
      rfl
  · simp only [hu, Bool.false_eq_true, if_false]

theorem State.taken_notify (s : State) (l k : Link) (n : Nat) (x : NoticeBody) :
    (s.taken l n).notify k x = (s.notify k x).taken l n := by
  simp only [State.notify_eq, State.taken]
  have hn : (s.setLink l ((s.link l).take n)).now = s.now := rfl
  by_cases hk : k = l
  · subst hk
    simp only [State.setLink_link_self, State.setLink_setLink, hn, LinkUnit.take_hear]
  · simp only [State.setLink_link, if_neg hk, if_neg (Ne.symm hk), hn]
    exact State.setLink_comm s (Ne.symm hk) _ _

theorem State.taken_notifyBoth (s : State) (l : Link) (n : Nat) (x : NoticeBody) :
    (s.taken l n).notifyBoth x = (s.notifyBoth x).taken l n := by
  simp only [State.notifyBoth, State.taken_notify]

theorem State.taken_notifyAll (s : State) (l : Link) (n : Nat) (xs : List (Link × NoticeBody)) :
    (s.taken l n).notifyAll xs = (s.notifyAll xs).taken l n := by
  unfold State.notifyAll
  induction xs generalizing s with
  | nil => rfl
  | cons x rest ih => simp only [List.foldl_cons, State.taken_notify, ih]

theorem LinkUnit.routed_congr {u v : LinkUnit} (h : v.table = u.table) (tag : Byte) (code : ReqCode) :
    v.routed tag code = u.routed tag code := by
  unfold LinkUnit.routed
  rw [h]

theorem State.notify_table (s : State) (k l : Link) (x : NoticeBody) :
    ((s.notify k x).link l).table = (s.link l).table := by
  rw [State.notify_eq, State.setLink_link]
  split
  · rename_i h
    rw [LinkUnit.hear_table, h]
  · rfl

/-- A request goes on waiting through notices and changes of other records. -/
theorem State.Waits.notify (h : s.Waits l tag code n b) (k : Link) (x : NoticeBody) :
    (s.notify k x).Waits l tag code n b :=
  ⟨h.sound.notify k x, (LinkUnit.routed_congr (s.notify_table k l x) tag code).trans h.routed⟩

theorem State.Waits.notifyBoth (h : s.Waits l tag code n b) (x : NoticeBody) : (s.notifyBoth x).Waits l tag code n b :=
  (h.notify .pl x).notify .tl x

theorem State.Waits.notifyAll (h : s.Waits l tag code n b) (xs : List (Link × NoticeBody)) :
    (s.notifyAll xs).Waits l tag code n b := by
  unfold State.notifyAll
  induction xs generalizing s with
  | nil => exact h
  | cons x rest ih => exact ih (h.notify x.1 x.2)

theorem State.Waits.of_links (h : s.Waits l tag code n b) (hl : t.links = s.links) : t.Waits l tag code n b :=
  ⟨h.sound.of_links hl, by rw [State.link, hl]; exact h.routed⟩

/-! ### Requests that pass or fail their checks -/

/-- A request whose checks fail is answered with the first that does. -/
theorem State.serve_refused (h : s.Waits l tag code n b) {f : Ticket → List Byte → State → State}
    {cs : List (Bool × Judgement)} {g : State → State} (hf : f ⟨l, n⟩ b (s.taken l n) = (s.taken l n).check ⟨l, n⟩ cs g)
    {j : Judgement} (hj : judge cs = some j) : s.serve l tag code f = s.answered l tag code n j [] := by
  rw [State.serve_waits h, hf, State.check_some hj]
  exact State.respond_taken h j []

/-- A request whose checks pass is carried out and answered. -/
theorem State.serve_done (h : s.Waits l tag code n b) {f : Ticket → List Byte → State → State}
    {cs : List (Bool × Judgement)} {g : State → State} (hf : f ⟨l, n⟩ b (s.taken l n) = (s.taken l n).check ⟨l, n⟩ cs g)
    (hj : judge cs = none) {body : List Byte} (ht : t.Waits l tag code n b)
    (hg : g (s.taken l n) = (t.taken l n).complete ⟨l, n⟩ body) :
    s.serve l tag code f = t.answered l tag code n .normalCompletion body := by
  rw [State.serve_waits h, hf, State.check_none hj, hg]
  exact State.respond_taken ht .normalCompletion body

end Requests

end Sys2Proof.Machine

/-! PROOF of O10: PORT INFO (R39, R40). -/

namespace Sys2Proof.Machine

/-! ### The layout of section 1.9 -/

theorem e16_length (n : Nat) : (e16 n).length = 2 := rfl

theorem es32_length (x : Int) : (es32 x).length = 4 := by
  unfold es32
  split <;> rfl

theorem modeBytes_length (m : ModeRecord) : (modeBytes m).length = 22 := by
  simp [modeBytes, es32_length, e16_length]

theorem modesBytes_length (ms : List ModeRecord) : (ms.map modeBytes).flatten.length = 22 * ms.length := by
  induction ms with
  | nil => rfl
  | cons m rest ih =>
    simp only [List.map_cons, List.flatten_cons, List.length_append, modeBytes_length, ih, List.length_cons]
    omega

theorem DeviceRecord.fields_eq (d : DeviceRecord) : DeviceRecord.fields d = deviceBytes d := by
  have hk : ∀ k : DeviceClass, (match k with
      | .sensor => 0 | .motor => 1 | .plainMotor => 2 | .lamp => 3 | .internal => 4 : Nat) = classCode k := by
    intro k
    cases k <;> rfl
  have hs : ∀ x : SpeedSet, (if x.b2400 then 1 else 0) + (if x.b9600 then 2 else 0) + (if x.b57600 then 4 else 0) +
      (if x.b115200 then 8 else 0) + (if x.b460800 then 16 else 0) = speedFlags x := by
    rintro ⟨b1, b2, b3, b4, b5⟩
    revert b1 b2 b3 b4 b5
    decide
  unfold DeviceRecord.fields deviceBytes
  simp only [hs]
  cases d.kind <;> cases d.motor <;> rfl

theorem deviceBytes_length (d : DeviceRecord) : (deviceBytes d).length = 17 + 22 * d.modes.length := by
  unfold deviceBytes
  simp only [List.length_append, modesBytes_length, e8_length, e16_length, e32_length]
  cases d.motor <;> simp [eBool, e16_length]

theorem portCode_portOf {n : Nat} (h : n ≤ 5) : portCode (portOf n) = n := by
  interval_cases n <;> rfl

/-- The fields of PORT INFO before the presence byte. -/
def State.portInfoFields (s : State) (x : Nat) : List Byte :=
  let r := s.port (portOf x)
  e8 x ++ e8 (portStateCode r.state) ++ e8 (levelCode r.detect) ++ e8 r.generation ++
    e8 (holderCode r.holder) ++ e8 (r.mode.getD 255) ++ e8 ((r.pendingMode.map (fun w => w.mode)).getD 255) ++
    e8 (faultCode r.fault) ++ e8 (rejectCode r.reject) ++ e8 (if r.silentRetry then 1 else 0) ++
    e32 (if r.state = .active then
      (if r.device.map (fun d => d.kind) = some .sensor then r.interval.getD 0 else 5000) else 0) ++
    e16 r.counts.received ++ e16 r.counts.checkErrors ++ e16 r.counts.unexpected ++ e16 r.counts.nudges

theorem State.portInfoFields_length (s : State) (x : Nat) : (s.portInfoFields x).length = 22 := rfl

/-- The presence byte and the device record of PORT INFO. -/
def recordBytes : Option DeviceRecord → List Byte
  | none => [0#8]
  | some d => [1#8] ++ DeviceRecord.fields d

/-- The body of PORT INFO on ports A to F is its fields, the presence byte and the device record. -/
theorem State.portInfoBody_eq (s : State) {x : Nat} (h : x ≤ 5) :
    s.portInfoBody (portOf x) = s.portInfoFields x ++ recordBytes (s.port (portOf x)).device := by
  have hi : s.infoInterval (portOf x) = if (s.port (portOf x)).state = .active then
      (if (s.port (portOf x)).device.map (fun d => d.kind) = some .sensor then (s.port (portOf x)).interval.getD 0
        else 5000) else 0 := by
    simp [State.infoInterval, State.active, State.sourceInterval, State.classOf]
  unfold State.portInfoBody State.portInfoFields
  rw [portCode_portOf h, hi]
  refine congrArg₂ (· ++ ·) ?_ ?_
  · simp only [eOpt8, eBool]
  · cases (s.port (portOf x)).device with
    | none => rfl
    | some d => exact congrArg _ (DeviceRecord.fields_eq d).symm

section PortInfo
variable {s : State} {l : Link} {tag : Byte} {n : Nat} {b : List Byte}

/-- The checks of PORT INFO (R33, R39). -/
def portInfoChecks (b : List Byte) : List (Bool × Judgement) :=
  [(decide (b.length ≠ 1), .parameterError), (decide (6 < u8 b 0), .portError)]

theorem exec_portInfo_refused (h : s.Waits l tag .portInfo n b) {j : Judgement} (hj : judge (portInfoChecks b) = some j) :
    exec (.portInfo l tag) s = .next (s.answered l tag .portInfo n j []) :=
  congrArg _ (State.serve_refused h rfl hj)

theorem exec_portInfo_done (h : s.Waits l tag .portInfo n b) (hb : b.length = 1) (h6 : u8 b 0 ≤ 6) :
    exec (.portInfo l tag) s = .next (s.answered l tag .portInfo n .normalCompletion
      (if u8 b 0 = 6 then s.internalInfoBody else s.portInfoBody (portOf (u8 b 0)))) := by
  refine congrArg _ (State.serve_done h rfl (t := s) (cs := portInfoChecks b) ?_ h rfl)
  simp [portInfoChecks, hb]
  omega

end PortInfo

/-- Settles O10, by the device record of the port: the response body is the layout's, and the rest stands. -/
theorem portInfoAnswered : Obligations.PortInfoAnswered := by
  intro s l tag n b h after r fixed
  have hf : fixed = s.portInfoFields (u8 b 0) := rfl
  clear_value fixed
  subst hf
  have done := fun hb h6 => exec_portInfo_done h (hb : b.length = 1) h6
  refine ⟨fun hb => exec_portInfo_refused h (by simp [portInfoChecks, hb]),
    fun hb h6 => exec_portInfo_refused h (by simp [portInfoChecks, hb, h6]), fun hb h5 hd => ⟨?_, ?_⟩,
    fun d hb h5 hd => ⟨?_, ?_⟩, fun hb h6 => ?_⟩
  · rw [List.length_append, State.portInfoFields_length]
    rfl
  · refine (done hb (by omega)).trans ?_
    rw [if_neg (by omega), State.portInfoBody_eq s h5, hd]
    rfl
  · rw [List.length_append, List.length_append, State.portInfoFields_length, DeviceRecord.fields_eq, deviceBytes_length]
    simp only [List.length_singleton]
    omega
  · refine (done hb (by omega)).trans ?_
    rw [if_neg (by omega), State.portInfoBody_eq s h5, hd, List.append_assoc]
    rfl
  · refine (done hb (by omega)).trans ?_
    rw [if_pos h6]
    rfl

end Sys2Proof.Machine

/-! PROOF of O12: SELECT MODE (R35, R37). -/

namespace Sys2Proof.Machine

theorem State.setPort_setPort (s : State) (p : Port) (x y : PortRec) : (s.setPort p x).setPort p y = s.setPort p y := by
  simp [State.setPort]

/-- What SELECT MODE does once every check has passed, as one change of the record (R37). -/
theorem State.beginMode_eq (s : State) (x : Ticket) (p : Port) (mode : Nat) :
    s.beginMode x p mode = s.setPort p { s.port p with
      holder := some x.link, pendingMode := some ⟨mode, x⟩, sent := [.selectMode mode], waitFrom := s.now
      secondWait := false } := by
  simp only [State.beginMode, State.claim, State.setPort_port_self, State.setPort_setPort]
  rfl

/-- The checks of SELECT MODE in their order (R37). -/
def State.modeChecks (s : State) (l : Link) (b : List Byte) : List (Bool × Judgement) :=
  let p := portOf (u8 b 0)
  [(decide (b.length ≠ 3) || decide (7 < u8 b 2), .parameterError)] ++ s.portChecks (u8 b 0) (u8 b 1) ++
    [(decide (s.classOf p ≠ some .sensor), .deviceMismatch),
      (decide ((((s.port p).device.map (·.modes.length)).getD 0) ≤ u8 b 2), .parameterError),
      (s.heldByOther l p, .heldByOtherLink), ((s.port p).pendingMode.isSome, .busy)]

/-- Settles O12, by the checks of SELECT MODE and the record that it leaves. -/
theorem selectModeTaken : Obligations.SelectModeTaken := by
  intro s l tag n b h p r checks
  have hc : checks = s.modeChecks l b := by
    simp only [checks, State.modeChecks, State.portGuard_eq, State.otherHolds_eq, Bool.decide_or, State.classOf]
    rfl
  have hf : State.selectMode ⟨l, n⟩ b (s.taken l n) =
      (s.taken l n).check ⟨l, n⟩ (s.modeChecks l b) fun x => x.beginMode ⟨l, n⟩ p (u8 b 2) := rfl
  rw [hc]
  refine ⟨fun j hj => congrArg _ (State.serve_refused h hf hj), fun hj => congrArg Host.Outcome.next ?_⟩
  rw [State.serve_waits h, hf, State.check_none hj, State.beginMode_eq]
  rfl

end Sys2Proof.Machine

/-! SUPPORT. The ends of commands as the claims spell them: the MOTION DONE notices of a port's commands or of its pair's,
and the channels that a release, a halt or a departure leaves (R43, R49, R50, R52, R57 to R59). -/

namespace Sys2Proof.Machine

section Ends
variable {s t : State} {p : Port} {k : Nat} {q : Pair}

/-! ### Notices (R43, R49) -/

/-- The body of MOTION DONE for a command of port `p` that ends. -/
def State.doneBody (s : State) (p : Port) (c : Command) (o : EndOutcome) (wasActive : Bool) : NoticeBody :=
  let err := fun (x : Port) (f : Bool) => if wasActive then s.finalError x c f else 0
  match c.pair.bind s.pair with
  | none => .motionDone p c.pair c.number o (s.degrees p) (err p false) none
  | some q => .motionDone q.first c.pair c.number o (s.degrees q.first) (err q.first (decide (q.first ≠ leadPort c q)))
      (some (s.degrees q.second, err q.second (decide (q.second ≠ leadPort c q))))

theorem State.motionDone_eq (s : State) (p : Port) (c : Command) (o : EndOutcome) (a : Bool) :
    s.motionDone p c o a = s.notify c.link (s.doneBody p c o a) := by
  unfold State.motionDone State.doneBody
  dsimp only
  cases c.pair.bind s.pair <;> rfl

/-- What a command's end reads stands when notices are handed over. -/
theorem State.LinksOnly.doneBody (h : s.LinksOnly t) (p : Port) (c : Command) (o : EndOutcome) (a : Bool) :
    t.doneBody p c o a = s.doneBody p c o a := by
  rw [h]
  rfl

theorem State.notifyAll_append (s : State) (xs ys : List (Link × NoticeBody)) :
    s.notifyAll (xs ++ ys) = (s.notifyAll xs).notifyAll ys := by
  simp [State.notifyAll]

theorem State.LinksOnly.foldl_motionDone (h : s.LinksOnly t) (p : Port) (cs : List Command) (o : EndOutcome) :
    cs.foldl (fun u c => u.motionDone p c o false) t = t.notifyAll (cs.map fun c => (c.link, s.doneBody p c o false)) := by
  induction cs generalizing t with
  | nil => rfl
  | cons c rest ih =>
    rw [List.foldl_cons, ih (h.motionDone p c o false), State.motionDone_eq, h.doneBody]
    rfl

/-- The notices of all commands of a channel, the active one's first. -/
theorem State.endNotices_eq (s : State) (p : Port) (m : Motor) (o : EndOutcome) :
    s.endNotices p m o = s.notifyAll (m.active.toList.map (fun c => (c.link, s.doneBody p c o true)) ++
      m.waiting.map fun c => (c.link, s.doneBody p c o false)) := by
  unfold State.endNotices
  rw [State.notifyAll_append]
  cases m.active with
  | none => exact (State.LinksOnly.refl s).foldl_motionDone p _ o
  | some c =>
    refine (((State.LinksOnly.refl s).motionDone p c o true).foldl_motionDone p _ o).trans ?_
    rw [State.motionDone_eq]
    rfl

/-! ### A port outside any pair -/

theorem State.doneBody_single (p : Port) {c : Command} (hc : c.pair = none) (o : EndOutcome) (a : Bool) :
    (c.link, s.doneBody p c o a) = s.doneNotice p o c (if a then (s.motor p).errorAtEnd c else 0) := by
  have he : s.finalError p c false = (s.motor p).errorAtEnd c := by
    unfold State.finalError Motor.errorAtEnd
    cases c.kind <;> rfl
  simp only [State.doneBody, hc, Option.bind_none, he]
  rfl

theorem State.Unpaired.endNotices (h : s.Unpaired p) (o : EndOutcome) :
    s.endNotices p (s.motor p) o = s.notifyAll (s.endings p o) := by
  obtain ⟨_, ha, hw⟩ := h
  rw [State.endNotices_eq]
  refine congrArg s.notifyAll (congrArg₂ (· ++ ·) (List.map_congr_left fun c hc => ?_) (List.map_congr_left fun c hc => ?_))
  · exact State.doneBody_single p (ha c (by simpa using hc)) o true
  · exact State.doneBody_single p (hw c hc) o false

/-! ### The ports of a pair -/

/-- A pair's first port leads on a tie (R76). -/
theorem Pair.first_follows (c : Command) (q : Pair) (hn : q.first ≠ q.second) :
    q.first ≠ leadPort c q ↔ ¬ c.speedB.natAbs ≤ c.speed.natAbs := by
  unfold leadPort
  by_cases h : c.speedB.natAbs ≤ c.speed.natAbs <;> simp [h, hn]

theorem Pair.second_follows (c : Command) (q : Pair) (hn : q.first ≠ q.second) :
    q.second ≠ leadPort c q ↔ ¬ c.speed.natAbs < c.speedB.natAbs := by
  unfold leadPort
  by_cases h : c.speedB.natAbs ≤ c.speed.natAbs
  · simp [h, Ne.symm hn, Nat.not_lt.mpr h]
  · simp [h, Nat.not_le.mp h]

theorem State.finalError_pair (s : State) (x : Port) (c : Command) {follower : Prop} [Decidable follower] {leads : Prop}
    [Decidable leads] (h : follower ↔ ¬ leads) :
    s.finalError x c (decide follower) = (s.motor x).pairErrorAtEnd c leads := by
  unfold State.finalError Motor.pairErrorAtEnd Motor.errorAtEnd
  cases hk : c.kind <;> simp [h, towardZero]

theorem State.Bound.doneBody (h : s.Bound k q) {c : Command} (hc : c.pair = some k) (o : EndOutcome) (a : Bool) (p : Port) :
    (c.link, s.doneBody p c o a) = if a then s.pairEnd k q o c else s.pairNotice k q o c 0 0 := by
  have h1 := s.finalError_pair q.first c (Pair.first_follows c q h.ports)
  have h2 := s.finalError_pair q.second c (Pair.second_follows c q h.ports)
  simp only [State.doneBody, hc, Option.bind_some, h.entry, h1, h2]
  cases a <;> rfl

theorem State.Bound.endNotices (h : s.Bound k q) (o : EndOutcome) :
    s.endNotices q.first (s.motor q.first) o = s.notifyAll (s.pairEndings k q o) := by
  rw [State.endNotices_eq]
  refine congrArg s.notifyAll (congrArg₂ (· ++ ·) (List.map_congr_left fun c hc => ?_) (List.map_congr_left fun c hc => ?_))
  · exact h.doneBody (h.commands c (List.mem_append_left _ hc)) o true q.first
  · exact h.doneBody (h.commands c (List.mem_append_right _ hc)) o false q.first

/-! ### States that differ in channels, pairs and links alone -/

/-- Channels, pairs and Link Units say what an act of the Motion Unit leaves. -/
theorem State.MotionOnly.ext {u : State} (ht : s.MotionOnly t) (hu : s.MotionOnly u) (hm : ∀ x, t.motor x = u.motor x)
    (hp : t.pairs = u.pairs) (hl : t.links = u.links) : t = u := by
  have hmot : t.motors = u.motors := PerPort.ext_get hm
  rw [ht, hu, hmot, hp, hl]

theorem State.LinksOnly.notifyAll (h : s.LinksOnly t) (xs : List (Link × NoticeBody)) : s.LinksOnly (t.notifyAll xs) :=
  State.LinksOnly.foldl h xs fun _ x hu => hu.notify x.1 x.2

theorem State.endAll_links (s : State) (p : Port) (o : EndOutcome) :
    (s.endAll p o).links = (s.endNotices p (s.motor p) o).links := by
  rw [State.endAll_eq]
  rfl

/-- A change of channels after notices. -/
theorem State.notifyAll_motor (s : State) (xs : List (Link × NoticeBody)) (x : Port) :
    (s.notifyAll xs).motor x = s.motor x := ((State.LinksOnly.refl s).notifyAll xs).motor x

/-! ### A release, a halt and a departure outside any pair -/

/-- The channel of a port outside any pair after its commands have ended with outcome `o`. -/
theorem State.dropMotor_alone (h : s.Unpaired p) (o : EndOutcome) :
    s.dropMotor p o = (s.notifyAll (s.endings p o)).setMotor p ((s.motor p).ended .coast 0) := by
  have hm := (State.dropMotor_unpaired h.1 o).1
  have hr : (s.motor p).released = (s.motor p).ended .coast 0 := by
    unfold Motor.released
    rw [← h.1]
    rfl
  refine State.MotionOnly.ext (.dropMotor s p o)
    (((State.LinksOnly.refl s).notifyAll _).motion.setMotor _ _) (fun x => ?_) ?_ ?_
  · rw [hm, State.setMotor_motor, State.notifyAll_motor, hr]
  · unfold State.dropMotor
    rw [State.queuePort_unpaired h.1, State.haltPorts_unpaired h.1, State.unpair_none]
    · simp [((State.LinksOnly.refl s).notifyAll _).pairs]
    · rw [State.endEnter_motor, if_pos rfl, Motor.ended_pair, h.1]
  · unfold State.dropMotor
    rw [State.queuePort_unpaired h.1, State.unpair_links, State.enterAll_links, State.endAll_links, h.endNotices]
    rfl

theorem State.departMotor_alone (h : s.Unpaired p) :
    s.departMotor p = (s.notifyAll (s.endings p .removed)).setMotor p (s.motor p).departed := by
  rw [State.departMotor_unpaired h.1, State.endAll_eq, h.endNotices]
  simp [State.setMotor]

/-! ### A release, a halt and a departure in a pair -/

theorem State.pairFreed_motor (s : State) (q : Pair) (k : Nat) (x : Port) :
    (s.pairFreed k q).motor x = if x = q.first ∨ x = q.second then (s.motor x).released else s.motor x := by
  simp only [State.pairFreed, State.setPair_motor, State.setMotor_motor]
  by_cases h2 : x = q.second
  · rw [if_pos h2, if_pos (.inr h2), h2]
    rfl
  · by_cases h1 : x = q.first
    · rw [if_neg h2, if_pos h1, if_pos (.inl h1), h1]
      rfl
    · rw [if_neg h2, if_neg h1, if_neg (not_or.mpr ⟨h1, h2⟩)]

theorem State.MotionOnly.pairFreed (h : s.MotionOnly t) (k : Nat) (q : Pair) : s.MotionOnly (t.pairFreed k q) :=
  ((h.setMotor _ _).setMotor _ _).trans rfl

/-- The pair table when a port of pair `k` lets go of it. -/
theorem State.unpair_pairs (hp : (s.motor p).pair = some k) (hk : s.pair k = some q) :
    (s.unpair p).pairs = s.pairs.set none k none := by
  rw [State.unpair_bound hp]
  simp only [State.freePair, hk]
  rfl

theorem State.Bound.pairOf (h : s.Bound k q) (hp : p = q.first ∨ p = q.second) : (s.motor p).pair = some k := by
  rcases hp with rfl | rfl
  · exact h.pair.1
  · exact h.pair.2

theorem State.Bound.dropMotor (h : s.Bound k q) (hp : p = q.first ∨ p = q.second) (o : EndOutcome) :
    s.dropMotor p o = (s.notifyAll (s.pairEndings k q o)).pairFreed k q := by
  have hl := (State.LinksOnly.refl s).notifyAll (s.pairEndings k q o)
  refine State.MotionOnly.ext (.dropMotor s p o) (hl.motion.pairFreed k q) (fun x => ?_) ?_ ?_
  · rw [(State.dropMotor_bound h hp o).1, State.pairFreed_motor, State.notifyAll_motor]
  · unfold State.dropMotor
    rw [State.queuePort_bound (h.pairOf hp) h.entry, State.haltPorts_bound (h.pairOf hp) h.entry,
      State.unpair_pairs (k := k) (q := q)]
    · show _ = (State.notifyAll s _).pairs.set none k none
      rw [hl.pairs]
      simp
    · rw [State.endEnter_motors s h.ports h.second.2 h.second.1, if_pos hp, Motor.ended_pair, h.pairOf hp]
    · exact (State.pair_congr (by simp) k).trans h.entry
  · unfold State.dropMotor
    rw [State.queuePort_bound (h.pairOf hp) h.entry, State.unpair_links, State.enterAll_links, State.endAll_links,
      h.endNotices]
    rfl

theorem State.Bound.haltMotor (h : s.Bound k q) (hp : p = q.first ∨ p = q.second) (e : EndAction) :
    s.haltMotor p e = (s.notifyAll (s.pairEndings k q .halted)).pairStopped q e := by
  have hl := (State.LinksOnly.refl s).notifyAll (s.pairEndings k q .halted)
  unfold State.haltMotor
  rw [State.queuePort_bound (h.pairOf hp) h.entry, State.haltPorts_bound (h.pairOf hp) h.entry]
  refine State.MotionOnly.ext (.endEnter s _ _ _ _) ((hl.motion.setMotor _ _).setMotor _ _) (fun x => ?_) ?_ ?_
  · rw [State.endEnter_motors s h.ports h.second.2 h.second.1]
    simp only [State.pairStopped, State.setMotor_motor, State.notifyAll_motor]
    by_cases h2 : x = q.second
    · rw [if_pos (.inr h2), if_pos h2, h2]
    · by_cases h1 : x = q.first
      · rw [if_pos (.inl h1), if_neg h2, if_pos h1, h1]
      · rw [if_neg (not_or.mpr ⟨h1, h2⟩), if_neg h2, if_neg h1]
  · rw [State.enterAll_pairs, State.endAll_pairs]
    exact hl.pairs.symm
  · rw [State.enterAll_links, State.endAll_links, h.endNotices]
    rfl

theorem Motor.vacated_pair (m : Motor) : m.vacated.pair = m.pair := rfl

theorem State.endEnter_pair (s : State) (p : Port) (o : EndOutcome) {ps : List Port} (hn : ps.Nodup) (e : EndAction)
    (x : Port) : (((s.endAll p o).enterAll ps e).motor x).pair = (s.motor x).pair := by
  have hp : ((s.endAll p o).motor x).pair = (s.motor x).pair := by
    rw [State.endAll_motor]
    split
    · rename_i hx
      rw [hx]
    · rfl
  rw [State.enterAll_motor _ hn]
  split
  · rw [Motor.enter_pair, hp]
  · exact hp

theorem State.Bound.departMotor (h : s.Bound k q) (hp : p = q.first ∨ p = q.second) :
    s.departMotor p = ((s.notifyAll (s.pairEndings k q .removed)).pairFreed k q).setMotor p (s.motor p).departed := by
  have hl := (State.LinksOnly.refl s).notifyAll (s.pairEndings k q .removed)
  refine State.MotionOnly.ext (.departMotor s p) ((hl.motion.pairFreed k q).setMotor _ _) (fun x => ?_) ?_ ?_
  · rw [(State.departMotor_bound h hp).1, State.setMotor_motor, State.pairFreed_motor, State.notifyAll_motor]
  · unfold State.departMotor
    dsimp only
    rw [State.queuePort_bound (h.pairOf hp) h.entry, State.unpair_pairs (k := k) (q := q)]
    · show _ = (State.notifyAll s _).pairs.set none k none
      rw [hl.pairs]
      simp
    · rw [State.setMotor_motor_self, Motor.vacated_pair, State.haltPorts_bound (h.pairOf hp) h.entry,
        State.endEnter_pair _ _ _ ((by simpa using h.ports : [q.first, q.second].Nodup).filter _), h.pairOf hp]
    · exact (State.pair_congr (by simp) k).trans h.entry
  · unfold State.departMotor
    rw [State.queuePort_bound (h.pairOf hp) h.entry, State.unpair_links]
    simp only [State.setMotor_links, State.enterAll_links, State.endAll_links]
    rw [h.endNotices]
    rfl

end Ends

end Sys2Proof.Machine

/-! PROOF of O11: CLAIM PORT and RELEASE PORT (R33, R34, R36, R59). -/

namespace Sys2Proof.Machine

/-- The channel of a port field that passes check 2 of R33. -/
theorem chanOf_eq {x : Nat} (h : x ≤ 6) : chanOf x = if x = 6 then .internal else .port (portOf x) := by
  unfold chanOf
  by_cases h6 : x = 6
  · rw [if_neg (by omega), if_pos h6]
  · rw [if_pos (by omega), if_neg h6]

/-- The checks after a port field's own matter only where it names a channel (R33). -/
theorem judge_channel (first : Bool × Judgement) {x : Nat} {cs ds : List (Bool × Judgement)} (h : x ≤ 6 → cs = ds) :
    judge ([first, (decide (6 < x), .portError)] ++ cs) = judge ([first, (decide (6 < x), .portError)] ++ ds) := by
  by_cases hx : x ≤ 6
  · rw [h hx]
  · obtain ⟨f, j⟩ := first
    simp only [List.cons_append, List.nil_append, judge, decide_eq_true (Nat.not_le.mp hx), if_true]

theorem State.holder_eq (s : State) {x : Nat} (h : x ≤ 6) :
    s.holder (chanOf x) = if x = 6 then s.holderI else (s.port (portOf x)).holder := by
  rw [chanOf_eq h]
  by_cases h6 : x = 6 <;> simp [h6, State.holder]

theorem State.setHolder_eq (s : State) {x : Nat} (h : x ≤ 6) (k : Option Link) :
    s.setHolder (chanOf x) k =
      if x = 6 then { s with holderI := k } else s.setPort (portOf x) { s.port (portOf x) with holder := k } := by
  rw [chanOf_eq h]
  by_cases h6 : x = 6 <;> simp [h6, State.setHolder]

/-- A port field that has passed the checks names a channel. -/
theorem field_le_of_judge {first : Bool × Judgement} {x : Nat} {cs : List (Bool × Judgement)}
    (h : judge ([first, (decide (6 < x), .portError)] ++ cs) = none) : x ≤ 6 := by
  have := judge_eq_none.mp h (decide (6 < x), .portError) (by simp)
  simpa using this

section Claims
variable {s : State} {l : Link} {tag : Byte} {n : Nat} {b : List Byte}

/-- The checks that CLAIM PORT and RELEASE PORT share, with those after them (R33, R34, R36). -/
def State.claimChecks (s : State) (l : Link) (b : List Byte) (rest : List (Bool × Judgement)) : List (Bool × Judgement) :=
  [(decide (b.length ≠ 2), .parameterError), (decide (6 < u8 b 0), .portError)] ++ s.chanChecks (u8 b 0) (u8 b 1) ++
    (decide (s.holder (chanOf (u8 b 0)) = some (otherLink l)), .heldByOtherLink) :: rest

/-- The release of an unheld port is refused (R36). -/
def State.unheldCheck (s : State) (b : List Byte) : Bool × Judgement :=
  (decide (s.holder (chanOf (u8 b 0)) = none), .sequenceError)

/-- What a release leaves of a channel, before its holder goes (R36, R59). -/
def State.ended (s : State) (x : Nat) : State :=
  if x = 6 then s else (s.notifyAll (s.endings (portOf x) .released)).setMotor (portOf x)
    ((s.motor (portOf x)).ended .coast 0)

theorem State.claimChecks_taken (s : State) (l k : Link) (n : Nat) (b : List Byte) (rest : List (Bool × Judgement)) :
    (s.taken l n).claimChecks k b rest = s.claimChecks k b rest := by
  unfold State.claimChecks
  cases chanOf (u8 b 0) <;> rfl

theorem State.unheldCheck_taken (s : State) (l : Link) (n : Nat) (b : List Byte) :
    (s.taken l n).unheldCheck b = s.unheldCheck b := by
  unfold State.unheldCheck
  cases chanOf (u8 b 0) <;> rfl

theorem State.claimPort_taken (s : State) (l : Link) (n : Nat) (b : List Byte) :
    State.claimPort ⟨l, n⟩ b (s.taken l n) = (s.taken l n).check ⟨l, n⟩ (s.claimChecks l b [])
      fun t => (t.setHolder (chanOf (u8 b 0)) (some l)).complete ⟨l, n⟩ [] := by
  rw [← s.claimChecks_taken l l n]
  rfl

theorem State.releasePort_taken (s : State) (l : Link) (n : Nat) (b : List Byte) :
    State.releasePort ⟨l, n⟩ b (s.taken l n) = (s.taken l n).check ⟨l, n⟩ (s.claimChecks l b [s.unheldCheck b])
      fun t => (t.releaseChan (chanOf (u8 b 0))).complete ⟨l, n⟩ [] := by
  rw [← s.claimChecks_taken l l n, ← s.unheldCheck_taken l n]
  rfl

theorem exec_claimPort_refused (h : s.Waits l tag .claimPort n b) {j : Judgement} (hj : judge (s.claimChecks l b []) = some j) :
    exec (.claimPort l tag) s = .next (s.answered l tag .claimPort n j []) :=
  congrArg _ (State.serve_refused h (s.claimPort_taken l n b) hj)

theorem exec_claimPort_done (h : s.Waits l tag .claimPort n b) (hj : judge (s.claimChecks l b []) = none) :
    exec (.claimPort l tag) s =
      .next ((s.setHolder (chanOf (u8 b 0)) (some l)).answered l tag .claimPort n .normalCompletion []) := by
  refine congrArg _ (State.serve_done h (s.claimPort_taken l n b) hj (t := s.setHolder (chanOf (u8 b 0)) (some l))
    (h.of_links ?_) ?_)
  · cases chanOf (u8 b 0) <;> rfl
  · cases chanOf (u8 b 0) <;> rfl

theorem exec_releasePort_refused (h : s.Waits l tag .releasePort n b) {j : Judgement}
    (hj : judge (s.claimChecks l b [s.unheldCheck b]) = some j) :
    exec (.releasePort l tag) s = .next (s.answered l tag .releasePort n j []) :=
  congrArg _ (State.serve_refused h (s.releasePort_taken l n b) hj)

/-- A release after the taking of its request releases as before it. -/
theorem State.releaseChan_taken {p : Port} (h : s.Unpaired p) (l : Link) (n : Nat) :
    (s.taken l n).releaseChan (.port p) =
      (((s.notifyAll (s.endings p .released)).setMotor p ((s.motor p).ended .coast 0)).setHolder (.port p) none).taken
        l n := by
  have hd : (s.taken l n).dropMotor p .released = (((s.taken l n).notifyAll (s.endings p .released)).setMotor p
      ((s.motor p).ended .coast 0)) := State.dropMotor_alone (s := s.taken l n) h .released
  unfold State.releaseChan
  simp only [hd, State.taken_notifyAll]
  rfl

theorem State.endedChan_waits {k : ReqCode} (h : s.Waits l tag k n b) (x : Nat) (o : Option Link) :
    ((s.ended x).setHolder (chanOf x) o).Waits l tag k n b := by
  have he : (s.ended x).Waits l tag k n b := by
    unfold State.ended
    split
    · exact h
    · exact (h.notifyAll _).of_links rfl
  refine he.of_links ?_
  cases chanOf x <;> rfl

theorem exec_releasePort_done (h : s.Waits l tag .releasePort n b)
    (hj : judge (s.claimChecks l b [s.unheldCheck b]) = none) (hx : u8 b 0 ≤ 6)
    (hu : u8 b 0 ≤ 5 → s.Unpaired (portOf (u8 b 0))) :
    exec (.releasePort l tag) s =
      .next (((s.ended (u8 b 0)).setHolder (chanOf (u8 b 0)) none).answered l tag .releasePort n .normalCompletion []) := by
  refine congrArg _ (State.serve_done h (s.releasePort_taken l n b) hj (State.endedChan_waits h _ none)
    (congrArg (fun t : State => t.complete ⟨l, n⟩ []) ?_))
  unfold State.ended
  rw [chanOf_eq hx]
  by_cases h6 : u8 b 0 = 6
  · rw [if_pos h6, if_pos h6]
    rfl
  · rw [if_neg h6, if_neg h6]
    exact State.releaseChan_taken (hu (by omega)) l n

/-- The checks of the claim are those of the model. -/
theorem State.claimChecks_judge (s : State) (l : Link) (b : List Byte) {hold : Option Link}
    (hh : hold = if u8 b 0 = 6 then s.holderI else (s.port (portOf (u8 b 0))).holder)
    {rest rest' : List (Bool × Judgement)} (hr : u8 b 0 ≤ 6 → rest = rest') :
    judge ([(decide (b.length ≠ 2), Judgement.parameterError), (decide (6 < u8 b 0), .portError)] ++
      s.chanGuard (u8 b 0) (u8 b 1) ++ [(decide (hold ≠ none ∧ hold ≠ some l), .heldByOtherLink)] ++ rest) =
    judge (s.claimChecks l b rest') := by
  unfold State.claimChecks
  rw [List.append_assoc, List.append_assoc, List.append_assoc]
  refine judge_channel _ fun hx => ?_
  rw [State.chanGuard_eq, State.holder_eq s hx, ← hh, hr hx]
  simp only [other_iff, List.singleton_append]

end Claims

/-- Settles O11, by the checks of both requests and, for a release, by the end of the commands of a port alone. -/
theorem claimAndRelease : Obligations.ClaimAndRelease := by
  intro s l tag n b p holder other setHolder common
  have hclaim : judge common = judge (s.claimChecks l b []) := by
    rw [← s.claimChecks_judge l b rfl fun _ => rfl, List.append_nil]
  have hrelease : judge (common ++ [(decide (holder = none), .sequenceError)]) =
      judge (s.claimChecks l b [s.unheldCheck b]) :=
    s.claimChecks_judge l b rfl fun hx => by
      unfold State.unheldCheck
      rw [State.holder_eq s hx]
  rw [hclaim, hrelease]
  refine ⟨fun h => ⟨fun j hj => exec_claimPort_refused h hj, fun hj => ?_⟩,
    fun h => ⟨fun j hj => exec_releasePort_refused h hj, fun hj hh hu => ?_⟩⟩
  · have hx : u8 b 0 ≤ 6 := field_le_of_judge (hclaim.trans hj)
    rw [exec_claimPort_done h hj, State.setHolder_eq s hx]
  · have hx : u8 b 0 ≤ 6 := field_le_of_judge (hclaim.trans hj)
    have hn : judge (s.claimChecks l b [s.unheldCheck b]) = none := by
      rw [← hrelease]
      exact judge_eq_none.mpr fun c hc => (List.mem_append.mp hc).elim (judge_eq_none.mp (hclaim.trans hj) c)
        fun hc => by simp [List.mem_singleton.mp hc, hh]
    rw [exec_releasePort_done h hn hx hu, State.setHolder_eq _ hx]
    rfl

end Sys2Proof.Machine

/-! SUPPORT. Watches that are DISARMED (R109) and views that restart (R93). -/

namespace Sys2Proof.Machine

/-! ### Watches (R109) -/

section Watches
variable (s : State) (l : Link) (c : Chan) (why : DisarmReason)

theorem State.setWatch_watch (s : State) (l j : Link) (n k : Nat) (w : Option Watch) :
    (s.setWatch l n w).watch j k = if j = l ∧ k = n then w else s.watch j k := by
  simp only [State.setWatch, State.watch, PerLink.get_set]
  by_cases hj : j = l
  · simp only [hj, if_true, true_and, Table.get_set]
  · simp only [hj, if_false, false_and]

/-- A watch after channel `c` has disarmed its own for the reason `why`. -/
def Watch.disarmedOn (w : Watch) (c : Chan) (why : DisarmReason) : Watch :=
  if w.chan = c then { w with state := .disarmed, progress := 0, reason := some why } else w

/-- One slot of a disarming. -/
def State.disarmSlot (n : Nat) : State :=
  match s.watch l n with
  | none => s
  | some w => if w.chan = c then s.setWatch l n (some { w with state := .disarmed, progress := 0, reason := some why }) else s

theorem State.disarm_eq : s.disarm l c why = slots.foldl (fun t n => t.disarmSlot l c why n) s := rfl

theorem State.disarmSlot_watch (n : Nat) (j : Link) (k : Nat) : (s.disarmSlot l c why n).watch j k =
    if j = l ∧ k = n then (s.watch j k).map (fun w => w.disarmedOn c why) else s.watch j k := by
  unfold State.disarmSlot
  by_cases h : j = l ∧ k = n
  · obtain ⟨rfl, rfl⟩ := h
    cases hw : s.watch j k with
    | none => simp [hw]
    | some w =>
      by_cases hc : w.chan = c
      · simp [hc, State.setWatch_watch, Watch.disarmedOn]
      · simp [hc, hw, Watch.disarmedOn]
  · rw [if_neg h]
    cases hw : s.watch l n with
    | none => rfl
    | some w =>
      by_cases hc : w.chan = c
      · simp only [hc, if_true]
        rw [State.setWatch_watch, if_neg h]
      · simp only [hc, if_false]

theorem State.disarmSlot_frame (n : Nat) :
    s.disarmSlot l c why n = { s with watches := (s.disarmSlot l c why n).watches } ∧
      ∀ j, j ≠ l → (s.disarmSlot l c why n).watches.get j = s.watches.get j := by
  unfold State.disarmSlot
  split
  · exact ⟨rfl, fun _ _ => rfl⟩
  · split
    · exact ⟨rfl, fun j hj => PerLink.get_set_ne _ _ hj⟩
    · exact ⟨rfl, fun _ _ => rfl⟩

theorem State.foldl_disarmSlot (ns : List Nat) (hn : ns.Nodup) (s : State) :
    (∀ j k, (ns.foldl (fun t n => t.disarmSlot l c why n) s).watch j k =
      if j = l ∧ k ∈ ns then (s.watch j k).map (fun w => w.disarmedOn c why) else s.watch j k) ∧
    ns.foldl (fun t n => t.disarmSlot l c why n) s =
      { s with watches := (ns.foldl (fun t n => t.disarmSlot l c why n) s).watches } ∧
    ∀ j, j ≠ l → (ns.foldl (fun t n => t.disarmSlot l c why n) s).watches.get j = s.watches.get j := by
  induction ns generalizing s with
  | nil => exact ⟨fun j k => by simp, rfl, fun _ _ => rfl⟩
  | cons n rest ih =>
    obtain ⟨hnew, hrest⟩ := List.nodup_cons.mp hn
    obtain ⟨hw, hf, ho⟩ := ih hrest (s.disarmSlot l c why n)
    obtain ⟨gf, go⟩ := s.disarmSlot_frame l c why n
    rw [List.foldl_cons]
    refine ⟨fun j k => ?_, ?_, fun j hj => (ho j hj).trans (go j hj)⟩
    · rw [hw, State.disarmSlot_watch]
      by_cases hj : j = l <;> by_cases hk : k = n
      · simp [hj, hk, hnew]
      all_goals simp [hj, hk]
    · generalize rest.foldl (fun t n => t.disarmSlot l c why n) (s.disarmSlot l c why n) = t at hf ⊢
      rw [hf, gf]

/-- One link's watches on a channel become DISARMED. -/
theorem State.disarm_watch (j : Link) {k : Nat} (hk : k ≤ 7) : (s.disarm l c why).watch j k =
    if j = l then (s.watch j k).map (fun w => w.disarmedOn c why) else s.watch j k := by
  have hm : k ∈ slots := by unfold slots; simp only [List.mem_cons, List.not_mem_nil, or_false]; omega
  rw [State.disarm_eq, (State.foldl_disarmSlot l c why slots (by decide) s).1 j k]
  simp only [hm, and_true]

theorem State.disarm_frame : s.disarm l c why = { s with watches := (s.disarm l c why).watches } :=
  (State.foldl_disarmSlot l c why slots (by decide) s).2.1

theorem State.disarm_other {j : Link} (h : j ≠ l) : (s.disarm l c why).watches.get j = s.watches.get j :=
  (State.foldl_disarmSlot l c why slots (by decide) s).2.2 j h

theorem State.disarmBoth_watch (j : Link) {k : Nat} (hk : k ≤ 7) :
    (s.disarmBoth c why).watch j k = (s.watch j k).map (fun w => w.disarmedOn c why) := by
  unfold State.disarmBoth
  rw [State.disarm_watch _ _ _ _ _ hk, State.disarm_watch _ _ _ _ _ hk]
  cases j <;> rfl

theorem State.disarmBoth_frame : s.disarmBoth c why = { s with watches := (s.disarmBoth c why).watches } := by
  unfold State.disarmBoth
  rw [State.disarm_frame, State.disarm_frame]

/-- The claims' words for a disarming of a port's watches. -/
theorem State.DisarmedOn.of_watches {t u : State} {p : Port} (h : u.watches = s.watches) (ht : t = u.disarmBoth (.port p) why) :
    s.DisarmedOn t p why := fun j k hk => by
  rw [ht, State.disarmBoth_watch _ _ _ _ hk, State.watch, h]
  rfl

end Watches

/-! ### Views (R93) -/

theorem State.setView_view (s : State) (l j : Link) (c x : Chan) (v : View) :
    (s.setView l c v).view j x = if j = l ∧ x = c then v else s.view j x := by
  simp only [State.setView, State.view, PerLink.get_set]
  by_cases hj : j = l
  · simp only [hj, if_true, true_and, PerChan.get_set]
  · simp only [hj, if_false, false_and]

theorem State.bothViews_view (s : State) (c x : Chan) (f : View → View) (j : Link) :
    (s.bothViews c f).view j x = if x = c then f (s.view j x) else s.view j x := by
  unfold State.bothViews
  simp only [State.setView_view]
  by_cases hx : x = c
  · subst hx
    cases j <;> simp
  · simp [hx]

end Sys2Proof.Machine

/-! SUPPORT. The departure of a port from ACTIVE, alone or bound in a pair, as the claims spell it (R31, R41, R58, R59). -/

namespace Sys2Proof.Machine

section Departure
variable {s t w : State} {p : Port} {bound : Option (Nat × Pair)} {r : PortRec}

/-! ### The port's channel -/

/-- A pair that port `p` is bound in, dissolved; the channels of a port alone stand. -/
def State.unbound (s : State) : Option (Nat × Pair) → State
  | none => s
  | some (k, q) => s.pairFreed k q

theorem State.Binding.congr (h : s.Binding p bound) (hw : s.LinksOnly w) : w.Binding p bound := by
  rw [hw]
  cases bound with
  | none => exact h
  | some b => exact ⟨⟨h.1.entry, h.1.ports, h.1.pair, h.1.second, h.1.commands⟩, h.2⟩

theorem State.LinksOnly.boundEndings (hw : s.LinksOnly w) (p : Port) (o : EndOutcome) (bound : Option (Nat × Pair)) :
    w.boundEndings p o bound = s.boundEndings p o bound := by
  rw [hw]
  cases bound <;> rfl

theorem State.Binding.departMotor (h : s.Binding p bound) : s.departMotor p =
    ((s.notifyAll (s.boundEndings p .removed bound)).unbound bound).setMotor p (s.motor p).departed := by
  cases bound with
  | none => exact State.departMotor_alone h
  | some b => exact h.1.departMotor h.2

theorem State.unbound_motor (s : State) (bound : Option (Nat × Pair)) (x : Port) : (s.unbound bound).motor x =
    match bound with
    | none => s.motor x
    | some (_, q) => if x = q.first ∨ x = q.second then (s.motor x).released else s.motor x := by
  cases bound with
  | none => rfl
  | some b => exact s.pairFreed_motor b.2 b.1 x

theorem State.unbound_pairs (s : State) (bound : Option (Nat × Pair)) : (s.unbound bound).pairs =
    match bound with
    | none => s.pairs
    | some (k, _) => s.pairs.set none k none := by
  cases bound <;> rfl

theorem State.unbound_links (s : State) (bound : Option (Nat × Pair)) : (s.unbound bound).links = s.links := by
  cases bound <;> rfl

/-- The channels, pairs and links that a departure leaves. -/
theorem State.Binding.departed_motion (h : s.Binding p bound) (hw : s.LinksOnly w) :
    (w.departMotor p).motor p = (s.motor p).departed ∧
    (∀ k q, bound = some (k, q) → ∀ y, (y = q.first ∨ y = q.second) → y ≠ p →
      (w.departMotor p).motor y = (s.motor y).released) ∧
    (∀ y, y ≠ p → (∀ k q, bound = some (k, q) → y ≠ q.first ∧ y ≠ q.second) → (w.departMotor p).motor y = s.motor y) ∧
    (w.departMotor p).pairs = (s.unbound bound).pairs ∧
    (w.departMotor p).links = (w.notifyAll (s.boundEndings p .removed bound)).links := by
  have hm : ∀ y, y ≠ p → (w.departMotor p).motor y = (s.unbound bound).motor y := fun y hy => by
    rw [(h.congr hw).departMotor, State.setMotor_motor, if_neg hy, State.unbound_motor, State.unbound_motor,
      State.notifyAll_motor, hw.motor]
  refine ⟨?_, fun k q hb y hq hy => ?_, fun y hy hb => ?_, ?_, ?_⟩
  · rw [(h.congr hw).departMotor, State.setMotor_motor, if_pos rfl, hw.motor]
  · rw [hm y hy, State.unbound_motor, hb]
    exact if_pos hq
  · rw [hm y hy, State.unbound_motor]
    cases bound with
    | none => rfl
    | some b => exact if_neg (not_or.mpr (hb b.1 b.2 rfl))
  · rw [(h.congr hw).departMotor, State.setMotor_pairs, State.unbound_pairs, State.unbound_pairs,
      ((State.LinksOnly.refl w).notifyAll _).pairs, hw.pairs]
  · rw [(h.congr hw).departMotor, State.setMotor_links, State.unbound_links, hw.boundEndings]

/-! ### The record, the views and the watches -/

/-- A record without a device: what a departing port keeps of it is its generation. -/
structure PortRec.Left (old new : PortRec) : Prop where
  holder : new.holder = none
  pending : new.pendingMode = none
  mode : new.mode = none
  interval : new.interval = none
  device : new.device = none
  generation : new.generation = old.generation

/-- A SELECT MODE that waits is answered PORT ERROR (R31). -/
def State.unasked (s : State) (p : Port) : State :=
  match (s.port p).pendingMode with
  | none => s
  | some m => s.refuse m.ticket .portError

theorem State.LinksOnly.unasked (h : s.LinksOnly t) (p : Port) : s.LinksOnly (t.unasked p) := by
  unfold State.unasked
  split
  · exact h
  · exact h.refuse _ _

/-- The records other than the Motion Unit's at a departure. -/
def State.vacate (s : State) (p : Port) (r : PortRec) : State :=
  ((s.setPort p r).sensingDeparture p).disarmBoth (.port p) .departed

theorem State.depart_eq (s : State) (p : Port) (r : PortRec) : s.depart p r = ((s.unasked p).departMotor p).vacate p r := rfl

theorem State.vacate_frame (s : State) (p : Port) (r : PortRec) :
    s.vacate p r = { s.setPort p r with views := (s.vacate p r).views, watches := (s.vacate p r).watches } := by
  have h := State.disarmBoth_frame ((s.setPort p r).sensingDeparture p) (.port p) .departed
  unfold State.vacate
  generalize ((s.setPort p r).sensingDeparture p).disarmBoth (.port p) .departed = t at h ⊢
  rw [h]
  rfl

theorem State.vacate_view (s : State) (p : Port) (r : PortRec) (l : Link) (c : Chan) : (s.vacate p r).view l c =
    if c = .port p then (s.view l c).restart.clearOutput 1 else s.view l c := by
  have hv : (s.vacate p r).view l c = ((s.setPort p r).sensingDeparture p).view l c := by
    unfold State.vacate
    rw [State.disarmBoth_frame]
    simp only [State.view]
  rw [hv]
  exact State.bothViews_view (s.setPort p r) (.port p) c (fun v => v.restart.clearOutput 1) l

/-- A departure from ACTIVE, whatever has been told before it. -/
theorem State.Binding.depart (h : s.Binding p bound) (hr : (s.port p).Left r) (hw : s.LinksOnly w)
    (ht : t = (w.departMotor p).vacate p r) :
    s.Departed t p bound ∧ t.port p = r ∧ t.pins = s.pins ∧
      t.links = (w.notifyAll (s.boundEndings p .removed bound)).links := by
  obtain ⟨hm, hpartner, hother, hpairs, hlinks⟩ := h.departed_motion hw
  have hu : s.MotionOnly (w.departMotor p) := hw.motion.trans (.departMotor w p)
  have hf := (w.departMotor p).vacate_frame p r
  have hv := (w.departMotor p).vacate_view p r
  have hdis : (w.departMotor p).DisarmedOn ((w.departMotor p).vacate p r) p .departed :=
    State.DisarmedOn.of_watches (why := .departed) (s := w.departMotor p)
      (u := ((w.departMotor p).setPort p r).sensingDeparture p) rfl rfl
  rw [← ht] at hf hv hdis
  generalize w.departMotor p = u at hm hpartner hother hpairs hlinks hu hf hv hdis
  have hport : ∀ y, t.port y = if y = p then r else s.port y := fun y => by
    rw [hf, ← hu.port y]
    exact u.setPort_port p y r
  have hp : t.port p = r := by rw [hport, if_pos rfl]
  have hmotor : ∀ y, t.motor y = u.motor y := fun y => by rw [hf]; rfl
  have hpt : t.pairs = (s.unbound bound).pairs := by
    rw [← hpairs, hf]
    rfl
  have huv : ∀ l c, u.view l c = s.view l c := fun l c => by rw [hu]; rfl
  refine ⟨{ holder := hp ▸ hr.holder, pending := hp ▸ hr.pending, mode := hp ▸ hr.mode, interval := hp ▸ hr.interval
            device := hp ▸ hr.device, generation := hp ▸ hr.generation, motor := (hmotor p).trans hm
            partner := fun k q hb y hq hy => (hmotor y).trans (hpartner k q hb y hq hy)
            pairs := ?_, views := fun l => ?_, watches := fun l k hk => ?_
            ports := fun y hy => by rw [hport, if_neg hy]
            motors := fun y hy hb => (hmotor y).trans (hother y hy hb)
            channels := fun l c hc => by rw [hv, if_neg hc, huv], rest := ?_ }, hp, ?_, ?_⟩
  · refine hpt.trans ?_
    cases bound <;> rfl
  · rw [hv, if_pos rfl, huv]
    rfl
  · rw [hdis l k hk, hu]
    rfl
  · rw [hf, hu]
    rfl
  · rw [hf, hu]
    rfl
  · rw [hf]
    exact hlinks

end Departure

end Sys2Proof.Machine

/-! SUPPORT. Changes of a port's state with and without a departure (R19, R20, R30, R31). -/

namespace Sys2Proof.Machine

section Changes
variable {s t u : State} {p : Port} {bound : Option (Nat × Pair)} {r : PortRec}

theorem State.departing_eq (s : State) (p : Port) (bound : Option (Nat × Pair)) (x : NoticeBody) :
    s.departing p bound x = ((s.notifyBoth x).unasked p).notifyAll (s.boundEndings p .removed bound) := by
  unfold State.departing State.unasked
  cases h : (s.port p).pendingMode with
  | none => simp only [State.notifyBoth_port, h]
  | some m => simp only [State.notifyBoth_port, h]

/-- A change of record that leaves ACTIVE is announced and departs (R19, R31). -/
theorem State.changePort_active (ha : (s.port p).state = .active) (hs : r.state ≠ .active) :
    s.changePort p r = (s.notifyBoth (portNotice p r .active)).depart p r := by
  unfold State.changePort
  simp [ha, hs, noticed, Ne.symm hs]

/-- A change of record that is no departure: PORT CHANGED where R19 asks for it, and the record. -/
theorem State.changePort_idle (h : (s.port p).state ≠ .active) :
    s.changePort p r = ((if noticed (s.port p).state r.state then s.notifyBoth (portNotice p r (s.port p).state) else s)).setPort
      p r := by
  unfold State.changePort
  simp [h]

theorem State.Binding.changePort (h : s.Binding p bound) (ha : (s.port p).state = .active) (hs : r.state ≠ .active)
    (hr : (s.port p).Left r) :
    s.Departed (s.changePort p r) p bound ∧ (s.changePort p r).port p = r ∧ (s.changePort p r).pins = s.pins ∧
      (s.changePort p r).links = (s.departing p bound (portNotice p r .active)).links := by
  rw [State.departing_eq]
  have hn : s.LinksOnly (s.notifyBoth (portNotice p r .active)) := ((State.LinksOnly.refl s).notify .pl _).notify .tl _
  exact h.depart hr (hn.unasked p) ((State.changePort_active ha hs).trans (State.depart_eq _ p r))

/-! ### A departure and what follows it -/

theorem State.Departed.pairs_unbound (h : s.Departed t p bound) : t.pairs = (s.unbound bound).pairs :=
  h.pairs.trans (by cases bound <;> rfl)

/-- The pins are no part of a departure. -/
theorem State.Departed.of_pins (h : t.Departed u p bound) (ht : t = { s with pins := t.pins }) : s.Departed u p bound := by
  have hpairs := h.pairs_unbound
  generalize t.pins = x at ht
  subst ht
  exact ⟨h.holder, h.pending, h.mode, h.interval, h.device, h.generation, h.motor, h.partner,
    by cases bound <;> exact hpairs, h.views, h.watches, h.ports,
    h.motors, h.channels, h.rest⟩

/-- A further change of the departed port's record alone. -/
theorem State.Departed.changed (h : s.Departed t p bound) (hr : (t.port p).Left (u.port p))
    (hp : ∀ y, y ≠ p → u.port y = t.port y) (hu : u = { t with links := u.links, ports := u.ports }) :
    s.Departed u p bound where
  holder := hr.holder
  pending := hr.pending
  mode := hr.mode
  interval := hr.interval
  device := hr.device
  generation := hr.generation.trans h.generation
  motor := by rw [← h.motor, hu]; rfl
  partner k q hb y hq hy := by rw [← h.partner k q hb y hq hy, hu]; rfl
  pairs := by
    have hpairs : u.pairs = (s.unbound bound).pairs := by rw [← h.pairs_unbound, hu]
    cases bound <;> exact hpairs
  views l := by rw [← h.views l, hu]; rfl
  watches l k hk := by rw [← h.watches l k hk, hu]; rfl
  ports y hy := (hp y hy).trans (h.ports y hy)
  motors y hy hb := by rw [← h.motors y hy hb, hu]; rfl
  channels l c hc := by rw [← h.channels l c hc, hu]; rfl
  rest := by rw [hu, h.rest]

theorem State.notify_links_congr (hl : t.links = s.links) (hn : t.now = s.now) (k : Link) (x : NoticeBody) :
    (t.notify k x).links = (s.notify k x).links := by
  have hk : t.link k = s.link k := by rw [State.link, hl, State.link]
  rw [State.notify_eq, State.notify_eq, hk, hn]
  show t.links.set k _ = s.links.set k _
  rw [hl]

theorem State.notifyBoth_links_congr (hl : t.links = s.links) (hn : t.now = s.now) (x : NoticeBody) :
    (t.notifyBoth x).links = (s.notifyBoth x).links :=
  State.notify_links_congr (State.notify_links_congr hl hn .pl x) (by simpa using hn) .tl x

theorem State.departing_now (s : State) (p : Port) (x : NoticeBody) : (s.departing p bound x).now = s.now := by
  have h : s.LinksOnly (s.departing p bound x) := by
    rw [State.departing_eq]
    exact ((((State.LinksOnly.refl s).notify .pl x).notify .tl x).unasked p).notifyAll _
  rw [h]
  rfl

theorem State.Departed.now (h : s.Departed t p bound) : t.now = s.now := by
  rw [h.rest]
  rfl

theorem State.LinksOnly.withPort (h : s.LinksOnly t) (p : Port) (r : PortRec) :
    t.setPort p r = { s with links := (t.setPort p r).links, ports := (t.setPort p r).ports } := by
  rw [h]
  rfl

/-! ### The entry to SETTLING (R20, R30) -/

theorem PortRec.toEmpty_left (r : PortRec) : r.Left r.toEmpty := ⟨rfl, rfl, rfl, rfl, rfl, rfl⟩

theorem PortRec.toSettling_left (r : PortRec) (d : Level) (now : Word32) : r.Left (r.toSettling d now) :=
  ⟨rfl, rfl, rfl, rfl, rfl, rfl⟩

theorem PortRec.toFault_left (r : PortRec) (x : FaultReason) : r.Left (r.toFault x) := ⟨rfl, rfl, rfl, rfl, rfl, rfl⟩

/-- A port in SETTLING enters FAULT: PORT CHANGED, and the record alone. -/
theorem State.faultPort_idle (x : FaultReason) (h : (s.port p).state ≠ .active) (hf : (s.port p).state ≠ .fault) :
    s.faultPort p x = (s.notifyBoth (portNotice p ((s.port p).toFault x) (s.port p).state)).setPort p
      ((s.port p).toFault x) := by
  have hn : noticed (s.port p).state ((s.port p).toFault x).state = true := by
    simp [noticed, PortRec.toFault, hf]
  unfold State.faultPort
  rw [State.changePort_idle h, hn]
  rfl

/-- An ACTIVE port goes to SETTLING, and on to FAULT while its fault input is asserted (R20, R30, R31). -/
theorem State.Binding.settlePort (h : s.Binding p bound) (ha : (s.port p).state = .active) (d : Level) :
    let settled := (s.port p).toSettling d s.now
    s.Departed (s.settlePort p d) p bound ∧ (s.settlePort p d).pins = s.pins ∧
    if s.pins.fault.get p then
      (s.settlePort p d).port p = settled.toFault .overload ∧
      (s.settlePort p d).links = ((s.departing p bound (portNotice p settled .active)).notifyBoth
        (portNotice p (settled.toFault .overload) .settling)).links
    else (s.settlePort p d).port p = settled ∧
      (s.settlePort p d).links = (s.departing p bound (portNotice p settled .active)).links := by
  intro settled
  obtain ⟨hd, hp, hpin, hl⟩ := h.changePort ha (r := settled) (by simp [settled, PortRec.toSettling])
    (PortRec.toSettling_left _ _ _)
  have hs : s.settlePort p d = if s.pins.fault.get p then (s.changePort p settled).faultPort p .overload
    else s.changePort p settled := rfl
  rw [hs]
  by_cases hf : s.pins.fault.get p = true
  · simp only [hf, if_true]
    generalize s.changePort p settled = t at hd hp hpin hl
    have hst : (t.port p).state = .settling := by rw [hp]; rfl
    have hF := State.faultPort_idle (s := t) .overload (p := p) (by simp [hst]) (by simp [hst])
    rw [hst, hp] at hF
    rw [hF]
    refine ⟨hd.changed ?_ (fun y hy => ?_) ?_, ?_, ?_, ?_⟩
    · rw [State.setPort_port_self, hp]
      exact PortRec.toFault_left _ _
    · rw [State.setPort_port, if_neg hy, State.notifyBoth_port]
    · exact State.LinksOnly.withPort (((State.LinksOnly.refl t).notify .pl _).notify .tl _) p _
    · simpa using hpin
    · rw [State.setPort_port_self]
    · exact State.notifyBoth_links_congr hl (hd.now.trans (s.departing_now p _).symm) _
  · simp only [hf, Bool.false_eq_true, if_false]
    exact ⟨hd, hpin, hp, hl⟩

end Changes

end Sys2Proof.Machine

/-! SUPPORT. Pins and departures: what DETECT CHANGE and DRIVER FAULT do to an ACTIVE port (R20, R21, R30, R31). -/

namespace Sys2Proof.Machine

section Pins
variable {s t : State} {p : Port} {bound : Option (Nat × Pair)} {r : PortRec} {x : Pins}

theorem State.setPins_notify (s : State) (x : Pins) (k : Link) (y : NoticeBody) :
    (s.setPins x).notify k y = (s.notify k y).setPins x := by
  rw [State.notify_eq, State.notify_eq]
  rfl

theorem State.setPins_notifyBoth (s : State) (x : Pins) (y : NoticeBody) :
    (s.setPins x).notifyBoth y = (s.notifyBoth y).setPins x := by
  simp only [State.notifyBoth, State.setPins_notify]

theorem State.setPins_notifyAll (s : State) (x : Pins) (ys : List (Link × NoticeBody)) :
    (s.setPins x).notifyAll ys = (s.notifyAll ys).setPins x := by
  unfold State.notifyAll
  induction ys generalizing s with
  | nil => rfl
  | cons y rest ih => simp only [List.foldl_cons, State.setPins_notify, ih]

theorem State.setPins_unasked (s : State) (x : Pins) (p : Port) : (s.setPins x).unasked p = (s.unasked p).setPins x := by
  unfold State.unasked
  show (match (s.port p).pendingMode with | none => s.setPins x | some m => (s.setPins x).refuse m.ticket .portError) = _
  cases (s.port p).pendingMode <;> rfl

theorem State.setPins_boundEndings (s : State) (x : Pins) (p : Port) (o : EndOutcome) (bound : Option (Nat × Pair)) :
    (s.setPins x).boundEndings p o bound = s.boundEndings p o bound := by
  cases bound <;> rfl

theorem State.setPins_departing (s : State) (x : Pins) (p : Port) (bound : Option (Nat × Pair)) (y : NoticeBody) :
    (s.setPins x).departing p bound y = (s.departing p bound y).setPins x := by
  simp only [State.departing_eq, State.setPins_notifyBoth, State.setPins_unasked, State.setPins_notifyAll,
    State.setPins_boundEndings]

theorem State.Binding.setPins (h : s.Binding p bound) (x : Pins) : (s.setPins x).Binding p bound := by
  cases bound with
  | none => exact h
  | some b => exact ⟨⟨h.1.entry, h.1.ports, h.1.pair, h.1.second, h.1.commands⟩, h.2⟩

/-- A departure by a change of the pins. -/
theorem State.Binding.changePort_pins (h : s.Binding p bound) (x : Pins) (ha : (s.port p).state = .active)
    (hs : r.state ≠ .active) (hr : (s.port p).Left r) (ht : t = (s.setPins x).changePort p r) :
    s.Departed t p bound ∧ t.port p = r ∧ t.pins = x ∧
      t.links = (s.departing p bound (portNotice p r .active)).links := by
  obtain ⟨hd, hp, hx, hl⟩ := (h.setPins x).changePort ha hs hr
  rw [State.setPins_departing] at hl
  rw [ht]
  exact ⟨hd.of_pins rfl, hp, hx, hl⟩

theorem State.Binding.settlePort_pins (h : s.Binding p bound) (x : Pins) (ha : (s.port p).state = .active) (d : Level)
    (ht : t = (s.setPins x).settlePort p d) :
    let settled := (s.port p).toSettling d s.now
    s.Departed t p bound ∧ t.pins = x ∧
    if x.fault.get p then t.port p = settled.toFault .overload ∧
      t.links = ((s.departing p bound (portNotice p settled .active)).notifyBoth
        (portNotice p (settled.toFault .overload) .settling)).links
    else t.port p = settled ∧ t.links = (s.departing p bound (portNotice p settled .active)).links := by
  intro settled
  obtain ⟨hd, hx, hrest⟩ := (h.setPins x).settlePort ha d
  rw [State.setPins_departing, State.setPins_notifyBoth] at hrest
  rw [ht]
  exact ⟨hd.of_pins rfl, hx, hrest⟩

/-! ### DRIVER FAULT (R30) -/

/-- The state with the fault input of a port read. -/
def State.faultSeen (s : State) (p : Port) (on : Bool) : State :=
  s.setPins { s.pins with fault := s.pins.fault.set p on }

theorem exec_driverFault_taken (hh : s.hub.held = false) (h1 : (s.port p).state ≠ .empty) (h2 : (s.port p).state ≠ .fault) :
    exec (.driverFault p true) s = .next ((s.faultSeen p true).faultPort p .overload) :=
  congrArg Host.Outcome.next (if_pos ⟨rfl, by rw [hh]; rfl, h1, h2⟩)

theorem State.Binding.driverFault (h : s.Binding p bound) (hh : s.hub.held = false) (ha : (s.port p).state = .active) :
    ∃ t : State, exec (.driverFault p true) s = .next t ∧ s.Departed t p bound ∧
      t.port p = (s.port p).toFault .overload ∧ t.pins = (s.faultSeen p true).pins ∧
      t.links = (s.departing p bound (portNotice p ((s.port p).toFault .overload) .active)).links :=
  ⟨_, exec_driverFault_taken hh (by simp [ha]) (by simp [ha]),
    h.changePort_pins _ ha (by simp [PortRec.toFault]) (PortRec.toFault_left _ _) rfl⟩

end Pins

end Sys2Proof.Machine

/-! PROOF of O25: the ends of a pair by RELEASE PORT, HALT and a departure (R31, R36, R52, R57 to R59). -/

namespace Sys2Proof.Machine

section PairEnds
variable {s : State} {l : Link} {tag : Byte} {n k : Nat} {q : Pair} {b : List Byte} {p : Port}

theorem State.Bound.taken (h : s.Bound k q) (l : Link) (n : Nat) : (s.taken l n).Bound k q :=
  ⟨h.entry, h.ports, h.pair, h.second, h.commands⟩

/-- A port field that names an ACTIVE port passes the checks of R33. -/
theorem State.portChecks_pass (hx : u8 b 0 ≤ 5) (ha : (s.port (portOf (u8 b 0))).state = .active)
    (hg : u8 b 1 = 0 ∨ u8 b 1 = (s.port (portOf (u8 b 0))).generation) : judge (s.portChecks (u8 b 0) (u8 b 1)) = none := by
  simp only [State.portChecks, State.active, ha, judge_eq_none, List.mem_cons, List.not_mem_nil, or_false,
    forall_eq_or_imp, forall_eq, decide_eq_false_iff_not, Nat.not_lt.mpr hx, beq_self_eq_true, Bool.not_true, true_and,
    Bool.and_eq_false_iff, not_not, not_false_iff, hg]

theorem judge_append {cs ds : List (Bool × Judgement)} (h1 : judge cs = none) (h2 : judge ds = none) :
    judge (cs ++ ds) = none :=
  judge_eq_none.mpr fun c hc => (List.mem_append.mp hc).elim (judge_eq_none.mp h1 c) (judge_eq_none.mp h2 c)

/-- The link that holds a port holds it still after a claim (R34, R35). -/
theorem State.claim_held (h : (s.port p).holder = some l) : s.claim l p = s := by
  unfold State.claim
  rw [← h]
  show ({ s with ports := s.ports.set p (s.ports.get p) } : State) = s
  rw [PerPort.set_get]

/-! ### RELEASE PORT (R36) -/

theorem State.releaseChan_pair (h : s.Bound k q) (hp : p = q.first ∨ p = q.second) (l : Link) (n : Nat) :
    (s.taken l n).releaseChan (.port p) =
      (((s.notifyAll (s.pairEndings k q .released)).pairFreed k q).setPort p { s.port p with holder := none }).taken
        l n := by
  have hd : (s.taken l n).dropMotor p .released = ((s.taken l n).notifyAll (s.pairEndings k q .released)).pairFreed k q :=
    (h.taken l n).dropMotor hp .released
  have hport : ((s.notifyAll (s.pairEndings k q .released)).pairFreed k q).port p = s.port p :=
    ((((State.LinksOnly.refl s).notifyAll _).motion).pairFreed k q).port p
  rw [← hport]
  unfold State.releaseChan
  simp only [hd, State.taken_notifyAll]
  rfl

theorem exec_releasePort_pair (h : s.Bound k q) (hp : portOf (u8 b 0) = q.first ∨ portOf (u8 b 0) = q.second)
    (hx : u8 b 0 ≤ 5) (ha : (s.port (portOf (u8 b 0))).state = .active)
    (hg : u8 b 1 = 0 ∨ u8 b 1 = (s.port (portOf (u8 b 0))).generation)
    (hl : (s.port (portOf (u8 b 0))).holder = some l) (hw : s.Waits l tag .releasePort n b) (hb : b.length = 2) :
    exec (.releasePort l tag) s = .next ((((s.notifyAll (s.pairEndings k q .released)).pairFreed k q).setPort
      (portOf (u8 b 0)) { s.port (portOf (u8 b 0)) with holder := none }).answered l tag .releasePort n
        .normalCompletion []) := by
  have hh : s.holder (chanOf (u8 b 0)) = some l := by
    rw [State.holder_eq s (by omega), if_neg (by omega), hl]
  have hc : judge (s.claimChecks l b [s.unheldCheck b]) = none := by
    unfold State.claimChecks State.unheldCheck
    rw [State.chanChecks, if_neg (by omega), hh]
    refine judge_append (judge_append ?_ (State.portChecks_pass hx ha hg)) ?_
    · simp [judge, hb, Nat.not_lt.mpr (Nat.le_succ_of_le hx)]
    · cases l <;> rfl
  refine congrArg _ (State.serve_done hw (s.releasePort_taken l n b) hc
    (t := ((s.notifyAll (s.pairEndings k q .released)).pairFreed k q).setPort (portOf (u8 b 0))
      { s.port (portOf (u8 b 0)) with holder := none }) ((hw.notifyAll _).of_links rfl)
    (congrArg (fun t : State => t.complete ⟨l, n⟩ []) ?_))
  rw [chanOf_eq (by omega), if_neg (by omega)]
  exact State.releaseChan_pair h hp l n

/-! ### HALT (R52) -/

/-- The checks of HALT (R52). -/
def State.haltChecks (s : State) (l : Link) (b : List Byte) : List (Bool × Judgement) :=
  let p := portOf (u8 b 0)
  let holds := decide (u8 b 2 = 2)
  [(decide (b.length ≠ 3) || decide (2 < u8 b 2), .parameterError)] ++ s.portChecks (u8 b 0) (u8 b 1) ++
    [(decide (s.classOf p = some .sensor), .deviceMismatch), (s.plain p && holds, .deviceMismatch),
      (s.heldByOther l p, .heldByOtherLink), (s.cutoff && holds, .supplyLow)]

/-- The commands of a pair, as HALT counts them. -/
theorem State.Bound.haltCount (h : s.Bound k q) (hp : p = q.first ∨ p = q.second) : s.haltCount p =
    (if (s.motor q.first).active = none then 0 else 1) + (s.motor q.first).waiting.length := by
  unfold State.haltCount Motor.commandCount
  rw [State.queuePort_bound (h.pairOf hp) h.entry]
  cases (s.motor q.first).active <;> rfl

theorem exec_halt_pair (h : s.Bound k q) (hp : portOf (u8 b 0) = q.first ∨ portOf (u8 b 0) = q.second)
    (hx : u8 b 0 ≤ 5) (ha : (s.port (portOf (u8 b 0))).state = .active)
    (hg : u8 b 1 = 0 ∨ u8 b 1 = (s.port (portOf (u8 b 0))).generation)
    (hl : (s.port (portOf (u8 b 0))).holder = some l) (hw : s.Waits l tag .halt n b) (hb : b.length = 3) (h2 : u8 b 2 ≤ 2)
    (hk : (s.port (portOf (u8 b 0))).device.map (fun d => d.kind) = some .motor)
    (hs : s.supply.state ≠ some .cutoff ∨ u8 b 2 ≠ 2) :
    exec (.halt l tag) s = .next (((s.notifyAll (s.pairEndings k q .halted)).pairStopped q (endActionOf (u8 b 2))).answered
      l tag .halt n .normalCompletion
      (e8 ((if (s.motor q.first).active = none then 0 else 1) + (s.motor q.first).waiting.length))) := by
  have hclass : s.classOf (portOf (u8 b 0)) = some .motor := hk
  have hc : judge (s.haltChecks l b) = none := by
    unfold State.haltChecks
    refine judge_append (judge_append ?_ (State.portChecks_pass hx ha hg)) ?_
    · simp [judge, hb, Nat.not_lt.mpr h2]
    · have hother : s.heldByOther l (portOf (u8 b 0)) = false := by
        unfold State.heldByOther
        rw [hl]
        cases l <;> rfl
      have hcut : (s.cutoff && decide (u8 b 2 = 2)) = false := by
        rcases hs with hs | hs <;> simp [State.cutoff, hs]
      simp [judge, hclass, State.plain, hother, hcut]
  have hf : State.halt ⟨l, n⟩ b (s.taken l n) = (s.taken l n).check ⟨l, n⟩ (s.haltChecks l b) fun t =>
    ((t.claim l (portOf (u8 b 0))).haltMotor (portOf (u8 b 0)) (endActionOf (u8 b 2))).complete ⟨l, n⟩
      (e8 (t.haltCount (portOf (u8 b 0)))) := rfl
  refine congrArg _ (State.serve_done hw hf hc
    (t := (s.notifyAll (s.pairEndings k q .halted)).pairStopped q (endActionOf (u8 b 2)))
    ((hw.notifyAll _).of_links rfl) ?_)
  have hclaim : (s.taken l n).claim l (portOf (u8 b 0)) = s.taken l n := State.claim_held hl
  have hhalt : (s.taken l n).haltMotor (portOf (u8 b 0)) (endActionOf (u8 b 2)) =
      ((s.taken l n).notifyAll (s.pairEndings k q .halted)).pairStopped q (endActionOf (u8 b 2)) :=
    (h.taken l n).haltMotor hp _
  have hcount : (s.taken l n).haltCount (portOf (u8 b 0)) = _ := (h.taken l n).haltCount hp
  simp only [hclaim, hhalt, hcount, State.taken_notifyAll]
  rfl

end PairEnds

/-- Settles O25, by the commands of the pair, which stand with its first port. -/
theorem pairDissolved : Obligations.PairDissolved := by
  intro s k q h
  refine ⟨?_, fun p hp => ⟨h.departMotor hp, fun hh ha => ?_⟩⟩
  · intro l tag n b p hp hx ha hg hl
    exact ⟨fun hw hb => exec_releasePort_pair h hp hx ha hg hl hw hb,
      fun hw hb h2 hk hs => exec_halt_pair h hp hx ha hg hl hw hb h2 hk hs⟩
  obtain ⟨t, he, hd, ht, -, -⟩ := State.Binding.driverFault (bound := some (k, q)) ⟨h, hp⟩ hh ha
  refine ⟨t, he, hd, by rw [ht]; rfl, by rw [ht]; rfl, ?_, fun y hy => ?_⟩
  · rw [State.pair, hd.pairs, Table.get_set, if_pos rfl]
  · by_cases hyp : y = p
    · rw [hyp, hd.motor]
      exact ⟨rfl, rfl, rfl, rfl, rfl⟩
    · rw [hd.partner k q rfl y hy hyp]
      exact ⟨rfl, rfl, rfl, rfl, rfl⟩

end Sys2Proof.Machine

/-! SUPPORT. Changes of a port's state that are no departure (R19 to R21, R30). -/

namespace Sys2Proof.Machine

section Idle
variable {s : State} {p : Port} {r : PortRec}

theorem State.setPort_notify (s : State) (p : Port) (r : PortRec) (k : Link) (y : NoticeBody) :
    (s.setPort p r).notify k y = (s.notify k y).setPort p r := by
  rw [State.notify_eq, State.notify_eq]
  rfl

theorem State.setPort_notifyBoth (s : State) (p : Port) (r : PortRec) (y : NoticeBody) :
    (s.setPort p r).notifyBoth y = (s.notifyBoth y).setPort p r := by
  simp only [State.notifyBoth, State.setPort_notify]

/-- A change of state that R19 tells. -/
theorem State.changePort_told (h : (s.port p).state ≠ .active) (hn : noticed (s.port p).state r.state = true) :
    s.changePort p r = (s.notifyBoth (portNotice p r (s.port p).state)).setPort p r := by
  rw [State.changePort_idle h, if_pos hn]

/-- A change between EMPTY and SETTLING, or none, which R19 does not tell. -/
theorem State.changePort_untold (h : (s.port p).state ≠ .active) (hn : noticed (s.port p).state r.state = false) :
    s.changePort p r = s.setPort p r := by
  rw [State.changePort_idle h, if_neg (by simp [hn])]

/-- An entry to SETTLING from a state but ACTIVE, and on to FAULT while the fault input is asserted (R20, R30). -/
theorem State.settlePort_idle (h : (s.port p).state ≠ .active) (d : Level) :
    let settled := (s.port p).toSettling d s.now
    let told := if noticed (s.port p).state .settling then s.notifyBoth (portNotice p settled (s.port p).state) else s
    s.settlePort p d = if s.pins.fault.get p then
        (told.notifyBoth (portNotice p (settled.toFault .overload) .settling)).setPort p (settled.toFault .overload)
      else told.setPort p settled := by
  intro settled told
  have hc : s.changePort p settled = told.setPort p settled := State.changePort_idle h
  have hst : ((told.setPort p settled).port p) = settled := State.setPort_port_self _ _ _
  have hF := State.faultPort_idle (s := told.setPort p settled) .overload (p := p)
    (by rw [hst]; simp [settled, PortRec.toSettling]) (by rw [hst]; simp [settled, PortRec.toSettling])
  rw [hst, State.setPort_notifyBoth, State.setPort_setPort] at hF
  show (if s.pins.fault.get p then (s.changePort p settled).faultPort p .overload else s.changePort p settled) = _
  rw [hc, hF]
  rfl

end Idle

end Sys2Proof.Machine

/-! PROOF of O16: the timers of an identification (R24, R26). -/

namespace Sys2Proof.Machine

section Timers
variable {s : State} {p : Port}

theorem exec_enquirePoll_due (hh : s.hub.held = false) (hs : (s.port p).stage = some .enquiring)
    (ht : 50 ≤ (s.hub.time - (s.port p).enquiredAt).toNat) : exec (.enquirePoll p) s =
      .next (s.setPort p { s.port p with enquiredAt := s.hub.time, sent := [.enquire] }) := by
  refine congrArg Host.Outcome.next ((State.unlessHeld_free hh _).trans ((if_pos hs).trans ?_))
  rw [State.expire_done ht]
  rfl

theorem exec_identDeadlineExpiry_due (hh : s.hub.held = false) (hs : (s.port p).stage = some .enquiring)
    (ht : 1000 ≤ (s.hub.time - (s.port p).identFrom).toNat) :
    exec (.identDeadlineExpiry p) s = .next (s.faultPort p .identTimeout) := by
  refine congrArg Host.Outcome.next ((State.unlessHeld_free hh _).trans ((if_pos hs).trans ?_))
  rw [State.expire_done ht]

theorem exec_speedAckTimeout_due (hh : s.hub.held = false) (hs : (s.port p).stage = some .speed)
    (ht : 100 ≤ (s.hub.time - (s.port p).waitFrom).toNat) : exec (.speedAckTimeout p) s =
      .next (if (s.port p).secondWait then s.faultPort p .silent
        else s.setPort p { s.port p with
          sent := [.speed (s.port p).dataSpeed], waitFrom := s.hub.time, secondWait := true }) := by
  refine congrArg Host.Outcome.next ((State.unlessHeld_free hh _).trans ((if_pos hs).trans ?_))
  rw [State.expire_done ht]
  rfl

theorem exec_firstDataTimeout_due (hh : s.hub.held = false) (hs : (s.port p).stage = some .firstData)
    (ht : 100 ≤ (s.hub.time - (s.port p).waitFrom).toNat) : exec (.firstDataTimeout p) s =
      .next (if (s.port p).secondWait then s.faultPort p .silent else s.askFirstData p true) := by
  refine congrArg Host.Outcome.next ((State.unlessHeld_free hh _).trans ((if_pos hs).trans ?_))
  rw [State.expire_done ht]

/-- The entry to FAULT from IDENTIFYING (R24, R26). -/
theorem State.faultPort_identifying (hs : (s.port p).state = .identifying) (why : FaultReason) :
    s.faultPort p why = (s.notifyBoth (.portChanged p .fault .identifying (s.port p).generation (s.port p).detect none
      (faultCode (some why)))).setPort p ((s.port p).toFault why) := by
  rw [State.faultPort_idle why (by simp [hs]) (by simp [hs]), hs]
  rfl

end Timers

/-- Settles O16, by the stage of the port and the wait that its timer ends. -/
theorem identificationTimers : Obligations.IdentificationTimers := by
  intro s p hh r fault
  have hf : ∀ why, r.state = .identifying → s.faultPort p why = fault why := fun why hs =>
    State.faultPort_identifying hs why
  refine ⟨fun hs => ⟨?_, ?_⟩, fun hs => ?_, fun hs => ?_, fun hi => ⟨fun hs ht => exec_enquirePoll_due hh hs ht,
    fun hs ht => ?_, fun ht => ⟨fun hs hw => ?_, fun hs hw => ?_, fun hs hw => ?_, fun hs hw => ?_⟩⟩⟩
  · exact congrArg Host.Outcome.next ((State.unlessHeld_free hh _).trans (if_neg hs))
  · exact congrArg Host.Outcome.next ((State.unlessHeld_free hh _).trans (if_neg hs))
  · exact congrArg Host.Outcome.next ((State.unlessHeld_free hh _).trans (if_neg hs))
  · exact congrArg Host.Outcome.next ((State.unlessHeld_free hh _).trans (if_neg hs))
  · rw [exec_identDeadlineExpiry_due hh hs ht, hf _ hi]
  · rw [exec_speedAckTimeout_due hh hs ht, if_neg (by simpa using hw)]
  · rw [exec_speedAckTimeout_due hh hs ht, if_pos hw, hf _ hi]
  · rw [exec_firstDataTimeout_due hh hs ht, if_neg (by simpa using hw), State.askFirstData]
    dsimp only
    rw [← hs]
    rfl
  · rw [exec_firstDataTimeout_due hh hs ht, if_pos hw, hf _ hi]

end Sys2Proof.Machine

/-! PROOF of O18: removal, replacement, DRIVER FAULT and the silent path (R20, R21, R29 to R31). -/

namespace Sys2Proof.Machine

section Removal
variable {s : State} {p : Port} {d : Level} {bound : Option (Nat × Pair)}

/-- The state with the detect input of a port read. -/
def State.levelSeen (s : State) (p : Port) (d : Level) : State := s.setPins { s.pins with detect := s.pins.detect.set p d }

theorem exec_detectChange_taken (hd : s.pins.detect.get p ≠ d) (hr : s.hub.state = .ready) (hh : s.hub.held = false) :
    exec (.detectChange p d) s = .next ((s.levelSeen p d).detectInput p d) :=
  congrArg Host.Outcome.next (if_pos ⟨hd, by simp [State.hubReady, hr], by simp [hh]⟩)

/-- A detect input that opens leaves a port that is neither EMPTY nor SETTLING EMPTY (R21). -/
theorem State.detectInput_open (h1 : (s.port p).state ≠ .empty) (h2 : (s.port p).state ≠ .settling) :
    s.detectInput p .openCircuit = s.emptyPort p := by
  unfold State.detectInput
  cases hs : (s.port p).state <;> simp_all

/-- Another level takes every port but a SETTLING one to SETTLING (R20). -/
theorem State.detectInput_level (hd : d ≠ .openCircuit) (h2 : (s.port p).state ≠ .settling) :
    s.detectInput p d = s.settlePort p d := by
  unfold State.detectInput
  cases hs : (s.port p).state <;> cases d <;> simp_all

theorem State.levelSeen_fault (s : State) (p : Port) (d : Level) : (s.levelSeen p d).pins.fault = s.pins.fault := rfl

/-! ### The silent path (R29) -/

/-- The record that the silent path leaves: FAULT with the silent-retry flag set before, else IDENTIFYING with it set. -/
def PortRec.toSilent (r : PortRec) (now : Word32) : PortRec :=
  if r.silentRetry then r.toFault .silent else { r.toIdentifying now with silentRetry := true }

theorem PortRec.toSilent_again {r : PortRec} {now : Word32} (h : r.silentRetry = true) :
    r.toSilent now = r.toFault .silent := if_pos h

theorem PortRec.toSilent_first {r : PortRec} {now : Word32} (h : ¬ r.silentRetry = true) :
    r.toSilent now = { r.toIdentifying now with silentRetry := true } := if_neg h

theorem State.silent_eq (s : State) (p : Port) : s.silent p = s.changePort p ((s.port p).toSilent s.now) := by
  unfold State.silent PortRec.toSilent
  cases (s.port p).silentRetry <;> rfl

theorem PortRec.toSilent_left (r : PortRec) (now : Word32) : r.Left (r.toSilent now) ∧ (r.toSilent now).state ≠ .active := by
  unfold PortRec.toSilent
  split
  · exact ⟨r.toFault_left _, by simp [PortRec.toFault]⟩
  · exact ⟨⟨rfl, rfl, rfl, rfl, rfl, rfl⟩, by simp [PortRec.toIdentifying]⟩

theorem State.Binding.silent (h : s.Binding p bound) (ha : (s.port p).state = .active) :
    s.Departed (s.silent p) p bound ∧ (s.silent p).port p = (s.port p).toSilent s.now ∧ (s.silent p).pins = s.pins ∧
      (s.silent p).links = (s.departing p bound (portNotice p ((s.port p).toSilent s.now) .active)).links := by
  rw [State.silent_eq]
  exact h.changePort ha (PortRec.toSilent_left _ _).2 (PortRec.toSilent_left _ _).1

theorem exec_silentPath_due {t0 : Word32} (hh : s.hub.held = false) (hn : (s.port p).nudgedAt = some t0)
    (hs : s.supervised p = true) (ht : 200 ≤ (s.hub.time - t0).toNat) : exec (.silentPath p) s = .next (s.silent p) := by
  refine congrArg Host.Outcome.next ((State.unlessHeld_free hh _).trans ?_)
  simp only [hn, hs, if_true, State.expire_done ht]

/-! ### Rows -/

theorem exec_detectChange_open (hh : s.hub.held = false) (hr : s.hub.state = .ready)
    (hd : s.pins.detect.get p ≠ .openCircuit) (h1 : (s.port p).state ≠ .empty) (h2 : (s.port p).state ≠ .settling) :
    exec (.detectChange p .openCircuit) s = .next ((s.levelSeen p .openCircuit).emptyPort p) :=
  (exec_detectChange_taken hd hr hh).trans (congrArg Host.Outcome.next (State.detectInput_open h1 h2))

theorem exec_detectChange_level (hh : s.hub.held = false) (hr : s.hub.state = .ready) (ho : d ≠ .openCircuit)
    (hd : s.pins.detect.get p ≠ d) (h2 : (s.port p).state ≠ .settling) :
    exec (.detectChange p d) s = .next ((s.levelSeen p d).settlePort p d) :=
  (exec_detectChange_taken hd hr hh).trans (congrArg Host.Outcome.next (State.detectInput_level ho h2))

theorem State.Binding.removed (h : s.Binding p bound) (ha : (s.port p).state = .active) (hh : s.hub.held = false)
    (hr : s.hub.state = .ready) (hd : s.pins.detect.get p ≠ .openCircuit) :
    ∃ t : State, exec (.detectChange p .openCircuit) s = .next t ∧ s.Departed t p bound ∧ t.port p = (s.port p).toEmpty ∧
      t.pins = (s.levelSeen p .openCircuit).pins ∧
      t.links = (s.departing p bound (portNotice p (s.port p).toEmpty .active)).links :=
  ⟨_, exec_detectChange_open hh hr hd (by simp [ha]) (by simp [ha]),
    h.changePort_pins _ ha (by simp [PortRec.toEmpty]) (PortRec.toEmpty_left _) rfl⟩

/-- The states, but ACTIVE, in which a port has a device line or shows a fault. -/
def PortState.leaves (x : PortState) : Prop := x = .identifying ∨ x = .rejected ∨ x = .fault

theorem PortState.leaves_ne {x : PortState} (h : x.leaves) : x ≠ .active ∧ x ≠ .empty ∧ x ≠ .settling := by
  rcases h with rfl | rfl | rfl <;> decide

theorem State.emptyPort_leaves (h : (s.port p).state.leaves) : s.emptyPort p =
    (s.notifyBoth (portNotice p (s.port p).toEmpty (s.port p).state)).setPort p (s.port p).toEmpty := by
  obtain ⟨ha, he, hs⟩ := PortState.leaves_ne h
  exact State.changePort_told ha (by simp [noticed, PortRec.toEmpty, he, hs])

theorem State.settlePort_leaves (h : (s.port p).state.leaves) (d : Level) :
    let settled := (s.port p).toSettling d s.now
    let told := s.notifyBoth (portNotice p settled (s.port p).state)
    s.settlePort p d = if s.pins.fault.get p then
        (told.notifyBoth (portNotice p (settled.toFault .overload) .settling)).setPort p (settled.toFault .overload)
      else told.setPort p settled := by
  obtain ⟨ha, he, hs⟩ := PortState.leaves_ne h
  have hn : noticed (s.port p).state .settling = true := by simp [noticed, he, hs]
  intro settled told
  rw [State.settlePort_idle ha d, if_pos hn]

end Removal

/-- Settles O18, by the record that the port becomes, and from ACTIVE by its departure. -/
theorem departureOfAPort : Obligations.DepartureOfAPort := by
  intro s p hh r bare changed empty settling overload seen asserted
  refine ⟨fun bound ha h => ⟨fun hr hd => h.removed ha hh hr hd, fun d hr ho hd => ?_, h.driverFault hh ha,
    fun t0 d hn ht hp hdev hk => ?_⟩, fun hs hr d hd => ⟨fun ho => ?_, fun ho => ?_⟩, fun hs => ?_, fun on hs => ?_⟩
  · have hst : (s.port p).state ≠ .settling := by
      rw [show (s.port p).state = .active from ha]
      decide
    exact ⟨_, exec_detectChange_level hh hr ho hd hst, h.settlePort_pins _ ha d rfl⟩
  · have hsup : s.supervised p = true := by
      have hp' : (s.port p).pendingMode = none := hp
      have hd' : (s.port p).device = some d := hdev
      have ha' : (s.port p).state = .active := ha
      simp [State.supervised, State.active, State.classOf, hp', hd', ha', hk]
    obtain ⟨hD, hport, hpins, hlinks⟩ := h.silent ha
    refine ⟨_, exec_silentPath_due hh hn hsup ht, hD, hpins, ?_⟩
    rw [hport, hlinks]
    split
    · rename_i hq
      rw [PortRec.toSilent_again hq]
      exact ⟨rfl, rfl⟩
    · rename_i hq
      rw [PortRec.toSilent_first hq]
      exact ⟨rfl, rfl⟩
  · subst ho
    obtain ⟨ha, he, hse⟩ := PortState.leaves_ne hs
    rw [exec_detectChange_open hh hr hd he hse]
    exact congrArg Host.Outcome.next (State.emptyPort_leaves (s := s.levelSeen p .openCircuit) hs)
  · rw [exec_detectChange_level hh hr ho hd (PortState.leaves_ne hs).2.2]
    exact congrArg Host.Outcome.next (State.settlePort_leaves (s := s.levelSeen p d) hs d)
  · have hne : (s.port p).state ≠ .active ∧ (s.port p).state ≠ .empty ∧ (s.port p).state ≠ .fault := by
      rcases hs with hs | hs | hs <;> rw [hs] <;> decide
    rw [exec_driverFault_taken hh hne.2.1 hne.2.2]
    exact congrArg Host.Outcome.next (State.faultPort_idle (s := s.faultSeen p true) .overload hne.1 hne.2.2)
  · refine congrArg Host.Outcome.next (if_neg ?_)
    rintro ⟨h1, -, h2, h3⟩
    rcases hs with hs | hs | hs
    · simp [hs] at h1
    · exact h2 hs
    · exact h3 hs

end Sys2Proof.Machine

/-! PROOF of O13: PORT RESET (R32). A response to another request, as the departure sends it to a SELECT MODE that waits,
leaves the request in hand as it is. -/

namespace Sys2Proof.Machine

/-! ### Responses to two requests -/

/-- An entry, at stage `x` where its serial is `n`. -/
def Entry.marked (e : Entry) (n : Nat) (x : EntryStage) : Entry := if e.serial = n then { e with stage := x } else e

theorem Entry.marked_other {e : Entry} {n : Nat} (h : e.serial ≠ n) (x : EntryStage) : e.marked n x = e := if_neg h

theorem Entry.marked_same (e : Entry) (n : Nat) (x : EntryStage) :
    (e.marked n x).serial = e.serial ∧ (e.marked n x).tag = e.tag ∧ (e.marked n x).code = e.code := by
  unfold Entry.marked
  split <;> exact ⟨rfl, rfl, rfl⟩

theorem Entry.marked_comm (e : Entry) {m n : Nat} (h : m ≠ n) (x y : EntryStage) :
    (e.marked n x).marked m y = (e.marked m y).marked n x := by
  by_cases hn : e.serial = n
  · rw [Entry.marked_other (e := e) (n := m) (by omega), Entry.marked_other]
    rw [(e.marked_same n x).1]
    omega
  · rw [Entry.marked_other hn, Entry.marked_other (e := e.marked m y)]
    rw [(e.marked_same m y).1]
    exact hn

section Answers
variable {u : LinkUnit} {s t : State} {l : Link} {tag : Byte} {code : ReqCode} {m n : Nat} {b : List Byte} {k : Ticket}

/-- Whether an entry still waits for the response to serial `m`. -/
def Entry.awaits (m : Nat) (e : Entry) : Bool := e.serial == m && e.stage != .answered

theorem LinkUnit.handOver_none {j : Judgement} {body : List Byte} (h : u.table.find? (Entry.awaits m) = none) :
    u.handOver m j body = u := by
  unfold LinkUnit.handOver
  unfold Entry.awaits at h
  rw [h]

theorem LinkUnit.handOver_some {e : Entry} {j : Judgement} {body : List Byte}
    (h : u.table.find? (Entry.awaits m) = some e) : u.handOver m j body = { u with
      table := u.table.map (fun x => x.marked m .answered), ready := u.ready ++ [.response m e.tag e.code j body] } := by
  unfold LinkUnit.handOver
  unfold Entry.awaits at h
  rw [h]
  rfl

/-- The taking of one request and the answer to another change different entries. -/
theorem LinkUnit.take_handOver (h : m ≠ n) (j : Judgement) (body : List Byte) :
    (u.take n).handOver m j body = (u.handOver m j body).take n := by
  have hp : Entry.awaits m ∘ (fun x : Entry => x.marked n .working) = Entry.awaits m := funext fun x => by
    by_cases hx : x.serial = n
    · have h1 : x.serial ≠ m := by omega
      have h2 : (x.marked n .working).serial ≠ m := by
        rw [(x.marked_same n _).1]
        exact h1
      rw [Function.comp_apply, Entry.awaits, Entry.awaits, beq_false_of_ne h1, beq_false_of_ne h2]
      rfl
    · rw [Function.comp_apply, Entry.marked_other hx]
  have hf : (u.take n).table.find? (Entry.awaits m) =
      (u.table.find? (Entry.awaits m)).map (fun x => x.marked n .working) := by
    show (u.table.map (fun x => x.marked n .working)).find? _ = _
    rw [List.find?_map, hp]
  cases hq : u.table.find? (Entry.awaits m) with
  | none => rw [LinkUnit.handOver_none (hf.trans (by rw [hq]; rfl)), LinkUnit.handOver_none hq]
  | some e =>
    have hm : e.serial = m := by
      have := List.find?_some hq
      simp only [Entry.awaits, Bool.and_eq_true, beq_iff_eq] at this
      exact this.1
    have he : (u.take n).table.find? (Entry.awaits m) = some e := by
      rw [hf, hq, Option.map_some, Entry.marked_other (by omega)]
    have ht : (u.table.map fun x => x.marked n .working).map (fun x => x.marked m .answered) =
        (u.table.map fun x => x.marked m .answered).map fun x => x.marked n .working := by
      rw [List.map_map, List.map_map]
      exact List.map_congr_left fun x _ => x.marked_comm h _ _
    rw [LinkUnit.handOver_some he, LinkUnit.handOver_some hq]
    exact congrArg (fun es => ({ u with table := es, ready := u.ready ++ [.response m e.tag e.code j body] } : LinkUnit)) ht

theorem LinkUnit.routed_some : u.routed tag code = some (n, b) ↔ ∃ e, u.table.find? (fun e => e.tag == tag && e.code == code) =
    some e ∧ e.serial = n ∧ e.stage = .routed b := by
  unfold LinkUnit.routed
  cases u.table.find? (fun e => e.tag == tag && e.code == code) with
  | none => simp
  | some e =>
    obtain ⟨_, _, _, _, stage⟩ := e
    cases stage <;> simp

/-- A request goes on waiting through the answer to another. -/
theorem LinkUnit.routed_handOver (h : u.routed tag code = some (n, b)) (hm : m ≠ n) (j : Judgement) (body : List Byte) :
    (u.handOver m j body).routed tag code = some (n, b) := by
  obtain ⟨e, he, hs, hb⟩ := LinkUnit.routed_some.mp h
  cases hq : u.table.find? (Entry.awaits m) with
  | none => rwa [LinkUnit.handOver_none hq]
  | some f =>
    rw [LinkUnit.handOver_some hq]
    refine LinkUnit.routed_some.mpr ⟨e, ?_, hs, hb⟩
    have hp : (fun e : Entry => e.tag == tag && e.code == code) ∘ (fun x : Entry => x.marked m .answered) =
        fun e => e.tag == tag && e.code == code := funext fun x => by
      rw [Function.comp_apply, (x.marked_same m _).2.1, (x.marked_same m _).2.2]
    show (u.table.map (fun x => x.marked m .answered)).find? _ = _
    rw [List.find?_map, hp, he, Option.map_some, Entry.marked_other (by omega)]

theorem State.taken_refuse (h : k ≠ ⟨l, n⟩) (s : State) (j : Judgement) :
    (s.taken l n).refuse k j = (s.refuse k j).taken l n := by
  simp only [State.refuse, State.respond, State.taken]
  by_cases hk : k.link = l
  · have hs : k.serial ≠ n := fun e => h (by cases k; simp_all)
    rw [hk]
    simp only [State.setLink_link_self, State.setLink_setLink, LinkUnit.take_handOver hs]
  · simp only [State.setLink_link, if_neg hk, if_neg (Ne.symm hk)]
    exact State.setLink_comm s (Ne.symm hk) _ _

theorem State.Waits.refuse (h : s.Waits l tag code n b) (hk : k ≠ ⟨l, n⟩) (j : Judgement) :
    (s.refuse k j).Waits l tag code n b := by
  refine ⟨h.sound.respond k j [], ?_⟩
  unfold State.refuse
  rw [State.respond_link_eq]
  by_cases hl : l = k.link
  · have hs : k.serial ≠ n := fun e => hk (by cases k; simp_all)
    rw [if_pos hl, ← hl]
    exact LinkUnit.routed_handOver h.routed hs j []
  · rw [if_neg hl]
    exact h.routed

/-! ### A departure while a request is in hand -/

/-- The SELECT MODE that waits on a port, if any, is not the request in hand. -/
def State.AsksElse (s : State) (p : Port) (k : Ticket) : Prop := ∀ w, (s.port p).pendingMode = some w → w.ticket ≠ k

theorem State.taken_unasked (h : s.AsksElse p ⟨l, n⟩) : (s.taken l n).unasked p = (s.unasked p).taken l n := by
  have ht : ((s.taken l n).port p).pendingMode = (s.port p).pendingMode := rfl
  unfold State.unasked
  rw [ht]
  cases hw : (s.port p).pendingMode with
  | none => rfl
  | some w => exact State.taken_refuse (h w hw) s _

theorem State.Waits.unasked (hw : s.Waits l tag code n b) (h : s.AsksElse p ⟨l, n⟩) :
    (s.unasked p).Waits l tag code n b := by
  unfold State.unasked
  split
  · exact hw
  · rename_i w hm
    exact hw.refuse (h w hm) _

variable {bound : Option (Nat × Pair)} {x : NoticeBody}

theorem State.AsksElse.notifyBoth (h : s.AsksElse p k) (x : NoticeBody) : (s.notifyBoth x).AsksElse p k := fun w hw =>
  h w (by rwa [State.notifyBoth_port] at hw)

theorem State.taken_departing (h : s.AsksElse p ⟨l, n⟩) : (s.taken l n).departing p bound x =
    (s.departing p bound x).taken l n := by
  have hb : (s.taken l n).boundEndings p .removed bound = s.boundEndings p .removed bound := by cases bound <;> rfl
  simp only [State.departing_eq, State.taken_notifyBoth, State.taken_unasked (h.notifyBoth x), State.taken_notifyAll, hb]

theorem State.Waits.departing (hw : s.Waits l tag code n b) (h : s.AsksElse p ⟨l, n⟩) :
    (s.departing p bound x).Waits l tag code n b := by
  rw [State.departing_eq]
  exact ((hw.notifyBoth x).unasked (h.notifyBoth x)).notifyAll _

theorem State.Departed.of_taken (h : (s.taken l n).Departed t p bound) : s.Departed t p bound := by
  have hpairs := h.pairs_unbound
  exact ⟨h.holder, h.pending, h.mode, h.interval, h.device, h.generation, h.motor, h.partner,
    by cases bound <;> exact hpairs, h.views, h.watches, h.ports, h.motors, h.channels, h.rest⟩

/-- A state whose links are those of `t` after the taking of a request, with the links of `t` (R8). -/
theorem State.untaken {v : State} (h : v.links = (t.taken l n).links) :
    ({ v with links := t.links } : State).taken l n = v := by
  show ({ v with links := (t.taken l n).links } : State) = v
  rw [← h]

/-! ### PORT RESET (R32) -/

/-- PORT CHANGED, where R19 asks for it. -/
def State.retold (s : State) (x : NoticeBody) (old new : PortState) : State :=
  if noticed old new then s.notifyBoth x else s

theorem State.taken_retold (s : State) (l : Link) (n : Nat) (x : NoticeBody) (old new : PortState) :
    (s.taken l n).retold x old new = (s.retold x old new).taken l n := by
  unfold State.retold
  split
  · exact s.taken_notifyBoth l n x
  · rfl

theorem State.Waits.retold (h : s.Waits l tag code n b) (x : NoticeBody) (old new : PortState) :
    (s.retold x old new).Waits l tag code n b := by
  unfold State.retold
  split
  · exact h.notifyBoth x
  · exact h

/-- What PORT RESET leaves where the port was not ACTIVE. -/
def State.afterReset (s : State) (p : Port) : State :=
  let r := s.port p
  let settled := r.toSettling (s.pins.detect.get p) s.now
  let told := s.retold (portNotice p settled r.state) r.state .settling
  if s.pins.detect.get p = .openCircuit then (s.retold (portNotice p r.toEmpty r.state) r.state .empty).setPort p r.toEmpty
  else if s.pins.fault.get p then
    (told.notifyBoth (portNotice p (settled.toFault .overload) .settling)).setPort p (settled.toFault .overload)
  else told.setPort p settled

theorem State.resetPort_idle (h : (s.port p).state ≠ .active) : s.resetPort p = s.afterReset p := by
  unfold State.resetPort State.afterReset
  split
  · exact State.changePort_idle h
  · exact State.settlePort_idle h _

theorem State.taken_afterReset (s : State) (p : Port) (l : Link) (n : Nat) :
    (s.taken l n).afterReset p = (s.afterReset p).taken l n := by
  have hp : (s.taken l n).port p = s.port p := rfl
  have hpin : (s.taken l n).pins = s.pins := rfl
  have hn : (s.taken l n).now = s.now := rfl
  unfold State.afterReset
  simp only [hp, hpin, hn, State.taken_retold, State.taken_notifyBoth]
  split
  · rfl
  · split <;> rfl

theorem State.Waits.afterReset (h : s.Waits l tag code n b) (p : Port) : (s.afterReset p).Waits l tag code n b := by
  unfold State.afterReset
  dsimp only
  split
  · exact (h.retold _ _ _).of_links rfl
  · split
    · exact ((h.retold _ _ _).notifyBoth _).of_links rfl
    · exact (h.retold _ _ _).of_links rfl

/-- The checks of PORT RESET (R32). -/
def State.resetChecks (s : State) (l : Link) (b : List Byte) : List (Bool × Judgement) :=
  let p := portOf (u8 b 0)
  [(decide (b.length ≠ 2), .parameterError), (decide (5 < u8 b 0), .portError),
    (decide ((s.port p).state = .empty) || decide ((s.port p).state = .rejected), .portError),
    (decide (u8 b 1 ≠ 0) && decide (u8 b 1 ≠ (s.port p).generation), .deviceMismatch),
    (s.heldByOther l p, .heldByOtherLink)]

theorem State.portReset_taken (s : State) (l : Link) (n : Nat) (b : List Byte) :
    State.portReset ⟨l, n⟩ b (s.taken l n) = (s.taken l n).check ⟨l, n⟩ (s.resetChecks l b)
      fun t => (t.resetPort (portOf (u8 b 0))).complete ⟨l, n⟩ [] := rfl

/-- PORT RESET of a port that is not ACTIVE. -/
theorem exec_portReset_idle (h : s.Waits l tag .portReset n b) (hj : judge (s.resetChecks l b) = none)
    (ha : (s.port (portOf (u8 b 0))).state ≠ .active) : exec (.portReset l tag) s =
      .next ((s.afterReset (portOf (u8 b 0))).answered l tag .portReset n .normalCompletion []) := by
  refine congrArg _ (State.serve_done h (s.portReset_taken l n b) hj (h.afterReset _) ?_)
  rw [State.resetPort_idle (s := s.taken l n) ha, State.taken_afterReset]

/-- PORT RESET of an ACTIVE port: the departure as it is with the request still waiting, and the response. -/
theorem exec_portReset_departs {v : State} (h : s.Waits l tag .portReset n b) (hj : judge (s.resetChecks l b) = none)
    (hv : (s.taken l n).resetPort (portOf (u8 b 0)) = v) (hd : (s.taken l n).Departed v (portOf (u8 b 0)) bound)
    (hl : v.links = (t.taken l n).links) (ht : t.Waits l tag .portReset n b) : ∃ u : State,
      exec (.portReset l tag) s = .next (u.answered l tag .portReset n .normalCompletion []) ∧
      s.Departed u (portOf (u8 b 0)) bound ∧ u.pins = v.pins ∧
      u.port (portOf (u8 b 0)) = v.port (portOf (u8 b 0)) ∧ u.links = t.links := by
  refine ⟨{ v with links := t.links }, congrArg _ (State.serve_done h (s.portReset_taken l n b) hj
    (t := { v with links := t.links }) (ht.of_links rfl) ?_),
    hd.of_taken.changed ⟨hd.holder, hd.pending, hd.mode, hd.interval, hd.device, rfl⟩ (fun _ _ => rfl) rfl, rfl, rfl, rfl⟩
  rw [State.untaken hl, hv]

/-- PORT RESET of an ACTIVE port whose detect input is OPEN (R21, R32). -/
theorem exec_portReset_empties (h : s.Waits l tag .portReset n b) (hj : judge (s.resetChecks l b) = none)
    (hp : portOf (u8 b 0) = p) (ha : (s.port p).state = .active) (hb : s.Binding p bound) (hq : s.AsksElse p ⟨l, n⟩)
    (ho : s.pins.detect.get p = .openCircuit) : ∃ u : State,
      exec (.portReset l tag) s = .next (u.answered l tag .portReset n .normalCompletion []) ∧
      s.Departed u p bound ∧ u.pins = s.pins ∧ u.port p = (s.port p).toEmpty ∧
      u.links = (s.departing p bound (portNotice p (s.port p).toEmpty .active)).links := by
  subst hp
  obtain ⟨hd, hport, hpins, hl⟩ := (hb.congr ((State.LinksOnly.refl s).setLink l ((s.link l).take n))).changePort ha
    (r := (s.port (portOf (u8 b 0))).toEmpty) (by simp [PortRec.toEmpty]) (PortRec.toEmpty_left _)
  obtain ⟨u, he, hu, hpin, hpo, hli⟩ := exec_portReset_departs h hj (if_pos ho) hd
    (hl.trans (congrArg State.links (State.taken_departing hq))) (h.departing hq)
  exact ⟨u, he, hu, hpin.trans hpins, hpo.trans hport, hli⟩

/-- PORT RESET of an ACTIVE port whose detect input sees a device (R20, R30, R32). -/
theorem exec_portReset_settles (h : s.Waits l tag .portReset n b) (hj : judge (s.resetChecks l b) = none)
    (hp : portOf (u8 b 0) = p) (ha : (s.port p).state = .active) (hb : s.Binding p bound) (hq : s.AsksElse p ⟨l, n⟩)
    (ho : s.pins.detect.get p ≠ .openCircuit) : ∃ u : State,
      exec (.portReset l tag) s = .next (u.answered l tag .portReset n .normalCompletion []) ∧
      s.Departed u p bound ∧ u.pins = s.pins ∧
      let settled := (s.port p).toSettling (s.pins.detect.get p) s.now
      let left := s.departing p bound (portNotice p settled .active)
      if s.pins.fault.get p then u.port p = settled.toFault .overload ∧
        u.links = (left.notifyBoth (portNotice p (settled.toFault .overload) .settling)).links
      else u.port p = settled ∧ u.links = left.links := by
  subst hp
  obtain ⟨hd, hpins, hrest⟩ := (hb.congr ((State.LinksOnly.refl s).setLink l ((s.link l).take n))).settlePort ha
    (s.pins.detect.get (portOf (u8 b 0)))
  have hr : (s.taken l n).resetPort (portOf (u8 b 0)) =
    (s.taken l n).settlePort (portOf (u8 b 0)) (s.pins.detect.get (portOf (u8 b 0))) := if_neg ho
  by_cases hf : s.pins.fault.get (portOf (u8 b 0)) = true
  · rw [State.setLink_pins, if_pos hf] at hrest
    obtain ⟨hport, hl⟩ := hrest
    obtain ⟨u, he, hu, hpin, hpo, hli⟩ := exec_portReset_departs h hj hr hd
      (hl.trans (congrArg State.links ((congrArg (fun t : State => t.notifyBoth _) (State.taken_departing hq)).trans
        (State.taken_notifyBoth _ l n _)))) ((h.departing hq).notifyBoth _)
    refine ⟨u, he, hu, hpin.trans hpins, ?_⟩
    rw [if_pos hf]
    exact ⟨hpo.trans hport, hli⟩
  · rw [State.setLink_pins, if_neg hf] at hrest
    obtain ⟨hport, hl⟩ := hrest
    obtain ⟨u, he, hu, hpin, hpo, hli⟩ := exec_portReset_departs h hj hr hd
      (hl.trans (congrArg State.links (State.taken_departing hq))) (h.departing hq)
    refine ⟨u, he, hu, hpin.trans hpins, ?_⟩
    rw [if_neg hf]
    exact ⟨hpo.trans hport, hli⟩

end Answers

/-- Settles O13, by the state that the port is in: a change of its record alone, or a departure. -/
theorem portResetAnswered : Obligations.PortResetAnswered := by
  intro s l tag n b h p r level checks gone told
  have hc : checks = s.resetChecks l b := by
    simp only [checks, State.resetChecks, State.otherHolds_eq, Bool.decide_or, Bool.decide_and]
    rfl
  have htold : ∀ (t : State) new old reason d, old ≠ .empty → told t new old reason d =
      t.retold (.portChanged p new old r.generation d none reason) old new := fun t new old reason d ho => by
    unfold State.retold
    by_cases h1 : new = old ∨ (old = .settling ∧ new = .empty)
    · rw [if_neg (by rcases h1 with rfl | ⟨rfl, rfl⟩ <;> simp [noticed])]
      exact if_pos h1
    · rw [if_pos]
      · exact if_neg h1
      · obtain ⟨h2, h3⟩ := not_or.mp h1
        simp only [noticed, ho, Ne.symm h2, ne_eq, not_false_iff, decide_true, decide_false, Bool.false_and, Bool.not_false,
          Bool.true_and, Bool.not_eq_true', Bool.and_eq_false_iff, decide_eq_false_iff_not]
        exact not_and_or.mp h3
  rw [hc]
  refine ⟨fun j hj => congrArg _ (State.serve_refused h (s.portReset_taken l n b) hj), fun hj ha => ?_,
    fun bound hj ha hb hq => ?_⟩
  · have he : r.state ≠ .empty := fun e => by
      have := judge_eq_none.mp hj (decide ((s.port p).state = .empty) || decide ((s.port p).state = .rejected), .portError)
        (by simp [State.resetChecks, p])
      simp [show (s.port p).state = .empty from e] at this
    rw [exec_portReset_idle h hj ha]
    refine congrArg (fun t : State => Host.Outcome.next (t.answered l tag .portReset n .normalCompletion [])) ?_
    simp only [htold _ _ _ _ _ he, htold _ _ _ _ _ (by decide : PortState.settling ≠ .empty)]
    rfl
  · by_cases ho : level = .openCircuit
    · obtain ⟨u, he, hu, hpin, hport, hl⟩ := exec_portReset_empties h hj rfl ha hb hq ho
      refine ⟨u, he, hu, hpin, ?_⟩
      rw [if_pos ho]
      exact ⟨hport, hl⟩
    · obtain ⟨u, he, hu, hpin, hrest⟩ := exec_portReset_settles h hj rfl ha hb hq ho
      refine ⟨u, he, hu, hpin, ?_⟩
      rw [if_neg ho]
      exact hrest

end Sys2Proof.Machine

/-! SUPPORT. The attach of a port (R27, R41, R79, R83, R93). -/

namespace Sys2Proof.Machine

section Attach
variable {s t v : State} {p : Port} {r : PortRec} {n us : Nat} {d : DeviceRecord}

/-! ### The attach, as the Sensing Unit takes it (R79, R83, R93) -/

/-- The source interval of a port, from its record alone (R79, R81, R83). -/
def PortRec.source (r : PortRec) : Nat :=
  if r.device.map (fun d => d.kind) = some .sensor then r.interval.getD 0 else 5000

theorem State.recomputePort_frame (s : State) (p : Port) : s.recomputePort p = s.setPort p (s.recomputed p (s.port p)) :=
  s.recomputePort_eq p

/-- What the attach announcement leaves: the recomputed record, a cleared sample record and cleared outputs. -/
theorem State.sensingAttach_eq (s : State) (p : Port) : s.sensingAttach p =
    ((s.setPort p (s.recomputed p (s.port p))).setSample (.port p)
      (.cleared (s.recomputed p (s.port p)).valueCount (s.recomputed p (s.port p)).source)).bothViews (.port p)
        fun v => v.clearOutput (s.recomputed p (s.port p)).valueCount := by
  have hp := State.setPort_port_self s p (s.recomputed p (s.port p))
  have hs : ∀ t : State, t.sourceInterval p = (t.port p).source := fun _ => rfl
  unfold State.sensingAttach
  simp only [State.recomputePort_frame, State.valueCount_port, hs, hp]

/-- Port `p` has attached with the record `r`: its sample record and the outputs are cleared for `n` values, and no other
port, sample record or view differs. -/
structure State.AttachedAs (s t : State) (p : Port) (r : PortRec) (n us : Nat) : Prop where
  port : t.port p = r
  ports : ∀ q, q ≠ p → t.port q = s.port q
  sample : t.sample (.port p) = .cleared n us
  samples : ∀ c, c ≠ .port p → t.sample c = s.sample c
  view : ∀ l, t.view l (.port p) = (s.view l (.port p)).clearOutput n
  views : ∀ l c, c ≠ .port p → t.view l c = s.view l c

theorem State.sensingAttach_attached (s : State) (p : Port) : s.AttachedAs (s.sensingAttach p) p
    (s.recomputed p (s.port p)) (s.recomputed p (s.port p)).valueCount (s.recomputed p (s.port p)).source := by
  rw [State.sensingAttach_eq]
  refine ⟨?_, fun q hq => ?_, ?_, fun c hc => ?_, fun l => ?_, fun l c hc => ?_⟩
  · exact State.setPort_port_self s p _
  · exact (State.setPort_port s p q _).trans (if_neg hq)
  · exact State.setSample_sample_self (s.setPort p (s.recomputed p (s.port p))) (.port p) _
  · exact PerChan.get_set_ne _ _ hc
  · exact (State.bothViews_view _ _ _ _ l).trans (if_pos rfl)
  · exact (State.bothViews_view _ _ _ _ l).trans (if_neg hc)

theorem State.sensingAttach_frame (s : State) (p : Port) : s.sensingAttach p = { s with
    ports := (s.sensingAttach p).ports, samples := (s.sensingAttach p).samples, views := (s.sensingAttach p).views } := by
  rw [State.sensingAttach_eq]
  rfl

theorem State.AttachedAs.of_records (h : v.AttachedAs t p r n us) (hp : ∀ q, q ≠ p → v.port q = s.port q)
    (hs : v.samples = s.samples) (hv : v.views = s.views) : s.AttachedAs t p r n us where
  port := h.port
  ports q hq := (h.ports q hq).trans (hp q hq)
  sample := h.sample
  samples c hc := (h.samples c hc).trans (by rw [State.sample, hs, State.sample])
  view l := (h.view l).trans (by rw [State.view, hv, State.view])
  views l c hc := (h.views l c hc).trans (by rw [State.view, hv, State.view])

/-! ### The entry to ACTIVE (R19, R27) -/

/-- The links are told of an attach. -/
def State.toldAttach (s : State) (p : Port) : State :=
  s.notifyBoth (portNotice p ((s.port p).toActive s.now) (s.port p).state)

/-- The record of the port is ACTIVE, and its channel and sensing are still to follow. -/
def State.attaching (s : State) (p : Port) : State := (s.toldAttach p).setPort p ((s.port p).toActive s.now)

theorem State.activate_eq (hs : (s.port p).state = .settling ∨ (s.port p).state = .identifying) : s.activate p =
    (if (s.attaching p).driven p then (s.attaching p).attachMotor p else s.attaching p).sensingAttach p := by
  have hc : s.changePort p ((s.port p).toActive s.now) = s.attaching p :=
    State.changePort_told (by rcases hs with h | h <;> simp [h])
      (by rcases hs with h | h <;> simp [h, noticed, PortRec.toActive])
  unfold State.activate
  rw [hc]

theorem State.attaching_port (s : State) (p : Port) : (s.attaching p).port p = (s.port p).toActive s.now :=
  State.setPort_port_self _ _ _

theorem State.attaching_frame (s : State) (p : Port) : s.attaching p = { s with
    ports := s.ports.set p ((s.port p).toActive s.now), links := (s.toldAttach p).links } := by
  have h : s.LinksOnly (s.toldAttach p) := ((State.LinksOnly.refl s).notify .pl _).notify .tl _
  unfold State.attaching
  unfold State.LinksOnly at h
  generalize s.toldAttach p = w at h ⊢
  rw [h]
  rfl

theorem LinkUnit.hear_up (u : LinkUnit) (x : Notice) : (u.hear x).up = u.up := by
  unfold LinkUnit.hear LinkUnit.queueNotice
  split
  · split <;> rfl
  · rfl

theorem State.notify_link_up (s : State) (k l : Link) (x : NoticeBody) : ((s.notify k x).link l).up = (s.link l).up := by
  rw [State.notify_eq, State.setLink_link]
  split
  · rename_i h
    rw [LinkUnit.hear_up, h]
  · rfl

theorem State.notifyBoth_link_up (s : State) (l : Link) (x : NoticeBody) : ((s.notifyBoth x).link l).up = (s.link l).up :=
  (State.notify_link_up _ .tl l x).trans (State.notify_link_up s .pl l x)

/-! ### A motor, a plain motor or a lamp (R27, R41) -/

/-- The classes whose channel drives. -/
def Drives (k : DeviceClass) : Prop := k = .motor ∨ k = .plainMotor ∨ k = .lamp

theorem PortRec.toActive_valueCount {now : Word32} (hd : r.device = some d) (hk : Drives d.kind) :
    (r.toActive now).valueCount = 4 := by
  have hdev : (r.toActive now).device = some d := hd
  have hact : (r.toActive now).state = .active := rfl
  unfold PortRec.valueCount
  rw [hdev, hact]
  rcases hk with h | h | h <;> simp [h]

theorem State.attaching_driven (hd : (s.port p).device = some d) (hk : Drives d.kind) : (s.attaching p).driven p = true := by
  have hdev : ((s.port p).toActive s.now).device = some d := hd
  have hact : ((s.port p).toActive s.now).state = .active := rfl
  simp only [State.driven, State.active, State.classOf, State.attaching_port, hdev, hact]
  rcases hk with h | h | h <;> simp [h]

theorem State.activate_motor (hs : (s.port p).state = .settling ∨ (s.port p).state = .identifying)
    (hd : (s.port p).device = some d) (hk : Drives d.kind) :
    s.AttachedAs (s.activate p) p ((s.port p).toActive s.now) 4 5000 ∧
    (∀ q, (s.activate p).motor q =
      if q = p then { Motor.reset with gains := d.motor.map (fun m => sizeGains m.size) } else s.motor q) ∧
    s.activate p = { s with
      ports := (s.activate p).ports, motors := (s.activate p).motors, samples := (s.activate p).samples
      views := (s.activate p).views, links := (s.toldAttach p).links } := by
  have hkind : d.kind ≠ .sensor := by rcases hk with h | h | h <;> simp [h]
  have hnot : ((s.port p).toActive s.now).device.map (fun d => d.kind) ≠ some .sensor := by
    show (s.port p).device.map (fun d => d.kind) ≠ some .sensor
    simp [hd, hkind]
  have ha := (State.activate_eq hs).trans (congrArg (fun t : State => t.sensingAttach p) (if_pos (State.attaching_driven hd hk)))
  have hvp : ((s.attaching p).attachMotor p).port p = (s.port p).toActive s.now := s.attaching_port p
  have hatt := ((s.attaching p).attachMotor p).sensingAttach_attached p
  have hfr := ((s.attaching p).attachMotor p).sensingAttach_frame p
  have hsrc : ((s.port p).toActive s.now).source = 5000 := if_neg hnot
  rw [hvp, State.recomputed_other (.inr hnot), PortRec.toActive_valueCount hd hk, hsrc, ← ha] at hatt
  rw [← ha] at hfr
  have hpart : (s.attaching p).motorPart p = d.motor := by
    unfold State.motorPart
    rw [State.attaching_port]
    exact congrArg (fun x : Option DeviceRecord => x.bind fun d => d.motor) hd
  have hv : (s.attaching p).attachMotor p = { s with
      ports := s.ports.set p ((s.port p).toActive s.now), links := (s.toldAttach p).links
      motors := s.motors.set p { Motor.reset with gains := d.motor.map (fun m => sizeGains m.size) } } := by
    unfold State.attachMotor
    rw [hpart, State.attaching_frame]
    rfl
  rw [hv] at hatt hfr
  refine ⟨hatt.of_records (fun q hq => PerPort.get_set_ne _ _ hq) rfl rfl, fun q => ?_, ?_⟩
  · rw [State.motor, hfr]
    exact PerPort.get_set _ p q _
  · rw [hfr]

/-! ### A sensor (R26, R27, R83) -/

theorem PortRec.takeInterval_eq (r : PortRec) (us : Nat) : r.takeInterval us = { r with
    interval := some us, sentInterval := some us
    sent := if r.sentInterval = some us then r.sent else [.setInterval (us / 1000)] } := by
  unfold PortRec.takeInterval
  by_cases h : r.sentInterval = some us
  · rw [if_pos h, if_pos h, ← h]
  · rw [if_neg h, if_neg h]

theorem PortRec.sensor_modeRecord {m : Nat} {x : ModeRecord} (hd : r.device = some d) (hm : r.mode = some m)
    (hx : d.modes[m]? = some x) : r.modeRecord = some x := by
  simp [PortRec.modeRecord, hd, hm, hx]

theorem PortRec.sensor_valueCount {x : ModeRecord} (ha : r.state = .active)
    (hk : r.device.map (fun d => d.kind) = some .sensor) (hx : r.modeRecord = some x) : r.valueCount = x.count := by
  simp [PortRec.valueCount, ha, hk, hx]

/-- The recomputed record of an ACTIVE SENSOR (R83). -/
theorem State.recomputed_takes (t : State) (p : Port) {x : ModeRecord} (ha : r.state = .active)
    (hk : r.device.map (fun d => d.kind) = some .sensor) (hx : r.modeRecord = some x) :
    t.recomputed p r = r.takeInterval (t.sensorInterval p x.minInterval) := by
  have hs : r.senses = true := by simp [PortRec.senses, ha, hk]
  unfold State.recomputed
  rw [if_pos hs, hx]
  rfl

theorem State.activate_sensor (hs : (s.port p).state = .identifying) (hd : (s.port p).device = some d)
    (hk : d.kind = .sensor) {m : Nat} {x : ModeRecord} (hm : (s.port p).mode = some m) (hx : d.modes[m]? = some x) :
    let us := s.sensorInterval p x.minInterval
    s.AttachedAs (s.activate p) p (((s.port p).toActive s.now).takeInterval us) x.count us ∧
    s.activate p = { s with
      ports := (s.activate p).ports, samples := (s.activate p).samples, views := (s.activate p).views
      links := (s.toldAttach p).links } := by
  intro us
  have hdev : ((s.port p).toActive s.now).device = some d := hd
  have hkind : ((s.port p).toActive s.now).device.map (fun d => d.kind) = some .sensor := by simp [hdev, hk]
  have hmode : ((s.port p).toActive s.now).modeRecord = some x := PortRec.sensor_modeRecord hdev hm hx
  have hdriven : ¬ (s.attaching p).driven p = true := by
    simp [State.driven, State.classOf, State.attaching_port, hdev, hk]
  have ha := (State.activate_eq (.inr hs)).trans (congrArg (fun t : State => t.sensingAttach p) (if_neg hdriven))
  have hv := s.attaching_frame p
  have hviews : (s.attaching p).views = s.views := by rw [hv]
  have hus : (s.attaching p).sensorInterval p x.minInterval = us :=
    State.sensorInterval_congr hviews (fun k => s.notifyBoth_link_up k _) p _
  have hrec := State.recomputed_takes (s.attaching p) p (r := (s.port p).toActive s.now) rfl hkind hmode
  have hcount : (((s.port p).toActive s.now).takeInterval us).valueCount = x.count := by
    rw [PortRec.takeInterval_eq]
    exact PortRec.sensor_valueCount rfl hkind hmode
  have hsrc : (((s.port p).toActive s.now).takeInterval us).source = us := by
    rw [PortRec.takeInterval_eq]
    exact if_pos hkind
  have hatt := (s.attaching p).sensingAttach_attached p
  have hfr := (s.attaching p).sensingAttach_frame p
  rw [State.attaching_port, hrec, hus, hcount, hsrc, ← ha, hv] at hatt
  rw [← ha, hv] at hfr
  refine ⟨hatt.of_records (fun q hq => PerPort.get_set_ne _ _ hq) rfl rfl, ?_⟩
  rw [hfr]

end Attach

end Sys2Proof.Machine

/-! PROOF of O14: DETECT CHANGE and DEBOUNCE EXPIRY (R18 to R20, R24, R27, R30). -/

namespace Sys2Proof.Machine

section Detection
variable {s : State} {p : Port} {d : Level}

theorem State.detectInput_settling (hs : (s.port p).state = .settling) (hd : d ≠ .openCircuit) :
    s.detectInput p d = s.setPort p { s.port p with detect := d, waitFrom := s.now } := by
  unfold State.detectInput
  cases d <;> simp_all

theorem State.detectInput_settling_open (hs : (s.port p).state = .settling) :
    s.detectInput p .openCircuit = s.setPort p (s.port p).toEmpty := by
  have hc := State.changePort_untold (s := s) (p := p) (r := (s.port p).toEmpty) (by simp [hs])
    (by simp [hs, noticed, PortRec.toEmpty])
  unfold State.detectInput
  simp only [hs, hc]

/-- From EMPTY to SETTLING without a notice, and on to FAULT while the fault input is asserted (R19, R20, R30). -/
theorem State.settlePort_empty (hs : (s.port p).state = .empty) (d : Level) :
    let settled := (s.port p).toSettling d s.now
    s.settlePort p d = if s.pins.fault.get p then
        (s.notifyBoth (portNotice p (settled.toFault .overload) .settling)).setPort p (settled.toFault .overload)
      else s.setPort p settled := by
  have hn : ¬ noticed (s.port p).state .settling = true := by simp [hs, noticed]
  intro settled
  rw [State.settlePort_idle (by simp [hs]) d, if_neg hn]

/-! ### The debounce expiry (R20) -/

theorem exec_debounceExpiry_due (hh : s.hub.held = false) (hs : (s.port p).state = .settling)
    (ht : 100 ≤ (s.hub.time - (s.port p).waitFrom).toNat) : exec (.debounceExpiry p) s = .next (s.settled p) := by
  refine congrArg Host.Outcome.next ((State.unlessHeld_free hh _).trans ((if_pos hs).trans ?_))
  rw [State.expire_done ht]

theorem State.settled_level3 (hs : (s.port p).state = .settling) (hd : (s.port p).detect = .level3) : s.settled p =
    (s.notifyBoth (portNotice p ((s.port p).toIdentifying s.now) .settling)).setPort p ((s.port p).toIdentifying s.now) := by
  have hc := State.changePort_told (s := s) (p := p) (r := (s.port p).toIdentifying s.now) (by simp [hs])
    (by simp [hs, noticed, PortRec.toIdentifying])
  unfold State.settled
  simp only [hd]
  exact hc.trans (by rw [hs])

/-- The class of a plain device at a detect level (R20). -/
def plainKind (d : Level) : DeviceClass := if d = .level1 then .plainMotor else .lamp

theorem State.settled_plain (hd : (s.port p).detect = .level1 ∨ (s.port p).detect = .level2) : s.settled p =
    (s.setPort p { s.port p with device := some (plainDevice (plainKind (s.port p).detect)), mode := none }).activate p := by
  unfold State.settled
  rcases hd with hd | hd
  · simp only [hd]
    rfl
  · simp only [hd]
    rfl

theorem State.setPort_toldAttach (s : State) (p : Port) (r : PortRec) {x : PortState} (h : r.state = x) :
    (s.setPort p r).toldAttach p = (s.notifyBoth (portNotice p (r.toActive s.now) x)).setPort p r := by
  unfold State.toldAttach
  rw [State.setPort_port_self, State.setPort_notifyBoth, h]
  rfl

end Detection

/-- Settles O14, by the state that the port is in and, at the debounce expiry, by its detect class. -/
theorem detectionAndDebounce : Obligations.DetectionAndDebounce := by
  intro s p level r seen bare
  refine ⟨fun hn => ?_, fun hr hh hf hd hs ho => ?_, fun hr hh hf hd => ⟨fun hs ho => ?_, fun hs ho => ?_, fun hs ho => ?_⟩,
    fun hh hs ht => ⟨fun hd => ?_, ?_⟩⟩
  · refine congrArg Host.Outcome.next (if_neg ?_)
    rintro ⟨-, h1, h2⟩
    rcases hn with h | h
    · simp [State.hubReady, h] at h1
    · simp [h] at h2
  · have hst : (s.port p).state = .empty := hs
    rw [exec_detectChange_level hh hr ho hd (by simp [hst])]
    exact congrArg Host.Outcome.next ((State.settlePort_empty (s := s.levelSeen p level) hst level).trans (if_pos hf))
  · have hst : (s.port p).state = .empty := hs
    rw [exec_detectChange_level hh hr ho hd (by simp [hst])]
    exact congrArg Host.Outcome.next ((State.settlePort_empty (s := s.levelSeen p level) hst level).trans
      (if_neg (by rw [State.levelSeen_fault, hf]; decide)))
  · rw [exec_detectChange_taken hd hr hh]
    exact congrArg Host.Outcome.next (State.detectInput_settling (s := s.levelSeen p level) hs ho)
  · subst ho
    rw [exec_detectChange_taken hd hr hh]
    exact congrArg Host.Outcome.next (State.detectInput_settling_open (s := s.levelSeen p .openCircuit) hs)
  · rw [exec_debounceExpiry_due hh hs ht, State.settled_level3 hs hd]
    have hdet : (s.port p).detect = .level3 := hd
    unfold portNotice
    rw [show ((s.port p).toIdentifying s.now).detect = .level3 from hdet]
    rfl
  · intro hd kind generation
    have hplain := State.settled_plain (s := s) hd
    obtain ⟨hatt, hm, hfr⟩ := State.activate_motor (p := p)
      (s := s.setPort p { s.port p with device := some (plainDevice (plainKind (s.port p).detect)), mode := none })
      (d := plainDevice (plainKind (s.port p).detect)) (by rw [State.setPort_port_self]; exact .inl hs)
      (by rw [State.setPort_port_self])
      (by rcases hd with h | h <;> simp [plainKind, plainDevice, Drives, show (s.port p).detect = _ from h])
    rw [← hplain] at hatt hm hfr
    refine ⟨s.settled p, exec_debounceExpiry_due hh hs ht, ?_, ?_, fun q hq => ⟨?_, ?_⟩, hatt.sample, hatt.view,
      fun c hc => ⟨hatt.samples c hc, fun l => hatt.views l c hc⟩, ?_⟩
    · rw [hatt.port, State.setPort_port_self]
      rfl
    · rw [hm, if_pos rfl]
      rfl
    · exact (hatt.ports q hq).trans ((State.setPort_port s p q _).trans (if_neg hq))
    · rw [hm, if_neg hq]
      rfl
    · have hl := congrArg State.links (State.setPort_toldAttach s p
        { s.port p with device := some (plainDevice (plainKind (s.port p).detect)), mode := none }
        (show (s.port p).state = _ from hs))
      rw [hfr, hl]
      rfl

end Sys2Proof.Machine

/-! PROOF of O30: VIEW SET (R83, R84, R90, R93, R109). -/

namespace Sys2Proof.Machine

section ViewSet
variable {s t : State} {l : Link} {tag : Byte} {n : Nat} {b : List Byte} {c : Chan}

/-! ### The request in hand -/

theorem State.taken_disarmSlot (s : State) (l k : Link) (n i : Nat) (c : Chan) (why : DisarmReason) :
    (s.taken l n).disarmSlot k c why i = (s.disarmSlot k c why i).taken l n := by
  have hw : (s.taken l n).watch k i = s.watch k i := rfl
  unfold State.disarmSlot
  rw [hw]
  cases s.watch k i with
  | none => rfl
  | some w =>
    by_cases h : w.chan = c
    · simp only [h, if_true]
      rfl
    · simp only [h, if_false]

theorem State.taken_disarm (s : State) (l k : Link) (n : Nat) (c : Chan) (why : DisarmReason) :
    (s.taken l n).disarm k c why = (s.disarm k c why).taken l n := by
  rw [State.disarm_eq, State.disarm_eq]
  induction slots generalizing s with
  | nil => rfl
  | cons i rest ih => rw [List.foldl_cons, List.foldl_cons, State.taken_disarmSlot, ih]

theorem State.taken_up (s : State) (l k : Link) (n : Nat) : ((s.taken l n).link k).up = (s.link k).up := by
  unfold State.taken
  rw [State.setLink_link]
  split
  · rename_i h
    rw [h]
    rfl
  · rfl

theorem State.taken_recompute (s : State) (l : Link) (n : Nat) (c : Chan) :
    (s.taken l n).recompute c = (s.recompute c).taken l n := by
  cases c with
  | internal =>
    have h : (s.taken l n).internalSettings = s.internalSettings :=
      State.internalSettings_congr rfl (fun k => s.taken_up l k n) rfl
    show (s.taken l n).recomputeI = _
    unfold State.recomputeI
    rw [h]
    rfl
  | port p =>
    have hp : (s.taken l n).port p = s.port p := rfl
    have h : (s.taken l n).recomputed p (s.port p) = s.recomputed p (s.port p) := by
      unfold State.recomputed
      rw [State.sensorInterval_congr (s := s) (t := s.taken l n) rfl (fun k => s.taken_up l k n)]
    show (s.taken l n).recomputePort p = (s.recomputePort p).taken l n
    rw [State.recomputePort_frame, State.recomputePort_frame, hp, h]
    rfl

/-! ### The view, the watches and the shared settings -/

/-- The view that VIEW SET leaves, its output cleared where it is turned off (R90, R93). -/
def State.viewLeft (s : State) (l : Link) (c : Chan) (b : List Byte) : View :=
  let v := (s.view l c).setTo (decide (c = .internal)) b
  if v.interval = 0 then v.clearOutput (s.valueCount c) else v

/-- The view is set and its watches are DISARMED; the shared settings are still to be recomputed. -/
def State.viewTold (s : State) (l : Link) (c : Chan) (b : List Byte) : State :=
  (s.setView l c (s.viewLeft l c b)).disarm l c .view

theorem State.setViewOf_eq (s : State) (l : Link) (c : Chan) (b : List Byte) :
    s.setViewOf l c b = (s.viewTold l c b).recompute c := rfl

theorem State.taken_setViewOf (s : State) (l : Link) (n : Nat) (c : Chan) (b : List Byte) :
    (s.taken l n).setViewOf l c b = (s.setViewOf l c b).taken l n := by
  have hv : (s.taken l n).viewLeft l c b = s.viewLeft l c b := by cases c <;> rfl
  rw [State.setViewOf_eq, State.setViewOf_eq, ← State.taken_recompute]
  unfold State.viewTold
  rw [hv, ← State.taken_disarm]
  rfl

theorem State.viewTold_frame (s : State) (l : Link) (c : Chan) (b : List Byte) : s.viewTold l c b = { s with
    views := (s.setView l c (s.viewLeft l c b)).views, watches := (s.viewTold l c b).watches } := by
  have h := (s.setView l c (s.viewLeft l c b)).disarm_frame l c .view
  unfold State.viewTold
  generalize (s.setView l c (s.viewLeft l c b)).disarm l c .view = t at h ⊢
  rw [h]
  rfl

theorem State.recompute_frame (s : State) (c : Chan) : s.recompute c = { s with
    ports := (s.recompute c).ports, sharedI := (s.recompute c).sharedI } := by
  cases c with
  | internal => rfl
  | port p =>
    show s.recomputePort p = { s with ports := (s.recomputePort p).ports, sharedI := (s.recomputePort p).sharedI }
    rw [State.recomputePort_frame]
    rfl

/-- VIEW SET reaches the views, the watches, the port records and the shared settings alone. -/
theorem State.setViewOf_frame (s : State) (l : Link) (c : Chan) (b : List Byte) : s.setViewOf l c b = { s with
    ports := (s.setViewOf l c b).ports, views := (s.setView l c (s.viewLeft l c b)).views
    watches := (s.viewTold l c b).watches, sharedI := (s.setViewOf l c b).sharedI } := by
  have h1 := s.viewTold_frame l c b
  have h2 := (s.viewTold l c b).recompute_frame c
  rw [State.setViewOf_eq]
  generalize (s.viewTold l c b).recompute c = t at h2 ⊢
  rw [h2]
  generalize s.viewTold l c b = u at h1 ⊢
  rw [h1]

theorem State.setViewOf_view (s : State) (l j : Link) (c x : Chan) (b : List Byte) :
    (s.setViewOf l c b).view j x = if j = l ∧ x = c then s.viewLeft l c b else s.view j x := by
  rw [State.view, State.setViewOf_frame]
  exact s.setView_view l j c x _

theorem State.setViewOf_watch (s : State) (l : Link) (c : Chan) (b : List Byte) {i : Nat} (hi : i ≤ 7) :
    (s.setViewOf l c b).watch l i = (s.watch l i).map (fun w => w.disarmedOn c .view) := by
  rw [State.watch, State.setViewOf_frame]
  exact ((s.setView l c (s.viewLeft l c b)).disarm_watch l c .view l hi).trans (if_pos rfl)

theorem State.setViewOf_watches (s : State) {l j : Link} (h : j ≠ l) (c : Chan) (b : List Byte) :
    (s.setViewOf l c b).watches.get j = s.watches.get j := by
  rw [State.setViewOf_frame]
  exact (s.setView l c (s.viewLeft l c b)).disarm_other l c .view h

theorem State.setViewOf_sharedI (s : State) (l : Link) (c : Chan) (b : List Byte) : (s.setViewOf l c b).sharedI =
    if c = .internal then (s.setViewOf l c b).recomputeI.sharedI else s.sharedI := by
  cases c with
  | internal =>
    rw [if_pos rfl]
    show (s.viewTold l .internal b).internalSettings = (s.setViewOf l .internal b).internalSettings
    exact State.internalSettings_congr rfl (fun _ => rfl) rfl
  | port p =>
    rw [if_neg (by simp), State.setViewOf_eq]
    show ((s.viewTold l (.port p) b).recomputePort p).sharedI = s.sharedI
    rw [State.recomputePort_frame, State.viewTold_frame]
    rfl

theorem State.setViewOf_port_eq (s : State) (l : Link) (c : Chan) (b : List Byte) (p : Port) : (s.setViewOf l c b).port p =
    if c = .port p then (s.setViewOf l c b).recomputed p (s.port p) else s.port p := by
  have hu : ∀ q, (s.viewTold l c b).port q = s.port q := fun q => by rw [State.viewTold_frame]; rfl
  cases c with
  | internal =>
    rw [if_neg (by simp), ← hu p]
    rfl
  | port q =>
    have hr : (s.viewTold l (.port q) b).recomputed q (s.port q) = (s.setViewOf l (.port q) b).recomputed q (s.port q) := by
      unfold State.recomputed
      rw [State.sensorInterval_congr (s := s.viewTold l (.port q) b) (t := s.setViewOf l (.port q) b)]
      · rw [State.setViewOf_frame, State.viewTold_frame]
      · intro k
        rw [State.setViewOf_frame, State.viewTold_frame]
        rfl
    show ((s.viewTold l (.port q) b).recomputePort q).port p = _
    rw [State.recomputePort_frame, State.setPort_port, hu, hr, hu]
    by_cases h : p = q
    · rw [if_pos h, h, if_pos rfl]
    · rw [if_neg h, if_neg fun e => h (by injection e with e; exact e.symm)]

/-! ### The request -/

/-- The checks of VIEW SET (R33, R90). -/
def State.viewChecks (s : State) (b : List Byte) : List (Bool × Judgement) :=
  [(viewFields b, .parameterError), (decide (6 < u8 b 0), .portError)] ++ s.chanChecks (u8 b 0) (u8 b 1)

/-- A channel of a port that passes the checks is ACTIVE (R33). -/
theorem State.active_of_viewChecks {p : Port} (h : judge (s.viewChecks b) = none) (hc : chanOf (u8 b 0) = .port p) :
    (s.port p).state = .active := by
  have hx : u8 b 0 ≤ 6 := field_le_of_judge h
  have h6 : u8 b 0 ≠ 6 := fun e => by
    rw [chanOf_eq hx, if_pos e] at hc
    cases hc
  rw [chanOf_eq hx, if_neg h6] at hc
  obtain rfl : portOf (u8 b 0) = p := by injection hc
  have := judge_eq_none.mp h (!s.active (portOf (u8 b 0)), .portError) (by
    simp [State.viewChecks, State.chanChecks, h6, State.portChecks])
  simpa [State.active] using this

theorem State.viewLeft_on (h : u16 b 2 ≠ 0) : s.viewLeft l c b = (s.view l c).setTo (decide (c = .internal)) b :=
  if_neg (show ¬ min (u16 b 2) 60000 = 0 by omega)

theorem State.viewLeft_off (h : u16 b 2 = 0) : s.viewLeft l c b =
    ((s.view l c).setTo (decide (c = .internal)) b).clearOutput (s.valueCount c) :=
  if_pos (show min (u16 b 2) 60000 = 0 by omega)

theorem State.viewSet_taken (s : State) (l : Link) (n : Nat) (b : List Byte) :
    State.viewSet ⟨l, n⟩ b (s.taken l n) = (s.taken l n).check ⟨l, n⟩ (s.viewChecks b) fun t =>
      (t.setViewOf l (chanOf (u8 b 0)) b).complete ⟨l, n⟩ ((t.setViewOf l (chanOf (u8 b 0)) b).viewSetBody l (chanOf (u8 b 0))) :=
  rfl

theorem State.viewSetBody_taken (t : State) (l : Link) (n : Nat) (c : Chan) :
    (t.taken l n).viewSetBody l c = t.viewSetBody l c := by cases c <;> rfl

theorem exec_viewSet_done (h : s.Waits l tag .viewSet n b) (hj : judge (s.viewChecks b) = none) (hc : chanOf (u8 b 0) = c) :
    exec (.viewSet l tag) s = .next ((s.setViewOf l c b).answered l tag .viewSet n .normalCompletion
      ((s.setViewOf l c b).viewSetBody l c)) := by
  subst hc
  have hl : (s.setViewOf l (chanOf (u8 b 0)) b).links = s.links := by rw [State.setViewOf_frame]
  refine congrArg _ (State.serve_done h (s.viewSet_taken l n b) hj (t := s.setViewOf l (chanOf (u8 b 0)) b)
    (h.of_links hl) ?_)
  rw [State.taken_setViewOf, State.viewSetBody_taken]

theorem State.viewLeft_interval (s : State) (l : Link) (c : Chan) (b : List Byte) :
    (s.viewLeft l c b).interval = min (u16 b 2) 60000 := by
  unfold State.viewLeft
  dsimp only
  split <;> rfl

theorem State.viewSetBody_eq (s : State) (l : Link) (c : Chan) (b : List Byte) :
    let t := s.setViewOf l c b
    let us := t.chosenInterval c
    t.viewSetBody l c = e32 us ++ e16 (if u16 b 2 ≠ 0 then max 1 (min (u16 b 2) 60000 * 1000 / us) else 0) ++
      (if c = .internal then e16 t.sharedI.accelRange ++ e16 t.sharedI.gyroRange else [0#8, 0#8, 0#8, 0#8]) := by
  intro t us
  have hi : (t.view l c).interval = min (u16 b 2) 60000 := by
    rw [State.setViewOf_view, if_pos ⟨rfl, rfl⟩, State.viewLeft_interval]
  have hon : (if (t.view l c).interval = 0 then 0 else divisor (t.view l c).interval us) =
      if u16 b 2 ≠ 0 then max 1 (min (u16 b 2) 60000 * 1000 / us) else 0 := by
    rw [hi]
    by_cases h0 : u16 b 2 = 0
    · rw [if_pos (by omega), if_neg (not_not.mpr h0)]
    · rw [if_neg (by omega), if_pos h0]
      rfl
  unfold State.viewSetBody
  rw [← hon]
  cases c <;> rfl

end ViewSet

/-- Settles O30, by the view that is set, the watches that it disarms and the settings recomputed after it. -/
theorem viewSetAnswered : Obligations.ViewSetAnswered := by
  intro s l tag n b h c k v on interval up checks
  have hc : checks = s.viewChecks b := by
    simp only [checks, State.viewChecks, State.chanGuard_eq, viewFields, Bool.decide_or, Bool.decide_and, Bool.or_assoc]
    rfl
  rw [hc]
  refine ⟨fun j hj => congrArg _ (State.serve_refused h (s.viewSet_taken l n b) hj), fun hj => ?_⟩
  have hx : u8 b 0 ≤ 6 := field_le_of_judge hj
  have hch : chanOf (u8 b 0) = c := chanOf_eq hx
  clear_value c
  refine ⟨s.setViewOf l c b, ?_, ?_, fun j x hjx => ?_, fun i hi => s.setViewOf_watch l c b hi,
    fun j hj => s.setViewOf_watches hj c b, s.setViewOf_sharedI l c b, fun p hp => ?_, fun p d m x hcp hd hk hm hx => ?_, ?_⟩
  · rw [exec_viewSet_done h hj hch, State.viewSetBody_eq]
    cases c <;> rfl
  · rw [State.setViewOf_view, if_pos ⟨rfl, rfl⟩]
    by_cases h0 : u16 b 2 = 0
    · rw [State.viewLeft_off h0, if_neg (not_not.mpr h0), if_neg (not_not.mpr h0)]
      cases c <;> rfl
    · rw [State.viewLeft_on h0, if_pos h0, if_pos h0]
      cases c <;> rfl
  · rw [State.setViewOf_view, if_neg (by rintro ⟨rfl, rfl⟩; simp at hjx)]
  · rw [State.setViewOf_port_eq]
    split
    · rename_i hcp
      exact State.recomputed_other (.inr (hp.resolve_left (not_not.mpr hcp)))
    · rfl
  · intro us
    rw [State.setViewOf_port_eq, if_pos hcp]
    exact State.recomputed_sensor _ p (State.active_of_viewChecks hj (hch.trans hcp)) hd hk hm hx
  · have hf := s.setViewOf_frame l c b
    generalize s.setViewOf l c b = t at hf ⊢
    rw [hf]

end Sys2Proof.Machine

/-! SUPPORT. Messages on a device line (R22, R23), and what a sample that passes through the views leaves as it is (R86,
R107, R108). -/

namespace Sys2Proof.Machine

/-! ### Device-line messages (R22, R23) -/

section Line
variable {s t : State} {p : Port} {g : LineMessage} {rule : State → Option State}

/-- The check byte of a message as the claims spell it (R22). -/
def lineSum (g : LineMessage) : Byte :=
  (g.kind :: BitVec.ofNat 8 g.body.length :: g.body).foldl (fun x y => x ^^^ y) 0xFF#8

theorem LineMessage.good_iff (g : LineMessage) : LineMessage.good g = true ↔ g.check = lineSum g := decide_eq_true_iff

theorem State.lineMessage_closed (h : (s.port p).line = .closed) : s.lineMessage p g rule = s := if_pos h

theorem State.lineMessage_bad (h : (s.port p).line ≠ .closed) (hg : g.check ≠ lineSum g) :
    s.lineMessage p g rule = s.setPort p (s.port p).countCheckError :=
  (if_neg h).trans (if_neg fun e => hg ((LineMessage.good_iff g).mp e))

theorem State.lineMessage_good (h : (s.port p).line ≠ .closed) (hg : g.check = lineSum g) : s.lineMessage p g rule =
    (rule (s.setPort p (s.port p).countReceived)).getD (s.setPort p (s.port p).countReceived.countUnexpected) := by
  refine (if_neg h).trans ((if_pos ((LineMessage.good_iff g).mpr hg)).trans ?_)
  dsimp only
  rw [State.setPort_port_self, State.setPort_setPort]

/-- A message that the state and stage of the port expect. -/
theorem State.lineMessage_taken (h : (s.port p).line ≠ .closed) (hg : g.check = lineSum g)
    (hr : rule (s.setPort p (s.port p).countReceived) = some t) : s.lineMessage p g rule = t := by
  rw [State.lineMessage_good h hg, hr, Option.getD_some]

/-- A message that they do not expect. -/
theorem State.lineMessage_odd (h : (s.port p).line ≠ .closed) (hg : g.check = lineSum g)
    (hr : rule (s.setPort p (s.port p).countReceived) = none) :
    s.lineMessage p g rule = s.setPort p (s.port p).countReceived.countUnexpected := by
  rw [State.lineMessage_good h hg, hr, Option.getD_none]

end Line

/-! ### Samples (R79, R86, R107) -/

section Samples
variable {s t u : State} {l : Link} {c : Chan} {x : Sample} {k : Nat}

/-- What a sample reaches beyond the record of its channel: the views and, by the watches that fire, the watches, the
channels, the pairs and the links. -/
def State.SampleOnly (s t : State) : Prop :=
  t = { s with links := t.links, motors := t.motors, pairs := t.pairs, views := t.views, watches := t.watches }

theorem State.SampleOnly.refl (s : State) : s.SampleOnly s := rfl

theorem State.SampleOnly.trans (h : s.SampleOnly t) (k : t.SampleOnly u) : s.SampleOnly u := by
  unfold State.SampleOnly at h k ⊢
  rw [k, h]

theorem State.MotionOnly.sampleOnly (h : s.MotionOnly t) : s.SampleOnly t := by
  unfold State.MotionOnly at h
  unfold State.SampleOnly
  rw [h]

theorem State.SampleOnly.carryOut (s : State) (a : WatchAction) : s.SampleOnly (s.carryOut a) := by
  unfold State.carryOut
  split
  · exact .refl s
  · exact (State.MotionOnly.endEnter s _ _ _ _).sampleOnly
  · split
    · exact .refl s
    · exact (State.MotionOnly.endEnter s _ _ _ _).sampleOnly

theorem State.SampleOnly.fireWatch (s : State) (l : Link) (n : Nat) : s.SampleOnly (s.fireWatch l n) := by
  have h1 : ∀ w b, s.SampleOnly ((s.setWatch l n w).notify l b) := fun w b =>
    (show s.SampleOnly (s.setWatch l n w) from rfl).trans ((State.LinksOnly.refl _).notify l b).motion.sampleOnly
  unfold State.fireWatch
  dsimp only
  split
  · exact .refl s
  · split
    · split
      · exact (h1 _ _).trans (.carryOut _ _)
      · exact h1 _ _
    · exact .refl s

theorem State.SampleOnly.evalWatch (s : State) (l : Link) (c : Chan) (n : Nat) : s.SampleOnly (s.evalWatch l c n) := by
  have h1 : ∀ w, s.SampleOnly (s.setWatch l n w) := fun _ => rfl
  have h2 := fun w => (h1 w).trans (.fireWatch _ l n)
  unfold State.evalWatch
  split
  · exact .refl s
  · split
    · dsimp only
      split
      case h_1 => split; exacts [h2 _, .refl s]
      case h_2 => split; exacts [h2 _, h1 _]
      case h_3 => split; exacts [h1 _, .refl s]
      case h_4 => exact .refl s
    · exact .refl s

theorem State.SampleOnly.viewTaken (s : State) (l : Link) (c : Chan) : s.SampleOnly (s.viewTaken l c) := by
  have h1 : ∀ v, s.SampleOnly (s.setView l c v) := fun _ => rfl
  unfold State.viewTaken
  dsimp only
  split
  · exact .refl s
  · split
    · exact List.foldlRecOn _ _ (h1 _) fun _ ht n _ => ht.trans (.evalWatch _ l c n)
    · exact h1 _

theorem State.SampleOnly.sampleTaken (s : State) (c : Chan) (x : Sample) : (s.setSample c x).SampleOnly (s.sampleTaken c x) :=
  (State.SampleOnly.viewTaken _ .pl c).trans (.viewTaken _ .tl c)

theorem State.sampleTaken_port (s : State) (c : Chan) (x : Sample) (p : Port) : (s.sampleTaken c x).port p = s.port p := by
  rw [State.SampleOnly.sampleTaken s c x]
  rfl

theorem State.sampleTaken_sample (s : State) (c : Chan) (x : Sample) (y : Chan) :
    (s.sampleTaken c x).sample y = if y = c then x else s.sample y := by
  rw [State.SampleOnly.sampleTaken s c x]
  exact PerChan.get_set _ _ _ _

/-- With both views off, only the record is taken. -/
theorem State.sampleTaken_off (h : ∀ l, (s.view l c).interval = 0) (x : Sample) : s.sampleTaken c x = s.setSample c x := by
  have hv : ∀ l, (s.setSample c x).viewTaken l c = s.setSample c x := fun l => if_pos (h l)
  unfold State.sampleTaken
  rw [hv, hv]

/-! ### Watches that are DISARMED take no part (R107, R109) -/

/-- Every watch of the channel is DISARMED, in both links' slots. -/
def State.Disarmed (s : State) (c : Chan) : Prop :=
  ∀ l k w, k ≤ 7 → s.watch l k = some w → w.chan = c → w.state = .disarmed

theorem State.evalWatch_disarmed (h : s.Disarmed c) (hk : k ≤ 7) : s.evalWatch l c k = s := by
  unfold State.evalWatch
  cases hw : s.watch l k with
  | none => rfl
  | some w =>
    by_cases hc : w.chan = c
    · simp only [hc, if_true, h l k w hk hw hc]
    · simp only [hc, if_false]

theorem State.viewTaken_disarmed (h : s.Disarmed c) : ∃ v, s.viewTaken l c = s.setView l c v := by
  have hev : ∀ v : View, [0, 1, 2, 3, 4, 5, 6, 7].foldl (fun u k => u.evalWatch l c k) (s.setView l c v) = s.setView l c v :=
    fun v => List.foldlRecOn (motive := fun u => u = s.setView l c v) _ _ rfl fun u hu k hk => by
      rw [hu]
      refine State.evalWatch_disarmed (s := s.setView l c v) h ?_
      simp only [List.mem_cons, List.not_mem_nil, or_false] at hk
      omega
  unfold State.viewTaken
  dsimp only
  by_cases h0 : (s.view l c).interval = 0
  · refine ⟨s.view l c, (if_pos h0).trans ?_⟩
    unfold State.setView State.view
    rw [PerChan.set_get, PerLink.set_get]
  · rw [if_neg h0, hev, ite_self]
    exact ⟨_, rfl⟩

theorem State.sampleTaken_disarmed (h : s.Disarmed c) (x : Sample) : s.sampleTaken c x = { s with
    samples := (s.sampleTaken c x).samples, views := (s.sampleTaken c x).views } := by
  obtain ⟨v, hv⟩ := State.viewTaken_disarmed (s := s.setSample c x) (l := .pl) h
  obtain ⟨w, hw⟩ := State.viewTaken_disarmed (s := (s.setSample c x).setView .pl c v) (l := .tl) h
  unfold State.sampleTaken
  rw [hv, hw]
  rfl

/-- Such a sample tells nothing and stops nothing. -/
theorem State.sampleTaken_quiet (h : s.Disarmed c) (x : Sample) : (s.sampleTaken c x).links = s.links ∧
    (s.sampleTaken c x).motors = s.motors ∧ (s.sampleTaken c x).watches = s.watches := by
  rw [State.sampleTaken_disarmed h x]
  exact ⟨rfl, rfl, rfl⟩

theorem State.disarmBoth_disarmed (s : State) (c : Chan) (why : DisarmReason) : (s.disarmBoth c why).Disarmed c := by
  intro l k w hk hw hc
  rw [State.disarmBoth_watch s c why l hk] at hw
  obtain ⟨y, -, rfl⟩ := Option.map_eq_some_iff.mp hw
  unfold Watch.disarmedOn at hc ⊢
  by_cases hy : y.chan = c
  · rw [if_pos hy]
  · rw [if_neg hy] at hc
    exact absurd hc hy

end Samples

end Sys2Proof.Machine

/-! PROOF of O17: the supervision of an ACTIVE sensor and its mode changes (R28, R29, R31, R38). -/

namespace Sys2Proof.Machine

section Supervision
variable {s t v : State} {p : Port} {d : DeviceRecord} {m : Nat} {vs : List Int} {x : ModeRecord} {w : PendingMode}
  {bound : Option (Nat × Pair)}

/-! ### Timers (R29, R38) -/

theorem State.supervised_iff : s.supervised p = true ↔ (s.port p).state = .active ∧
    (s.port p).device.map (fun d => d.kind) = some .sensor ∧ (s.port p).pendingMode = none := by
  simp [State.supervised, State.active, State.classOf, and_assoc]

theorem exec_nudge_due (hh : s.hub.held = false) (hs : s.supervised p = true) (hn : (s.port p).nudgedAt = none)
    (ht : 4 * (s.port p).superviseMs + 100 ≤ (s.hub.time - (s.port p).lastData).toNat) : exec (.nudge p) s =
      .next (s.setPort p { (s.port p).countNudge with
        nudgedAt := some s.hub.time, healthyFrom := s.hub.time, sent := [.nudge] }) := by
  refine congrArg Host.Outcome.next ((State.unlessHeld_free hh _).trans ((if_pos ⟨hs, hn⟩).trans ?_))
  rw [State.expire_done ht]
  rfl

theorem exec_nudge_unsupervised (hh : s.hub.held = false) (hs : ¬ s.supervised p = true) : exec (.nudge p) s = .next s :=
  congrArg Host.Outcome.next ((State.unlessHeld_free hh _).trans (if_neg fun h => hs h.1))

theorem exec_silentPath_unsupervised (hh : s.hub.held = false) (hs : ¬ s.supervised p = true) :
    exec (.silentPath p) s = .next s := by
  refine congrArg Host.Outcome.next ((State.unlessHeld_free hh _).trans ?_)
  split
  · exact if_neg hs
  · rfl

theorem exec_silentRetryClear_due (hh : s.hub.held = false) (ha : (s.port p).state = .active)
    (hr : (s.port p).silentRetry = true) (ht : 10000 ≤ (s.hub.time - (s.port p).healthyFrom).toNat) :
    exec (.silentRetryClear p) s = .next (s.setPort p { s.port p with silentRetry := false }) := by
  have hc : s.active p = true ∧ (s.port p).silentRetry = true := ⟨by simp [State.active, ha], hr⟩
  refine congrArg Host.Outcome.next ((State.unlessHeld_free hh _).trans ((if_pos hc).trans ?_))
  rw [State.expire_done ht]

theorem exec_silentRetryClear_clear (hh : s.hub.held = false) (hr : (s.port p).silentRetry = false) :
    exec (.silentRetryClear p) s = .next s :=
  congrArg Host.Outcome.next ((State.unlessHeld_free hh _).trans (if_neg fun h => by simp [hr] at h))

theorem exec_modeChangeTimeout_none (hh : s.hub.held = false) (hw : (s.port p).pendingMode = none) :
    exec (.modeChangeTimeout p) s = .next s := by
  refine congrArg Host.Outcome.next ((State.unlessHeld_free hh _).trans ?_)
  simp only [hw]

/-- SELECT MODE is answered DEVICE TIMEOUT: what stands before the silent path (R38). -/
def State.modeRefused (s : State) (p : Port) (w : PendingMode) : State :=
  (s.setPort p { s.port p with pendingMode := none }).refuse w.ticket .deviceTimeout

theorem exec_modeChangeTimeout_due (hh : s.hub.held = false) (hw : (s.port p).pendingMode = some w)
    (ht : 100 ≤ (s.hub.time - (s.port p).waitFrom).toNat) : exec (.modeChangeTimeout p) s =
      .next (if (s.port p).secondWait then (s.modeRefused p w).silent p
        else s.setPort p { s.port p with sent := [.selectMode w.mode], waitFrom := s.hub.time, secondWait := true }) := by
  refine congrArg Host.Outcome.next ((State.unlessHeld_free hh _).trans ?_)
  simp only [hw, State.expire_done ht]
  rfl

/-! ### The silent path after a mode change (R29, R31, R38) -/

/-- A departure does not read the record that departs but for its generation. -/
theorem State.Departed.of_port (h : v.Departed t p bound) (hg : (v.port p).generation = (s.port p).generation)
    (hp : ∀ y, y ≠ p → v.port y = s.port y) (hv : v = { s with links := v.links, ports := v.ports }) :
    s.Departed t p bound where
  holder := h.holder
  pending := h.pending
  mode := h.mode
  interval := h.interval
  device := h.device
  generation := h.generation.trans hg
  motor := by rw [h.motor, hv]; rfl
  partner k q hb y hq hy := by rw [h.partner k q hb y hq hy, hv]; rfl
  pairs := by
    have hpairs : t.pairs = (s.unbound bound).pairs := by
      rw [h.pairs_unbound, State.unbound_pairs, State.unbound_pairs, hv]
    cases bound <;> exact hpairs
  views l := by rw [h.views, hv]; rfl
  watches l k hk := by rw [h.watches l k hk, hv]; rfl
  ports y hy := (h.ports y hy).trans (hp y hy)
  motors y hy hb := by rw [h.motors y hy hb, hv]; rfl
  channels l c hc := by rw [h.channels l c hc, hv]; rfl
  rest := by rw [h.rest, hv]

theorem State.modeRefused_port (s : State) (p : Port) (w : PendingMode) (y : Port) : (s.modeRefused p w).port y =
    if y = p then { s.port p with pendingMode := none } else s.port y :=
  State.setPort_port s p y _

theorem State.setPort_notifyAll (s : State) (p : Port) (r : PortRec) (ys : List (Link × NoticeBody)) :
    (s.setPort p r).notifyAll ys = (s.notifyAll ys).setPort p r := by
  unfold State.notifyAll
  induction ys generalizing s with
  | nil => rfl
  | cons y rest ih => simp only [List.foldl_cons, State.setPort_notify, ih]

theorem State.Binding.modeRefused (h : s.Binding p bound) (w : PendingMode) : (s.modeRefused p w).Binding p bound := by
  cases bound with
  | none => exact h
  | some b => exact ⟨⟨h.1.entry, h.1.ports, h.1.pair, h.1.second, h.1.commands⟩, h.2⟩

theorem State.modeRefused_boundEndings (s : State) (p : Port) (w : PendingMode) (o : EndOutcome)
    (bound : Option (Nat × Pair)) : (s.modeRefused p w).boundEndings p o bound = s.boundEndings p o bound := by
  have hc : ∀ y, (s.modeRefused p w).cpr y = s.cpr y := fun y => by
    unfold State.cpr State.motorPart
    rw [State.modeRefused_port]
    split
    · rename_i hy
      rw [hy]
    · rfl
  have hm : ∀ y, (s.modeRefused p w).motor y = s.motor y := fun _ => rfl
  cases bound with
  | none => simp only [State.boundEndings, State.endings, State.doneNotice, hc, hm]
  | some b => simp only [State.boundEndings, State.pairEndings, State.pairEnd, State.pairNotice, hc, hm]

theorem State.modeRefused_departing (s : State) (p : Port) (w : PendingMode) (bound : Option (Nat × Pair))
    (y : NoticeBody) : ((s.modeRefused p w).departing p bound y).links =
      (((s.refuse w.ticket .deviceTimeout).notifyBoth y).notifyAll (s.boundEndings p .removed bound)).links := by
  have hu : ((s.modeRefused p w).notifyBoth y).unasked p = (s.modeRefused p w).notifyBoth y := by
    unfold State.unasked
    rw [State.notifyBoth_port, State.modeRefused_port, if_pos rfl]
  have hr : s.modeRefused p w = (s.refuse w.ticket .deviceTimeout).setPort p { s.port p with pendingMode := none } := rfl
  rw [State.departing_eq, hu, State.modeRefused_boundEndings, hr, State.setPort_notifyBoth, State.setPort_notifyAll]
  rfl

theorem State.Binding.modeTimedOut (h : s.Binding p bound) (ha : (s.port p).state = .active) (w : PendingMode) :
    let r : PortRec := { s.port p with pendingMode := none }
    let t := (s.modeRefused p w).silent p
    s.Departed t p bound ∧ t.port p = r.toSilent s.now ∧ t.pins = s.pins ∧
      t.links = (((s.refuse w.ticket .deviceTimeout).notifyBoth (portNotice p (r.toSilent s.now) .active)).notifyAll
        (s.boundEndings p .removed bound)).links := by
  intro r t
  have hp : (s.modeRefused p w).port p = r := (s.modeRefused_port p w p).trans (if_pos rfl)
  obtain ⟨hd, hport, hpins, hlinks⟩ := (h.modeRefused w).silent (by rw [hp]; exact ha)
  rw [State.modeRefused_departing, hp] at hlinks
  rw [hp] at hport
  exact ⟨hd.of_port (by rw [hp]) (fun y hy => (s.modeRefused_port p w y).trans (if_neg hy)) rfl, hport, hpins, hlinks⟩

/-! ### DATA (R28, R38) -/

theorem State.data_miscounted (h : (s.port p).countOf m ≠ some vs.length) : s.data p m vs = none := if_pos h

theorem State.data_supervised (ha : (s.port p).state = .active) (h : (s.port p).countOf m = some vs.length)
    (hw : (s.port p).pendingMode = none) :
    s.data p m vs = if (s.port p).mode = some m then some (s.dataTaken p m vs) else none := by
  unfold State.data
  simp only [h, ha, hw, ne_eq, not_true_eq_false, if_false]

theorem State.data_changing (ha : (s.port p).state = .active) (h : (s.port p).countOf m = some vs.length)
    (hw : (s.port p).pendingMode = some w) : s.data p m vs =
      if m = w.mode then some (s.modeChanged p w vs) else if (s.port p).mode = some m then some s else none := by
  unfold State.data
  simp only [h, ha, hw, ne_eq, not_true_eq_false, if_false]

/-- The sample that DATA in mode `m` is (R79, R80). -/
def dataSample (s : State) (p : Port) (m : Nat) (x : ModeRecord) (vs : List Int) (us : Nat) : Sample :=
  ⟨some m, nextNumber (s.sample (.port p)).sequence, s.now, vs.map (fun v => (scaleRaw x v).1),
    vs.map (fun v => (scaleRaw x v).2), us⟩

theorem State.sensorSample_eq (hx : (s.port p).modeRecord = some x) (m : Nat) (vs : List Int) : s.sensorSample p m vs =
    s.sampleTaken (.port p) (dataSample s p m x vs ((s.port p).interval.getD 0)) := by
  have hm : s.modeRecord p = some x := hx
  unfold State.sensorSample
  simp only [hm, State.takeSample_eq, List.map_map]
  rfl

/-- The record after DATA has been taken: supervision starts again (R28, R29). -/
def PortRec.supervisedFrom (r : PortRec) (now : Word32) : PortRec :=
  { r with lastData := now, superviseMs := r.interval.getD 0 / 1000, nudgedAt := none }

theorem State.restartSupervision_eq (s : State) (p : Port) :
    s.restartSupervision p = s.setPort p ((s.port p).supervisedFrom s.now) := rfl

/-- DATA in the current mode (R28). -/
theorem State.dataTaken_eq {r : PortRec} (hx : r.modeRecord = some x) (m : Nat) (vs : List Int) :
    (s.setPort p r).dataTaken p m vs = (s.setPort p (r.supervisedFrom s.now)).sampleTaken (.port p)
      (dataSample s p m x vs (r.interval.getD 0)) := by
  have hr : (s.setPort p r).restartSupervision p = s.setPort p (r.supervisedFrom s.now) := by
    rw [State.restartSupervision_eq, State.setPort_port_self, State.setPort_setPort]
    rfl
  have hp : ((s.setPort p (r.supervisedFrom s.now)).port p) = r.supervisedFrom s.now := State.setPort_port_self _ _ _
  unfold State.dataTaken
  rw [hr, State.sensorSample_eq (x := x) (by rw [hp]; exact hx), hp]
  rfl

/-! ### A completed mode change (R38, R93, R109) -/

/-- The source interval rests on which views are on and how fast (R83). -/
theorem State.sensorInterval_views (hv : ∀ l, (t.view l (.port p)).interval = (s.view l (.port p)).interval)
    (hu : ∀ l, (t.link l).up = (s.link l).up) (n : Nat) : t.sensorInterval p n = s.sensorInterval p n := by
  simp only [State.sensorInterval, State.wanting, List.map_map, Function.comp_def, hv, hu]

/-- The record of a port whose mode change to `w` completes, before its interval is recomputed (R38). -/
def PortRec.changedTo (r : PortRec) (w : PendingMode) : PortRec := { r with mode := some w.mode, pendingMode := none }

/-- The views of the port restart, with the notice MODE CHANGED handed over. -/
def State.restarted (s : State) (p : Port) (r : PortRec) (y : NoticeBody) : State :=
  ((s.notifyBoth y).setPort p r).bothViews (.port p) View.restart

theorem State.restarted_frame (s : State) (p : Port) (r : PortRec) (y : NoticeBody) : s.restarted p r y = { s with
    ports := s.ports.set p r, views := (s.bothViews (.port p) View.restart).views, links := (s.notifyBoth y).links } := by
  have h : s.LinksOnly (s.notifyBoth y) := ((State.LinksOnly.refl s).notify .pl _).notify .tl _
  unfold State.restarted
  unfold State.LinksOnly at h
  generalize s.notifyBoth y = t at h ⊢
  rw [h]
  rfl

theorem State.restarted_interval (s : State) (p : Port) (r : PortRec) (y : NoticeBody) (n : Nat) :
    (s.restarted p r y).sensorInterval p n = s.sensorInterval p n := by
  have hv : ∀ l, (s.restarted p r y).view l (.port p) = (s.view l (.port p)).restart := fun l => by
    rw [State.view, State.restarted_frame]
    exact (s.bothViews_view (.port p) (.port p) View.restart l).trans (if_pos rfl)
  have hu : ∀ l, ((s.restarted p r y).link l).up = (s.link l).up := fun l => by
    rw [State.link, State.restarted_frame]
    exact s.notifyBoth_link_up l y
  exact State.sensorInterval_views (fun l => by rw [hv]; rfl) hu n

/-- The state before the sample of the new mode (R38): MODE CHANGED is told, the views have restarted, the interval is
recomputed, the watches are DISARMED and supervision starts again. -/
def State.modeEntered (s : State) (p : Port) (r : PortRec) (y : NoticeBody) : State :=
  (((s.restarted p r y).recomputePort p).disarmBoth (.port p) .mode).restartSupervision p

theorem State.modeEntered_spec (s : State) {r : PortRec} (ha : r.state = .active)
    (hk : r.device.map (fun d => d.kind) = some .sensor) (hx : r.modeRecord = some x) (y : NoticeBody) :
    let us := s.sensorInterval p x.minInterval
    let u := s.modeEntered p r y
    u.port p = (r.takeInterval us).supervisedFrom s.now ∧ (∀ q, q ≠ p → u.port q = s.port q) ∧
    (∀ l c, u.view l c = if c = .port p then (s.view l c).restart else s.view l c) ∧ s.DisarmedOn u p .mode ∧
    u.Disarmed (.port p) ∧ u.links = (s.notifyBoth y).links ∧
    u = { s with ports := u.ports, views := u.views, watches := u.watches, links := u.links } := by
  intro us u
  have hfr := s.restarted_frame p r y
  have hrp : (s.restarted p r y).port p = r := by
    rw [hfr]
    exact PerPort.get_set_self _ _ _
  have hrec : (s.restarted p r y).recomputePort p = (s.restarted p r y).setPort p (r.takeInterval us) := by
    rw [State.recomputePort_frame, hrp, State.recomputed_takes _ p ha hk hx, State.restarted_interval]
  have hdis := ((s.restarted p r y).setPort p (r.takeInterval us)).disarmBoth_frame (.port p) .mode
  have hd : s.DisarmedOn (((s.restarted p r y).setPort p (r.takeInterval us)).disarmBoth (.port p) .mode) p .mode :=
    State.DisarmedOn.of_watches (why := .mode) (s := s)
      (u := (s.restarted p r y).setPort p (r.takeInterval us)) (by rw [hfr]; rfl) rfl
  have hd' := ((s.restarted p r y).setPort p (r.takeInterval us)).disarmBoth_disarmed (.port p) .mode
  have hu : u = (((s.restarted p r y).setPort p (r.takeInterval us)).disarmBoth (.port p) .mode).restartSupervision p := by
    rw [← hrec]
    rfl
  clear_value u
  generalize ((s.restarted p r y).setPort p (r.takeInterval us)).disarmBoth (.port p) .mode = v at hdis hd hd' hu
  rw [hfr] at hdis
  have hvp : v.port p = r.takeInterval us := by
    rw [hdis]
    exact PerPort.get_set_self _ _ _
  rw [State.restartSupervision_eq, hvp] at hu
  refine ⟨?_, fun q hq => ?_, fun l c => ?_, ?_, ?_, ?_, ?_⟩
  · rw [hu, State.setPort_port_self, hdis]
    rfl
  · rw [hu, State.setPort_port, if_neg hq, hdis]
    exact (PerPort.get_set_ne _ _ hq).trans (PerPort.get_set_ne _ _ hq)
  · rw [hu, hdis]
    exact s.bothViews_view (.port p) c View.restart l
  · rw [hu]
    exact hd
  · rw [hu]
    exact hd'
  · rw [hu, hdis]
    rfl
  · rw [hu, hdis]
    rfl

theorem State.modeChanged_eq (s : State) (p : Port) (r : PortRec) (w : PendingMode) (vs : List Int) :
    (s.setPort p r).modeChanged p w vs = ((s.modeEntered p (r.changedTo w)
      (.modeChanged p r.generation w.mode r.mode)).sensorSample p w.mode vs).complete w.ticket [] := by
  unfold State.modeChanged
  simp only [State.setPort_port_self, State.setPort_setPort, State.setPort_notifyBoth]
  rfl

theorem State.complete_links (h : t.links = s.links) (k : Ticket) (b : List Byte) :
    (t.complete k b).links = (s.complete k b).links := by
  have hk : t.link k.link = s.link k.link := by rw [State.link, h, State.link]
  unfold State.complete State.respond
  rw [hk]
  show t.links.set k.link _ = s.links.set k.link _
  rw [h]

theorem PortRec.takeInterval_modeRecord (r : PortRec) (us : Nat) : (r.takeInterval us).modeRecord = r.modeRecord := by
  rw [PortRec.takeInterval_eq]
  rfl

/-- DATA in the pending mode, before its sample and the answer to SELECT MODE (R38). -/
theorem State.modeChanged_sampled (s : State) {r : PortRec} (ha : r.state = .active)
    (hk : r.device.map (fun d => d.kind) = some .sensor) (hx : (r.changedTo w).modeRecord = some x) (vs : List Int) :
    let us := s.sensorInterval p x.minInterval
    (s.setPort p r).modeChanged p w vs = ((s.modeEntered p (r.changedTo w)
      (.modeChanged p r.generation w.mode r.mode)).sampleTaken (.port p) (dataSample s p w.mode x vs us)).complete
        w.ticket [] := by
  intro us
  obtain ⟨hp, -, -, -, -, -, hfr⟩ := s.modeEntered_spec (p := p) (r := r.changedTo w) ha hk hx
    (.modeChanged p r.generation w.mode r.mode)
  rw [State.modeChanged_eq]
  generalize s.modeEntered p (r.changedTo w) (.modeChanged p r.generation w.mode r.mode) = u at hp hfr ⊢
  have hrec : (u.port p).modeRecord = some x := by
    rw [hp]
    exact ((r.changedTo w).takeInterval_modeRecord us).trans hx
  have hint : (u.port p).interval.getD 0 = us := by
    rw [hp, PortRec.takeInterval_eq]
    rfl
  have hsample : dataSample u p w.mode x vs us = dataSample s p w.mode x vs us := by
    have hs : u.sample (.port p) = s.sample (.port p) := by rw [hfr]; rfl
    have hn : u.now = s.now := by rw [hfr]; rfl
    unfold dataSample
    rw [hs, hn]
  rw [State.sensorSample_eq hrec, hint, hsample]

/-! ### The row -/

variable {g : LineMessage}

/-- The state in which a good message has been counted (R23). -/
def State.received (s : State) (p : Port) : State := s.setPort p (s.port p).countReceived

theorem State.received_port (s : State) (p : Port) : (s.received p).port p = (s.port p).countReceived :=
  State.setPort_port_self _ _ _

theorem exec_deviceData_taken (hh : s.hub.held = false) (hl : (s.port p).line ≠ .closed) (hg : g.check = lineSum g)
    (hd : (s.received p).data p m vs = some t) : exec (.deviceData p m vs g) s = .next t :=
  congrArg Host.Outcome.next ((State.unlessHeld_free hh _).trans (State.lineMessage_taken hl hg hd))

theorem exec_deviceData_odd (hh : s.hub.held = false) (hl : (s.port p).line ≠ .closed) (hg : g.check = lineSum g)
    (hd : (s.received p).data p m vs = none) :
    exec (.deviceData p m vs g) s = .next (s.setPort p (s.port p).countReceived.countUnexpected) :=
  congrArg Host.Outcome.next ((State.unlessHeld_free hh _).trans (State.lineMessage_odd hl hg hd))

theorem PortRec.countOf_eq {r : PortRec} (hd : r.device = some d) (m : Nat) :
    r.countOf m = d.modes[m]?.map (fun x => x.count) := by
  unfold PortRec.countOf
  rw [hd]
  rfl

/-- DATA that neither the current nor the pending mode expects (R28, R38). -/
theorem State.data_unexpected (ha : (s.port p).state = .active) (hd : (s.port p).device = some d)
    (h : d.modes[m]?.map (fun x => x.count) ≠ some vs.length ∨
      ((s.port p).mode ≠ some m ∧ ∀ w, (s.port p).pendingMode = some w → w.mode ≠ m)) :
    (s.received p).data p m vs = none := by
  have hp := s.received_port p
  have hdev : ((s.received p).port p).device = some d := by rw [hp]; exact hd
  have hact : ((s.received p).port p).state = .active := by rw [hp]; exact ha
  by_cases hc : d.modes[m]?.map (fun x => x.count) = some vs.length
  · obtain ⟨hm, hw⟩ := h.resolve_left (not_not.mpr hc)
    have hmode : ¬ ((s.received p).port p).mode = some m := by rw [hp]; exact hm
    have hcount : ((s.received p).port p).countOf m = some vs.length := (PortRec.countOf_eq hdev m).trans hc
    cases hpend : (s.port p).pendingMode with
    | none => rw [State.data_supervised hact hcount (by rw [hp]; exact hpend), if_neg hmode]
    | some w =>
      rw [State.data_changing hact hcount (by rw [hp]; exact hpend), if_neg (Ne.symm (hw w hpend)), if_neg hmode]
  · refine State.data_miscounted ?_
    rw [PortRec.countOf_eq hdev]
    exact hc

end Supervision

section Data
variable {s : State} {p : Port} {d : DeviceRecord} {m : Nat} {vs : List Int} {x : ModeRecord}

theorem PortRec.countOf_mode {r : PortRec} (hd : r.device = some d) (hx : d.modes[m]? = some x)
    (hc : x.count = vs.length) : r.countOf m = some vs.length := by
  rw [PortRec.countOf_eq hd, hx, ← hc]
  rfl

/-- DATA in the current mode, of an ACTIVE sensor without a pending mode (R28). -/
theorem State.data_current (ha : (s.port p).state = .active) (hd : (s.port p).device = some d)
    (hw : (s.port p).pendingMode = none) (hm : (s.port p).mode = some m) (hx : d.modes[m]? = some x)
    (hc : x.count = vs.length) : (s.received p).data p m vs =
      some ((s.setPort p ((s.port p).countReceived.supervisedFrom s.now)).sampleTaken (.port p)
        (dataSample s p m x vs ((s.port p).interval.getD 0))) := by
  have hp := s.received_port p
  have hmr : (s.port p).countReceived.modeRecord = some x := PortRec.sensor_modeRecord hd hm hx
  rw [State.data_supervised (by rw [hp]; exact ha) (by rw [hp]; exact PortRec.countOf_mode hd hx hc) (by rw [hp]; exact hw),
    if_pos (by rw [hp]; exact hm)]
  show some ((s.setPort p (s.port p).countReceived).dataTaken p m vs) = _
  rw [State.dataTaken_eq hmr]
  rfl

/-- DATA in the pending mode (R38). -/
theorem State.data_completes {w : PendingMode} (ha : (s.port p).state = .active) (hd : (s.port p).device = some d)
    (hk : d.kind = .sensor) (hw : (s.port p).pendingMode = some w) (hm : w.mode = m) (hx : d.modes[m]? = some x)
    (hc : x.count = vs.length) : (s.received p).data p m vs =
      some (((s.modeEntered p ((s.port p).countReceived.changedTo w)
        (.modeChanged p (s.port p).generation m (s.port p).mode)).sampleTaken (.port p)
          (dataSample s p m x vs (s.sensorInterval p x.minInterval))).complete w.ticket []) := by
  subst hm
  have hp := s.received_port p
  have hmr : ((s.port p).countReceived.changedTo w).modeRecord = some x := PortRec.sensor_modeRecord hd rfl hx
  have hclass : (s.port p).countReceived.device.map (fun d => d.kind) = some .sensor := by
    show (s.port p).device.map (fun d => d.kind) = some .sensor
    simp [hd, hk]
  rw [State.data_changing (by rw [hp]; exact ha) (by rw [hp]; exact PortRec.countOf_mode hd hx hc) (by rw [hp]; exact hw),
    if_pos rfl]
  show some ((s.setPort p (s.port p).countReceived).modeChanged p w vs) = _
  rw [State.modeChanged_sampled s (r := (s.port p).countReceived) ha hclass hmr]
  rfl

/-- DATA in the old mode while a change is pending is discarded (R38). -/
theorem State.data_old {w : PendingMode} (ha : (s.port p).state = .active) (hd : (s.port p).device = some d)
    (hw : (s.port p).pendingMode = some w) (hm : w.mode ≠ m) (hr : (s.port p).mode = some m)
    (hc : d.modes[m]?.map (fun x => x.count) = some vs.length) : (s.received p).data p m vs = some (s.received p) := by
  have hp := s.received_port p
  rw [State.data_changing (by rw [hp]; exact ha) (by rw [hp]; exact (PortRec.countOf_eq hd m).trans hc)
    (by rw [hp]; exact hw), if_neg (Ne.symm hm), if_pos (by rw [hp]; exact hr)]

end Data

/-- Settles O17, by the timer that has run out or by the mode of the DATA that arrives. -/
theorem supervisionOfASensor : Obligations.SupervisionOfASensor := by
  intro s p d hh r got odd ha hd hk
  have hclass : (s.port p).device.map (fun d => d.kind) = some .sensor := by
    rw [show (s.port p).device = some d from hd]
    exact congrArg some hk
  have hsup : s.supervised p = true ↔ r.pendingMode = none :=
    State.supervised_iff.trans ⟨fun h => h.2.2, fun h => ⟨ha, hclass, h⟩⟩
  refine ⟨fun hp hn ht => exec_nudge_due hh (hsup.mpr hp) hn ht, fun hr ht => exec_silentRetryClear_due hh ha hr ht,
    fun hr => exec_silentRetryClear_clear hh hr, fun w hw => ?_, fun hw => exec_modeChangeTimeout_none hh hw,
    fun w bound hw h2 ht hb => ?_, fun hl g m vs hg => ?_⟩
  · have hun : ¬ s.supervised p = true := fun h => by
      have := hsup.mp h
      rw [hw] at this
      cases this
    refine ⟨exec_nudge_unsupervised hh hun, exec_silentPath_unsupervised hh hun, fun h2 ht => ?_⟩
    rw [exec_modeChangeTimeout_due hh hw ht, if_neg (by simpa using h2)]
  · obtain ⟨hD, hport, hpins, hlinks⟩ := hb.modeTimedOut ha w
    refine ⟨_, (exec_modeChangeTimeout_due hh hw ht).trans (congrArg Host.Outcome.next (if_pos h2)), hD, hpins, ?_⟩
    rw [hport, hlinks]
    split
    · rename_i hq
      rw [PortRec.toSilent_again (r := { s.port p with pendingMode := none }) hq]
      exact ⟨rfl, rfl, rfl, rfl⟩
    · rename_i hq
      rw [PortRec.toSilent_first (r := { s.port p with pendingMode := none }) hq]
      exact ⟨rfl, rfl, rfl, rfl, rfl, rfl, rfl⟩
  · refine ⟨fun h => exec_deviceData_odd hh hl hg (State.data_unexpected ha hd h),
      fun w hw hm hr hc => exec_deviceData_taken hh hl hg (State.data_old ha hd hw hm hr hc), ?_, ?_⟩
    · intro x hw hm hx hc taken y
      refine ⟨exec_deviceData_taken hh hl hg (State.data_current ha hd hw hm hx hc), ?_, ?_, fun hoff => ?_⟩
      · exact State.sampleTaken_port taken (.port p) y p
      · exact (State.sampleTaken_sample taken (.port p) y (.port p)).trans (if_pos rfl)
      · exact State.sampleTaken_off (s := taken) hoff y
    · intro w x hw hm hx hc us y
      have hmr : ((s.port p).countReceived.changedTo w).modeRecord = some x :=
        PortRec.sensor_modeRecord hd rfl (by rw [hm]; exact hx)
      obtain ⟨hup, huq, huv, hud, hdis, hul, huf⟩ := s.modeEntered_spec (p := p)
        (r := (s.port p).countReceived.changedTo w) ha hclass hmr (.modeChanged p r.generation m r.mode)
      have he : exec (.deviceData p m vs g) s = .next (((s.modeEntered p ((s.port p).countReceived.changedTo w)
          (.modeChanged p r.generation m r.mode)).sampleTaken (.port p) y).complete w.ticket []) :=
        exec_deviceData_taken hh hl hg (State.data_completes ha hd hk hw hm hx hc)
      generalize s.modeEntered p ((s.port p).countReceived.changedTo w) (.modeChanged p r.generation m r.mode) = u
        at hup huq huv hud hdis hul huf he
      have hport := u.sampleTaken_port (.port p) y
      have hsample := u.sampleTaken_sample (.port p) y
      obtain ⟨hlinks, hmotors, hwatches⟩ := State.sampleTaken_quiet hdis y
      refine ⟨u, (u.sampleTaken (.port p) y).complete w.ticket [], he, rfl, (hport p).symm, fun l => ?_, fun l c hc => ?_, hud,
        hul, huf, ?_, ?_, fun l k hk => ?_, ?_, fun q hq => ⟨?_, ?_⟩, ?_⟩
      · exact (huv l (.port p)).trans (if_pos rfl)
      · exact (huv l c).trans (if_neg hc)
      · exact (hport p).trans (hup.trans (by rw [PortRec.takeInterval_eq]; subst hm; rfl))
      · exact (hsample (.port p)).trans (if_pos rfl)
      · refine Eq.trans ?_ (hud l k hk)
        exact congrArg (fun ws : PerLink (Table (Option Watch)) => (ws.get l).get none k) hwatches
      · exact State.complete_links (hlinks.trans hul) w.ticket []
      · exact (hport q).trans (huq q hq)
      · refine (hsample (.port q)).trans ((if_neg (by simpa using hq)).trans ?_)
        rw [huf]
        rfl
      · exact hmotors.trans (by rw [huf])

end Sys2Proof.Machine

/-! PROOF of O15: the messages of a device that identifies itself (R22 to R28, R41). -/

namespace Sys2Proof.Machine

/-! ### The record that an IDENTITY offers (R25) -/

/-- A valid mode record (R25). -/
theorem ModeRecord.valid_iff (m : ModeRecord) : ModeRecord.valid m = true ↔ 1 ≤ m.count ∧ m.count ≤ 8 ∧ m.format ≤ 2 ∧
    m.rawMin < m.rawMax ∧ -(2 ^ (8 * 2 ^ m.format - 1) : Int) ≤ m.rawMin ∧ m.rawMax ≤ 2 ^ (8 * 2 ^ m.format - 1) - 1 ∧
    m.scaledMin ≠ m.scaledMax ∧ 1 ≤ m.minInterval := by
  have hrange : m.format ≤ 2 → formatRange m.format = (-(2 ^ (8 * 2 ^ m.format - 1) : Int), 2 ^ (8 * 2 ^ m.format - 1) - 1) :=
    fun h => by interval_cases m.format <;> rfl
  simp only [ModeRecord.valid, Bool.and_eq_true, decide_eq_true_iff, and_assoc]
  constructor
  · rintro ⟨h1, h2, h3, h4, h5, h6, h7⟩
    rw [hrange h3] at h5 h6
    exact ⟨h1, h2, h3, h4, h5, h6, h7⟩
  · rintro ⟨h1, h2, h3, h4, h5, h6, h7⟩
    rw [hrange h3]
    exact ⟨h1, h2, h3, h4, h5, h6, h7⟩

theorem MotorPart.valid_iff (x : MotorPart) : MotorPart.valid x = true ↔
    360 ≤ x.cpr ∧ x.cpr ≤ 4096 ∧ 100 ≤ x.maxSpeed ∧ x.maxSpeed ≤ 2000 ∧ x.size ≤ 2 := by
  simp only [MotorPart.valid, Bool.and_eq_true, decide_eq_true_iff, and_assoc]

/-- A valid device record: a SENSOR with valid modes and no motor part, or a MOTOR with a valid motor part and no modes
(R25). -/
theorem DeviceRecord.valid_iff (d : DeviceRecord) : DeviceRecord.valid d = true ↔
    (d.kind = .sensor ∧ d.motor = none ∧ 1 ≤ d.modes.length ∧ d.modes.length ≤ 8 ∧ ∀ m ∈ d.modes, ModeRecord.valid m = true) ∨
    (d.kind = .motor ∧ d.modes = [] ∧ ∃ x, d.motor = some x ∧ MotorPart.valid x = true) := by
  unfold DeviceRecord.valid
  cases hk : d.kind <;> cases hm : d.motor <;> simp [and_assoc]

/-- No speed in common. -/
theorem commonSpeed_isNone (x : SpeedSet) :
    (commonSpeed x).isNone = true ↔ true ∉ [x.b460800, x.b115200, x.b57600, x.b9600] := by
  obtain ⟨a, b, c, d, e⟩ := x
  revert a b c d e
  decide

/-- The highest speed in common is the first of the list that both have. -/
theorem commonSpeed_first (x : SpeedSet) (k : Fin 4)
    (hk : [x.b460800, x.b115200, x.b57600, x.b9600].getD k false = true)
    (hi : ∀ i : Fin 4, i < k → [x.b460800, x.b115200, x.b57600, x.b9600].getD i false = false) :
    commonSpeed x = some ([LineSpeed.b460800, .b115200, .b57600, .b9600].getD k .closed) := by
  obtain ⟨a, b, c, d, e⟩ := x
  revert a b c d e k
  decide

theorem commonSpeed_some {x : SpeedSet} (k : Fin 4) (hk : [x.b460800, x.b115200, x.b57600, x.b9600].getD k false = true) :
    true ∈ [x.b460800, x.b115200, x.b57600, x.b9600] := by
  obtain ⟨a, b, c, d, e⟩ := x
  revert a b c d e k
  decide

section Messages
variable {s t : State} {p : Port} {d : DeviceRecord} {g : LineMessage} {m : Nat} {vs : List Int} {x : ModeRecord} {r : PortRec}

/-! ### The rows -/

/-- NOT READY is expected while ENQUIRING (R24). -/
def notReadyRule (p : Port) (s : State) : Option State := if (s.port p).stage = some .enquiring then some s else none

/-- IDENTITY is expected while ENQUIRING (R24). -/
def identityRule (p : Port) (d : DeviceRecord) (s : State) : Option State :=
  if (s.port p).stage = some .enquiring then some (s.identity p d) else none

/-- ACK is expected in stage SPEED (R26). -/
def ackRule (p : Port) (s : State) : Option State := if (s.port p).stage = some .speed then some (s.speedAck p) else none

theorem exec_deviceNotReady (hh : s.hub.held = false) (p : Port) (g : LineMessage) :
    exec (.deviceNotReady p g) s = .next (s.lineMessage p g (notReadyRule p)) :=
  congrArg Host.Outcome.next (State.unlessHeld_free hh _)

theorem exec_deviceIdentity (hh : s.hub.held = false) (p : Port) (d : DeviceRecord) (g : LineMessage) :
    exec (.deviceIdentity p d g) s = .next (s.lineMessage p g (identityRule p d)) :=
  congrArg Host.Outcome.next (State.unlessHeld_free hh _)

theorem exec_deviceAck (hh : s.hub.held = false) (p : Port) (g : LineMessage) :
    exec (.deviceAck p g) s = .next (s.lineMessage p g (ackRule p)) :=
  congrArg Host.Outcome.next (State.unlessHeld_free hh _)

theorem exec_deviceData (hh : s.hub.held = false) (p : Port) (m : Nat) (vs : List Int) (g : LineMessage) :
    exec (.deviceData p m vs g) s = .next (s.lineMessage p g fun s => s.data p m vs) :=
  congrArg Host.Outcome.next (State.unlessHeld_free hh _)

theorem State.received_stage (s : State) (p : Port) : ((s.received p).port p).stage = (s.port p).stage := by
  rw [State.received_port]
  rfl

theorem exec_deviceIdentity_taken (hh : s.hub.held = false) (hl : (s.port p).line ≠ .closed) (hg : g.check = lineSum g)
    (hs : (s.port p).stage = some .enquiring) (d : DeviceRecord) :
    exec (.deviceIdentity p d g) s = .next ((s.received p).identity p d) :=
  (exec_deviceIdentity hh p d g).trans (congrArg _ (State.lineMessage_taken hl hg
    (if_pos ((s.received_stage p).trans hs))))

theorem exec_deviceAck_taken (hh : s.hub.held = false) (hl : (s.port p).line ≠ .closed) (hg : g.check = lineSum g)
    (hs : (s.port p).stage = some .speed) : exec (.deviceAck p g) s = .next ((s.received p).speedAck p) :=
  (exec_deviceAck hh p g).trans (congrArg _ (State.lineMessage_taken hl hg (if_pos ((s.received_stage p).trans hs))))

/-! ### IDENTITY (R25) -/

/-- An identity that R25 refuses. -/
theorem State.identity_rejected (hs : (s.port p).state = .identifying) {why : RejectReason}
    (hr : DeviceRecord.rejection d = some why) : (s.received p).identity p d =
      (s.notifyBoth (.portChanged p .rejected .identifying (s.port p).generation (s.port p).detect
        (some (d.kind, d.typeNumber)) (rejectCode (some why)))).setPort p ((s.port p).countReceived.toRejected d why) := by
  have hp := s.received_port p
  have hst : ((s.received p).port p).state = .identifying := by rw [hp]; exact hs
  have hc := State.changePort_told (s := s.received p) (p := p) (r := (s.port p).countReceived.toRejected d why)
    (by rw [hst]; decide) (by rw [hst]; rfl)
  unfold State.identity
  rw [hr]
  dsimp only
  rw [hp, hc, hst]
  unfold State.received
  rw [State.setPort_notifyBoth, State.setPort_setPort]
  rfl

/-- An identity that R25 takes. -/
theorem State.identity_taken {v : LineSpeed} (hr : DeviceRecord.rejection d = none) (hv : commonSpeed d.speeds = some v) :
    (s.received p).identity p d = s.setPort p { (s.port p).countReceived with
      device := some d, stage := some .speed, waitFrom := s.hub.time, secondWait := false, sent := [.speed v] } := by
  have hp := s.received_port p
  unfold State.identity
  rw [hr]
  dsimp only
  rw [hp]
  unfold State.received PortRec.dataSpeed
  rw [State.setPort_setPort]
  simp only [Option.bind_some, hv, Option.getD_some]
  rfl

theorem DeviceRecord.rejection_demand (h : 150 < d.supplyDemand) : DeviceRecord.rejection d = some .supplyDemand := if_pos h

theorem DeviceRecord.rejection_speed (h : d.supplyDemand ≤ 150) (hs : (commonSpeed d.speeds).isNone = true) :
    DeviceRecord.rejection d = some .speed := (if_neg (Nat.not_lt.mpr h)).trans (if_pos hs)

theorem DeviceRecord.rejection_eq (h : d.supplyDemand ≤ 150) (hs : ¬ (commonSpeed d.speeds).isNone = true) :
    DeviceRecord.rejection d = if DeviceRecord.valid d then none else some .record :=
  (if_neg (Nat.not_lt.mpr h)).trans (if_neg hs)

/-! ### ACK (R26, R27) -/

theorem State.firstInterval_congr (hv : t.views = s.views) (hu : ∀ k, (t.link k).up = (s.link k).up)
    (hd : (t.port p).device = (s.port p).device) : t.firstInterval p = s.firstInterval p := by
  unfold State.firstInterval
  rw [hd, State.sensorInterval_congr hv hu]

theorem State.firstInterval_eq (hd : (s.port p).device = some d) (hx : d.modes[0]? = some x) :
    s.firstInterval p = s.sensorInterval p x.minInterval := by
  unfold State.firstInterval
  simp [hd, hx]

/-- The record of a port whose line has gone to its data speed (R26). -/
def PortRec.atSpeed (r : PortRec) : PortRec := { r with line := r.dataSpeed }

theorem State.speedAck_eq (s : State) (p : Port) : (s.received p).speedAck p =
    if (s.port p).device.map (fun d => d.kind) = some .motor then (s.setPort p (s.port p).countReceived.atSpeed).activate p
    else (s.setPort p (s.port p).countReceived.atSpeed).askFirstData p false := by
  have hp := s.received_port p
  have hs : (s.received p).setPort p { (s.received p).port p with line := ((s.received p).port p).dataSpeed } =
      s.setPort p (s.port p).countReceived.atSpeed := by
    rw [hp]
    unfold State.received
    rw [State.setPort_setPort]
    rfl
  have hc : (s.setPort p (s.port p).countReceived.atSpeed).classOf p = (s.port p).device.map (fun d => d.kind) := by
    unfold State.classOf
    rw [State.setPort_port_self]
    rfl
  unfold State.speedAck
  simp only [hs, hc]

/-- ACK from a SENSOR: mode 0 and its interval are asked for (R26). -/
theorem State.speedAck_sensor (hd : (s.port p).device = some d) (hk : d.kind = .sensor) : (s.received p).speedAck p =
    s.setPort p { (s.port p).countReceived.atSpeed with
      stage := some .firstData, sent := [.selectMode 0, .setInterval (s.firstInterval p / 1000)]
      sentInterval := some (s.firstInterval p), waitFrom := s.hub.time, secondWait := false } := by
  have hi : (s.setPort p (s.port p).countReceived.atSpeed).firstInterval p = s.firstInterval p :=
    State.firstInterval_congr rfl (fun _ => rfl) (by rw [State.setPort_port_self]; rfl)
  rw [State.speedAck_eq, if_neg (by simp [hd, hk])]
  unfold State.askFirstData
  simp only [hi, State.setPort_port_self, State.setPort_setPort]
  rfl

/-! ### The attach of a motor or of a sensor (R26, R27) -/

theorem attachNotice (hd : r.device = some d) (p : Port) (now : Word32) (previous : PortState) :
    portNotice p (r.toActive now) previous =
      .portChanged p .active previous (nextGeneration r.generation) r.detect (some (d.kind, d.typeNumber)) 0 := by
  have hdev : (r.toActive now).device = some d := hd
  unfold portNotice
  rw [hdev]
  rfl

theorem sizeGains_eq {size : Nat} (h : size ≤ 2) : sizeGains size =
    if size = 0 then ⟨120, 15, true⟩ else if size = 1 then ⟨150, 20, true⟩ else ⟨200, 25, true⟩ := by
  interval_cases size <;> rfl

/-- The links that are told of an attach from IDENTIFYING (R19). -/
theorem State.identified_links (s : State) (p : Port) (hs : r.state = .identifying) (hd : r.device = some d) :
    ((s.setPort p r).toldAttach p).links = (s.notifyBoth (.portChanged p .active .identifying
      (nextGeneration r.generation) r.detect (some (d.kind, d.typeNumber)) 0)).links := by
  rw [State.setPort_toldAttach s p r hs, attachNotice hd]
  rfl

/-- ACK from a MOTOR (R26, R27, R41). -/
theorem State.speedAck_motor (hs : (s.port p).state = .identifying) (hd : (s.port p).device = some d)
    (hk : d.kind = .motor) :
    let t := (s.received p).speedAck p
    s.AttachedAs t p ((s.port p).countReceived.atSpeed.toActive s.now) 4 5000 ∧
    (∀ q, t.motor q = if q = p then { Motor.reset with gains := d.motor.map (fun m => sizeGains m.size) } else s.motor q) ∧
    t = { s with
      ports := t.ports, motors := t.motors, samples := t.samples, views := t.views
      links := (s.notifyBoth (.portChanged p .active .identifying (nextGeneration (s.port p).generation) (s.port p).detect
        (some (d.kind, d.typeNumber)) 0)).links } := by
  intro t
  have ht : t = (s.setPort p (s.port p).countReceived.atSpeed).activate p :=
    (s.speedAck_eq p).trans (if_pos (by simp [hd, hk]))
  have hp := State.setPort_port_self s p (s.port p).countReceived.atSpeed
  obtain ⟨hatt, hm, hfr⟩ := State.activate_motor (s := s.setPort p (s.port p).countReceived.atSpeed) (p := p) (d := d)
    (by rw [hp]; exact .inr hs) (by rw [hp]; exact hd) (.inl hk)
  rw [State.identified_links s p (r := (s.port p).countReceived.atSpeed) hs hd, ← ht] at hfr
  rw [hp, ← ht] at hatt
  rw [← ht] at hm
  exact ⟨hatt.of_records (fun q hq => (State.setPort_port s p q _).trans (if_neg hq)) rfl rfl, hm, hfr⟩

/-! ### The first DATA (R26, R27, R79) -/

/-- The port just attached, its supervision started, before its first sample. -/
def State.firstTaken (s : State) (p : Port) : State :=
  ((s.setPort p { (s.port p).countReceived with mode := some 0 }).activate p).restartSupervision p

theorem State.firstTaken_spec (hs : (s.port p).state = .identifying) (hd : (s.port p).device = some d)
    (hk : d.kind = .sensor) (hx : d.modes[0]? = some x) :
    let u := s.firstTaken p
    let us := s.firstInterval p
    u.port p = ((PortRec.toActive { (s.port p).countReceived with mode := some 0 } s.now).takeInterval us).supervisedFrom
      s.now ∧
    (∀ q, q ≠ p → u.port q = s.port q) ∧ u.sample (.port p) = .cleared x.count us ∧
    (∀ c, c ≠ .port p → u.sample c = s.sample c) ∧
    (∀ l, u.view l (.port p) = (s.view l (.port p)).clearOutput x.count) ∧
    (∀ l c, c ≠ .port p → u.view l c = s.view l c) ∧
    u.links = (s.notifyBoth (.portChanged p .active .identifying (nextGeneration (s.port p).generation) (s.port p).detect
      (some (d.kind, d.typeNumber)) 0)).links ∧
    u = { s with ports := u.ports, links := u.links, samples := u.samples, views := u.views } := by
  intro u us
  have hp := State.setPort_port_self s p { (s.port p).countReceived with mode := some 0 }
  obtain ⟨hatt, hfr⟩ := State.activate_sensor (s := s.setPort p { (s.port p).countReceived with mode := some 0 }) (p := p)
    (by rw [hp]; exact hs) (by rw [hp]; exact hd) hk (m := 0) (by rw [hp]) hx
  have hus : (s.setPort p { (s.port p).countReceived with mode := some 0 }).sensorInterval p x.minInterval = us :=
    (State.sensorInterval_congr rfl (fun _ => rfl) p _).trans (State.firstInterval_eq hd hx).symm
  rw [State.identified_links s p (r := { (s.port p).countReceived with mode := some 0 }) hs hd] at hfr
  rw [hus, hp] at hatt
  have hu : u = ((s.setPort p { (s.port p).countReceived with mode := some 0 }).activate p).restartSupervision p := rfl
  clear_value u
  generalize (s.setPort p { (s.port p).countReceived with mode := some 0 }).activate p = v at hatt hfr hu
  rw [State.restartSupervision_eq, hatt.port] at hu
  have hn : v.now = s.now := by rw [hfr]; rfl
  rw [hn] at hu
  have hsame : u.samples = v.samples ∧ u.views = v.views := by rw [hu]; exact ⟨rfl, rfl⟩
  refine ⟨?_, fun q hq => ?_, ?_, fun c hc => ?_, fun l => ?_, fun l c hc => ?_, ?_, ?_⟩
  · rw [hu]
    exact State.setPort_port_self _ _ _
  · rw [hu, State.setPort_port, if_neg hq, hatt.ports q hq]
    exact (State.setPort_port s p q _).trans (if_neg hq)
  · rw [State.sample, hsame.1]
    exact hatt.sample
  · rw [State.sample, hsame.1]
    exact hatt.samples c hc
  · rw [State.view, hsame.2]
    exact hatt.view l
  · rw [State.view, hsame.2]
    exact hatt.views l c hc
  · rw [hu, hfr]
    rfl
  · rw [hu, hfr]
    rfl

theorem State.firstData_eq (s : State) (p : Port) (vs : List Int) :
    (s.received p).firstData p vs = (s.firstTaken p).sensorSample p 0 vs := by
  have hp := s.received_port p
  have hs : (s.received p).setPort p { (s.received p).port p with mode := some 0 } =
      s.setPort p { (s.port p).countReceived with mode := some 0 } := by
    rw [hp]
    unfold State.received
    rw [State.setPort_setPort]
  unfold State.firstData
  rw [hs]
  rfl

/-- DATA in mode 0 with its value count while it is awaited (R26): sample 1 of the port. -/
theorem State.data_first (hs : (s.port p).state = .identifying) (hst : (s.port p).stage = some .firstData)
    (hd : (s.port p).device = some d) (hk : d.kind = .sensor) (hx : d.modes[0]? = some x) (hc : x.count = vs.length) :
    (s.received p).data p 0 vs = some ((s.firstTaken p).sampleTaken (.port p) ⟨some 0, 1, s.hub.time,
      vs.map (fun v => (scaleRaw x v).1), vs.map (fun v => (scaleRaw x v).2), s.firstInterval p⟩) := by
  have hp := s.received_port p
  have hact : ((s.received p).port p).state = .identifying := by rw [hp]; exact hs
  have hstage : ((s.received p).port p).stage = some .firstData := (s.received_stage p).trans hst
  have hcount : ((s.received p).port p).countOf 0 = some vs.length := by
    rw [hp]
    exact PortRec.countOf_mode hd hx hc
  obtain ⟨hport, -, hsample, -, -, -, -, hfr⟩ := s.firstTaken_spec hs hd hk hx
  have hdata : (s.received p).data p 0 vs = some ((s.received p).firstData p vs) := by
    unfold State.data
    simp only [hcount, hact, hstage, ne_eq, not_true_eq_false, if_false, if_true]
  rw [hdata, State.firstData_eq]
  generalize s.firstTaken p = u at hport hsample hfr ⊢
  have hrec : (u.port p).modeRecord = some x := by
    rw [hport]
    exact (PortRec.takeInterval_modeRecord _ _).trans (PortRec.sensor_modeRecord hd rfl hx)
  have hint : (u.port p).interval.getD 0 = s.firstInterval p := by
    rw [hport, PortRec.takeInterval_eq]
    rfl
  have hn : u.now = s.hub.time := by rw [hfr]; rfl
  rw [State.sensorSample_eq hrec, hint]
  unfold dataSample
  rw [hsample, hn]
  rfl

/-- Other DATA while the first is awaited (R26). -/
theorem State.data_first_odd (hs : (s.port p).state = .identifying) (hst : (s.port p).stage = some .firstData)
    (hd : (s.port p).device = some d) (h : m ≠ 0 ∨ d.modes[m]?.map (fun x => x.count) ≠ some vs.length) :
    (s.received p).data p m vs = none := by
  have hp := s.received_port p
  have hact : ((s.received p).port p).state = .identifying := by rw [hp]; exact hs
  have hstage : ((s.received p).port p).stage = some .firstData := (s.received_stage p).trans hst
  have hcount : ((s.received p).port p).countOf m = d.modes[m]?.map (fun x => x.count) := by
    rw [hp]
    exact PortRec.countOf_eq hd m
  by_cases hc : d.modes[m]?.map (fun x => x.count) = some vs.length
  · unfold State.data
    simp only [hcount, hc, hact, hstage, ne_eq, not_true_eq_false, if_false, h.resolve_right (not_not.mpr hc)]
  · exact State.data_miscounted (by rwa [hcount])

/-- DATA in IDENTIFYING before it is awaited (R24, R26). -/
theorem State.data_early (hs : (s.port p).state = .identifying) (hst : (s.port p).stage ≠ some .firstData) :
    (s.received p).data p m vs = none := by
  have hact : ((s.received p).port p).state = .identifying := by rw [s.received_port p]; exact hs
  have hstage : ((s.received p).port p).stage ≠ some .firstData := by rwa [s.received_stage p]
  unfold State.data
  simp only [hact]
  split
  · rfl
  · cases hq : ((s.received p).port p).stage with
    | none => rfl
    | some y =>
      cases y with
      | enquiring => rfl
      | speed => rfl
      | firstData => exact absurd hq hstage

end Messages

/-- Settles O15, by the check byte and, for a good message, by the state and the stage of the port. -/
theorem identificationMessages : Obligations.IdentificationMessages := by
  intro s p hh r got bad odd
  refine ⟨fun hl => ⟨?_, fun g => ⟨?_, ?_, fun d => ?_, fun m vs => ?_⟩⟩, fun hl => ?_,
    fun hl g hg => ⟨?_, ?_, fun d => ?_, fun m vs => ?_⟩, fun hl g hg => ⟨fun hs => ⟨?_, fun d => ?_⟩, fun hs => ?_, fun hs => ?_,
      fun hi hs d => ?_, fun hi hs d hd hk => ?_, fun d hi hd => ?_, fun m vs hi hs => ?_, fun d m vs ha hd hm => ?_⟩⟩
  · exact congrArg Host.Outcome.next ((State.unlessHeld_free hh _).trans (if_pos hl))
  · exact (exec_deviceNotReady hh p g).trans (congrArg _ (State.lineMessage_closed hl))
  · exact (exec_deviceAck hh p g).trans (congrArg _ (State.lineMessage_closed hl))
  · exact (exec_deviceIdentity hh p d g).trans (congrArg _ (State.lineMessage_closed hl))
  · exact (exec_deviceData hh p m vs g).trans (congrArg _ (State.lineMessage_closed hl))
  · exact congrArg Host.Outcome.next ((State.unlessHeld_free hh _).trans (if_neg hl))
  · exact (exec_deviceNotReady hh p g).trans (congrArg _ (State.lineMessage_bad hl hg))
  · exact (exec_deviceAck hh p g).trans (congrArg _ (State.lineMessage_bad hl hg))
  · exact (exec_deviceIdentity hh p d g).trans (congrArg _ (State.lineMessage_bad hl hg))
  · exact (exec_deviceData hh p m vs g).trans (congrArg _ (State.lineMessage_bad hl hg))
  · exact (exec_deviceNotReady hh p g).trans (congrArg _ (State.lineMessage_odd hl hg
      (if_neg fun e => hs ((s.received_stage p).symm.trans e))))
  · exact (exec_deviceIdentity hh p d g).trans (congrArg _ (State.lineMessage_odd hl hg
      (if_neg fun e => hs ((s.received_stage p).symm.trans e))))
  · exact (exec_deviceNotReady hh p g).trans (congrArg _ (State.lineMessage_taken hl hg
      (if_pos ((s.received_stage p).trans hs))))
  · exact (exec_deviceAck hh p g).trans (congrArg _ (State.lineMessage_odd hl hg
      (if_neg fun e => hs ((s.received_stage p).symm.trans e))))
  · intro shared names valid rejected
    have hvalid : valid ↔ DeviceRecord.valid d = true := by
      simp only [DeviceRecord.valid_iff, ModeRecord.valid_iff, MotorPart.valid_iff]
      rfl
    have hid := exec_deviceIdentity_taken hh hl hg hs d
    have hrej : ∀ why, DeviceRecord.rejection d = some why → exec (.deviceIdentity p d g) s = .next (rejected why) :=
      fun why hw => hid.trans (congrArg _ (State.identity_rejected hi hw))
    refine ⟨fun h => hrej _ (DeviceRecord.rejection_demand h),
      fun h hn => hrej _ (DeviceRecord.rejection_speed h ((commonSpeed_isNone _).mpr hn)), fun h hn hv => hrej _ ?_,
      fun k h hv hk hb => ?_⟩
    · rw [DeviceRecord.rejection_eq h fun e => (commonSpeed_isNone _).mp e hn, if_neg fun e => hv (hvalid.mpr e)]
    · have hr : DeviceRecord.rejection d = none := by
        rw [DeviceRecord.rejection_eq h fun e => (commonSpeed_isNone _).mp e (commonSpeed_some k hk), if_pos (hvalid.mp hv)]
      exact hid.trans (congrArg _ (State.identity_taken hr (commonSpeed_first d.speeds k hk hb)))
  · exact (exec_deviceAck_taken hh hl hg hs).trans (congrArg _ (State.speedAck_sensor hd hk))
  · intro generation attached other
    refine ⟨fun x hs hk hm hz => ?_, fun x vs hs hk hx hc => ?_,
      fun m vs hs h => exec_deviceData_odd hh hl hg (State.data_first_odd hi hs hd h)⟩
    · obtain ⟨hatt, hmot, hfr⟩ := State.speedAck_motor hi hd hk
      refine ⟨_, exec_deviceAck_taken hh hl hg hs, hatt.port, ?_, hatt.sample, hatt.view, fun q hq => ?_,
        ⟨hatt.ports, fun c hc => ⟨hatt.samples c hc, fun l => hatt.views l c hc⟩⟩, hfr⟩
      · rw [hmot, if_pos rfl, hm, Option.map_some, sizeGains_eq hz]
      · rw [hmot, if_neg hq]
    · have he := exec_deviceData_taken hh hl hg (State.data_first hi hs hd hk hx hc)
      obtain ⟨hup, huq, hus, huc, huv, huw, hul, huf⟩ := s.firstTaken_spec hi hd hk hx
      generalize s.firstTaken p = u at he hup huq hus huc huv huw hul huf
      rw [PortRec.takeInterval_eq] at hup
      rw [hc] at huv
      have hport := State.sampleTaken_port u (.port p) ⟨some 0, 1, s.hub.time, vs.map (fun v => (scaleRaw x v).1),
        vs.map (fun v => (scaleRaw x v).2), s.firstInterval p⟩ p
      refine ⟨_, he, ⟨u, rfl, huv, hul, ⟨huq, fun c hc => ⟨huc c hc, fun l => huw l c hc⟩⟩, huf⟩, ?_⟩
      rw [hport, hup]
      refine ⟨rfl, rfl, rfl, rfl, rfl, hd, rfl, rfl, rfl, rfl, rfl, rfl, rfl, rfl, rfl, ?_, fun hoff => ?_⟩
      · exact (State.sampleTaken_sample u (.port p) _ (.port p)).trans (if_pos rfl)
      · rw [State.sampleTaken_off (fun l => by rw [huv l]; exact hoff l)]
        refine ⟨hul, ?_, huq, fun c hc => ⟨(PerChan.get_set_ne _ _ hc).trans (huc c hc), fun l => huw l c hc⟩⟩
        rw [huf]
        rfl
  · exact exec_deviceData_odd hh hl hg (State.data_early hi hs)
  · refine exec_deviceData_odd hh hl hg (State.data_unexpected ha hd (.inl ?_))
    simp [hm]

end Sys2Proof.Machine

/-! PROOF of O22: MOTOR STATE (R55). -/

namespace Sys2Proof.Machine

section MotorState
variable {s : State} {l : Link} {tag : Byte} {n : Nat} {b : List Byte}

/-- A request that passes the checks of R33 names a port by its letter. -/
theorem State.port_of_portGuard {x g : Nat} {cs ds : List (Bool × Judgement)}
    (h : judge (cs ++ s.portGuard x g ++ ds) = none) : x ≤ 5 := by
  rw [judge_eq_none, State.portGuard_eq] at h
  exact (State.active_of_portChecks (s := s) (g := g) fun c hc => h c (by simp [hc])).2

/-- The active command that MOTOR STATE shows: the pair's for a port in a pair (R55, R57). -/
theorem State.queuePort_active (s : State) (p : Port) : (s.motor (s.queuePort p)).active =
    match (s.motor p).pair.bind s.pair with | some q => (s.motor q.first).active | none => (s.motor p).active := by
  unfold State.queuePort
  cases (s.motor p).pair.bind s.pair <;> rfl

/-- Settles O22, by the checks of MOTOR STATE and its body. -/
theorem motorStateAnswered : Obligations.MotorStateAnswered := by
  intro s l tag n b h p m checks active
  have hf : State.motorState ⟨l, n⟩ b (s.taken l n) =
      (s.taken l n).check ⟨l, n⟩ checks fun t => t.complete ⟨l, n⟩ (t.motorStateBody p) := by
    simp only [checks, State.portGuard_eq]
    rfl
  refine ⟨fun j hj => congrArg _ (State.serve_refused h hf hj),
    fun hj => congrArg _ ((State.serve_done h hf hj h rfl).trans ?_)⟩
  have hp : portCode p = u8 b 0 := portCode_portOf (State.port_of_portGuard hj)
  have ha : active = (s.motor (s.queuePort p)).active := (s.queuePort_active p).symm
  rw [ha, ← hp]
  rfl

end MotorState

end Sys2Proof.Machine

/-! PROOF of O20: the start of an encoder command (R46, R62, R66, R67). -/

namespace Sys2Proof.Machine

section Start

/-- A DUTY command runs on the channel. -/
def Motor.overDuty (m : Motor) : Prop := m.state = .running ∧ ∃ a, m.active = some a ∧ a.kind = .duty

/-- The row of R66 for a channel that an encoder command's start by request finds RUNNING under one. -/
theorem startRefs_running {m : Motor} (hs : m.state = .running) (hd : ¬ m.overDuty) (vmax : Int) :
    startRefs m .request vmax = ⟨m.profile.v, m.profile.pRef, m.integral, m.profile.prevU⟩ := by
  unfold startRefs
  simp only [hs]
  split
  · rename_i h
    exact absurd ⟨hs, _, h, rfl⟩ hd
  · rfl

theorem startRefs_overDuty {m : Motor} (hd : m.overDuty) (vmax : Int) :
    startRefs m .request vmax = ⟨clamp (-vmax) vmax m.speed, m.position * 1000, 0, 0⟩ := by
  obtain ⟨hs, ⟨_, _, _, _, _, _, _, _, _, _⟩, ha, hk⟩ := hd
  cases hk
  simp only [startRefs, hs, ha]

/-- The starting v, reference and integral of R66 on a start by request. -/
theorem startRefs_request (m : Motor) {_ : Decidable m.overDuty} (vmax : Int) :
    (startRefs m .request vmax).v =
      (if m.state = .running then (if m.overDuty then max (-vmax) (min vmax m.speed) else m.profile.v) else 0) ∧
    (startRefs m .request vmax).pRef = (if m.state = .holding then (m.holdTarget.getD m.position) * 1000
      else if m.state = .running ∧ ¬ m.overDuty then m.profile.pRef else m.position * 1000) ∧
    (startRefs m .request vmax).integral =
      (if m.state = .holding ∨ (m.state = .running ∧ ¬ m.overDuty) then m.integral else 0) := by
  cases hs : m.state with
  | running =>
    by_cases hd : m.overDuty
    · rw [startRefs_overDuty hd]
      simp [hd, clamp]
    · rw [startRefs_running hs hd]
      simp [hd]
  | free => simp [startRefs, hs, Motor.fromRest]
  | braked => simp [startRefs, hs, Motor.fromRest]
  | holding => simp [startRefs, hs]

theorem leadSpeed_single {c : Command} (hc : c.pair = none) : leadSpeed c = c.speed := by simp [leadSpeed, hc]

/-- A command of R67 that has nothing to travel, with its reference at `p0`. -/
theorem noTravel_iff (c : Command) (target p0 position tol : Int) : noTravel c target p0 position tol = true ↔
    (c.kind = .degrees ∧ (target * 1000 = p0 ∨ c.amount = 0)) ∨
      (c.kind = .position ∧ (target * 1000 = p0 ∨ (target - position).natAbs ≤ tol)) := by
  unfold noTravel
  cases c.kind <;> simp

theorem targetOf_single (x : MotorPart) {c : Command} (hc : c.pair = none) (p0 : Int) : targetOf x c p0 =
    if c.kind = .degrees
      then max (-2000000000) (min 2000000000 (p0.tdiv 1000 + nearest (c.amount * x.cpr) 360 * c.speed.sign))
    else if c.kind = .position then nearest (c.amount * x.cpr) 360 else 0 := by
  unfold targetOf
  rw [leadSpeed_single hc]
  cases c.kind <;> rfl

theorem directionOf_single {c : Command} (hc : c.pair = none) (hk : c.kind ≠ .duty) (target p0 v0 : Int) :
    directionOf c target p0 v0 =
      if c.kind = .degrees ∨ c.kind = .position then (if target * 1000 < p0 then -1 else 1)
      else if c.kind = .speed ∧ c.speed = 0 then (if v0 < 0 then -1 else 1) else c.speed.sign := by
  unfold directionOf
  rw [leadSpeed_single hc]
  cases h : c.kind <;> simp_all

theorem rampStep_eq (vmax : Int) (ramp : Nat) : rampStep vmax ramp =
    if ramp = 0 then vmax else max 1 (((vmax.toNat * 5 + ramp - 1) / ramp : Nat) : Int) := rfl

/-- What the profile of a command that starts holds whatever it has to travel (R62, R66). -/
theorem startProfile_fields (x : MotorPart) (c : Command) (position : Int) (refs : StartRefs) :
    let q := startProfile x c position refs
    let target := targetOf x c refs.pRef
    q.vmax = vMaxOf x ∧ q.tol = tolOf x ∧ q.target = target ∧
    q.vt = towardZero ((leadSpeed c).natAbs * vMaxOf x) 100 ∧ q.dv = rampStep (vMaxOf x) c.ramp ∧
    q.d = directionOf c target refs.pRef refs.v ∧ q.elapsed = 0 ∧ q.inTol = 0 ∧ q.settleTimer = 0 ∧ q.rampDown = false ∧
    q.start = refs.pRef ∧ q.prevU = refs.prevU := by
  unfold startProfile
  dsimp only
  split <;> exact ⟨rfl, rfl, rfl, rfl, rfl, rfl, rfl, rfl, rfl, rfl, rfl, rfl⟩

/-- A command with no travel starts in SETTLE at its target (R46, R67). -/
theorem startProfile_still {x : MotorPart} {c : Command} {position : Int} {refs : StartRefs}
    (h : noTravel c (targetOf x c refs.pRef) refs.pRef position (tolOf x) = true) :
    let q := startProfile x c position refs
    q.v = 0 ∧ q.pRef = targetOf x c refs.pRef * 1000 ∧ q.phase = .settle ∧ q.settling = true := by
  unfold startProfile
  dsimp only
  rw [if_pos h]
  exact ⟨rfl, rfl, rfl, rfl⟩

theorem startProfile_moving {x : MotorPart} {c : Command} {position : Int} {refs : StartRefs}
    (h : ¬ noTravel c (targetOf x c refs.pRef) refs.pRef position (tolOf x) = true) :
    let q := startProfile x c position refs
    q.v = refs.v ∧ q.pRef = refs.pRef ∧ q.settling = false := by
  unfold startProfile
  dsimp only
  rw [if_neg h]
  exact ⟨rfl, rfl, rfl⟩

/-- Settles O20, by the rows of R66 and the conversions of R62. -/
theorem commandStart : Obligations.CommandStart := by
  intro m x c hc hk vmax distance tol overDuty v0 p0 i0 target still t
  obtain ⟨hv, hp, hi⟩ : (startRefs m .request (vMaxOf x)).v = v0 ∧ (startRefs m .request (vMaxOf x)).pRef = p0 ∧
      (startRefs m .request (vMaxOf x)).integral = i0 := startRefs_request m (vMaxOf x)
  have ht : targetOf x c p0 = target := targetOf_single x hc p0
  obtain ⟨f1, f2, f3, f4, f5, f6, f7, f8, f9, f10, -, -⟩ :=
    startProfile_fields x c m.position (startRefs m .request (vMaxOf x))
  have hstill : noTravel c target p0 m.position (tolOf x) = true ↔ still := noTravel_iff _ _ _ _ _
  have hs := @startProfile_still x c m.position (startRefs m .request (vMaxOf x))
  have hm := @startProfile_moving x c m.position (startRefs m .request (vMaxOf x))
  rw [hp, ht] at hs f3 f6
  rw [hv, directionOf_single hc hk] at f6
  rw [hv, hp, ht] at hm
  rw [leadSpeed_single hc] at f4
  rw [hstill] at hs hm
  exact ⟨by rw [← hi]; rfl, f1, f2, f3, f4, f5, f6, f7, f8, f9, f10, hs, hm⟩

end Start

end Sys2Proof.Machine

/-! PROOF of O21: HALT, SET ZERO and SET GAINS on a port outside any pair (R50, R52 to R54). -/

namespace Sys2Proof.Machine

section Ends
variable {s : State} {p : Port} {k : Nat} {q : Pair}

/-- Every command of a port outside any pair ends, and the channel enters the state of an end action (R43, R50). -/
theorem State.Unpaired.endEnter (h : s.Unpaired p) (o : EndOutcome) (e : EndAction) :
    (s.endAll p o).enterAll [p] e =
      (s.notifyAll (s.endings p o)).setMotor p ((s.motor p).ended e (s.motor p).position) := by
  have hl := (State.LinksOnly.refl s).notifyAll (s.endings p o)
  refine State.MotionOnly.ext (.endEnter s p _ o e) (hl.motion.setMotor _ _) (fun x => ?_) ?_ ?_
  · rw [State.endEnter_motor, State.setMotor_motor, State.notifyAll_motor]
  · rw [State.enterAll_pairs, State.endAll_pairs]
    exact hl.pairs.symm
  · rw [State.enterAll_links, State.endAll_links, h.endNotices]
    rfl

theorem State.Unpaired.haltMotor (h : s.Unpaired p) (e : EndAction) : s.haltMotor p e =
    (s.notifyAll (s.endings p .halted)).setMotor p ((s.motor p).ended e (s.motor p).position) := by
  unfold State.haltMotor
  rw [State.queuePort_unpaired h.1, State.haltPorts_unpaired h.1, h.endEnter]

/-- The commands of a port outside any pair, as HALT counts them (R52). -/
theorem State.Unpaired.haltCount (h : s.Unpaired p) : s.haltCount p =
    (if (s.motor p).active = none then 0 else 1) + (s.motor p).waiting.length := by
  unfold State.haltCount Motor.commandCount
  rw [State.queuePort_unpaired h.1]
  cases (s.motor p).active <;> rfl

theorem State.claim_motorPart (s : State) (l : Link) (x p : Port) : (s.claim l x).motorPart p = s.motorPart p := by
  unfold State.motorPart
  rw [State.claim_port]
  split
  · rename_i h
    rw [h]
  · rfl

theorem State.claim_endings (s : State) (l : Link) (x p : Port) (o : EndOutcome) :
    (s.claim l x).endings p o = s.endings p o := by
  have hc : (s.claim l x).cpr p = s.cpr p := by rw [State.cpr, State.claim_motorPart, State.cpr]
  unfold State.endings State.doneNotice
  rw [hc]
  rfl

theorem State.claim_notifyAll (s : State) (l : Link) (p : Port) (xs : List (Link × NoticeBody)) :
    (s.claim l p).notifyAll xs = (s.notifyAll xs).claim l p := by
  unfold State.claim
  rw [State.setPort_notifyAll, ((State.LinksOnly.refl s).notifyAll xs).motion.port]

end Ends

section Requests
variable {s : State} {l : Link} {tag : Byte} {n : Nat} {b : List Byte}

/-- The state in which link `l` has claimed the port `p`, the commands of the port have ended with outcome `o`, each told,
and the channel is `m`. -/
def State.claimedEnded (s : State) (l : Link) (p : Port) (o : EndOutcome) (m : Motor) : State :=
  ((s.notifyAll (s.endings p o)).claim l p).setMotor p m

/-- A request claims a port and its channel becomes `m`: the request in hand shows nowhere. -/
theorem State.taken_claimedEnded (s : State) (l : Link) (n : Nat) (p : Port) (o : EndOutcome) (m : Motor) :
    (((s.taken l n).claim l p).notifyAll (((s.taken l n).claim l p).endings p o)).setMotor p m =
      (s.claimedEnded l p o m).taken l n := by
  have he : (s.taken l n).endings p o = s.endings p o := rfl
  rw [State.claim_endings, State.claim_notifyAll, he, State.taken_notifyAll]
  rfl

theorem State.halt_taken (s : State) (l : Link) (n : Nat) (b : List Byte) : State.halt ⟨l, n⟩ b (s.taken l n) =
    (s.taken l n).check ⟨l, n⟩ (s.haltChecks l b) fun t =>
      ((t.claim l (portOf (u8 b 0))).haltMotor (portOf (u8 b 0)) (endActionOf (u8 b 2))).complete ⟨l, n⟩
        (e8 (t.haltCount (portOf (u8 b 0)))) := rfl

theorem exec_halt_alone (h : s.Waits l tag .halt n b) (hj : judge (s.haltChecks l b) = none)
    (hu : s.Unpaired (portOf (u8 b 0))) : exec (.halt l tag) s =
      .next ((s.claimedEnded l (portOf (u8 b 0)) .halted ((s.motor (portOf (u8 b 0))).ended (endActionOf (u8 b 2))
        (s.motor (portOf (u8 b 0))).position)).answered l tag .halt n .normalCompletion
          (e8 ((if (s.motor (portOf (u8 b 0))).active = none then 0 else 1) +
            (s.motor (portOf (u8 b 0))).waiting.length))) := by
  have ht : ((s.taken l n).claim l (portOf (u8 b 0))).Unpaired (portOf (u8 b 0)) := hu
  have hc : (s.taken l n).haltCount (portOf (u8 b 0)) = _ := State.Unpaired.haltCount (s := s.taken l n) hu
  refine congrArg _ (State.serve_done h (s.halt_taken l n b) hj (t := s.claimedEnded l (portOf (u8 b 0)) .halted
    ((s.motor (portOf (u8 b 0))).ended (endActionOf (u8 b 2)) (s.motor (portOf (u8 b 0))).position))
    ((h.notifyAll _).of_links rfl) ?_)
  rw [ht.haltMotor, State.taken_claimedEnded, hc]
  rfl

/-- The checks of SET ZERO in their order (R53). -/
def State.zeroChecks (s : State) (l : Link) (b : List Byte) : List (Bool × Judgement) :=
  let p := portOf (u8 b 0)
  [(decide (b.length ≠ 2), .parameterError)] ++ s.portChecks (u8 b 0) (u8 b 1) ++
    [(decide (s.classOf p ≠ some .motor), .deviceMismatch), (s.heldByOther l p, .heldByOtherLink),
      (decide ((s.motor p).state = .running), .busy)]

theorem Motor.zero_eq (m : Motor) : m.zero = { m with
    position := 0, saturated := false
    history := ⟨m.history.h0 - m.position, m.history.h1 - m.position, m.history.h2 - m.position,
      m.history.h3 - m.position, m.history.h4 - m.position⟩
    holdTarget := m.holdTarget.map (fun x => x - m.position)
    profile := { m.profile with pRef := m.profile.pRef - (if m.holdTarget = none then 0 else m.position * 1000) } } := by
  unfold Motor.zero
  cases h : m.holdTarget <;> simp

/-- The checks of SET GAINS in their order (R54). -/
def State.gainsChecks (s : State) (l : Link) (b : List Byte) : List (Bool × Judgement) :=
  let p := portOf (u8 b 0)
  [(decide (b.length ≠ 7) || decide (1000 < u16 b 2) || decide (500 < u16 b 4) || decide (2 < u8 b 6), .parameterError)] ++
    s.portChecks (u8 b 0) (u8 b 1) ++
    [(decide (s.classOf p ≠ some .motor), .deviceMismatch), (s.heldByOther l p, .heldByOtherLink)]

theorem State.gainsOf_eq {x : MotorPart} (hx : s.motorPart p = some x) (h2 : x.size ≤ 2) (b : List Byte) : s.gainsOf p b =
    some (if u8 b 6 = 2 then (if x.size = 0 then ⟨120, 15, true⟩ else if x.size = 1 then ⟨150, 20, true⟩
      else ⟨200, 25, true⟩) else ⟨u16 b 2, u16 b 4, decide (u8 b 6 = 1)⟩) := by
  unfold State.gainsOf
  rw [hx, Option.map_some, sizeGains_eq h2]
  split <;> rfl

/-- Settles O21, by the checks of each request and the channel that it leaves. -/
theorem haltZeroGains : Obligations.HaltZeroGains := by
  intro s l tag n b p m kind plain claimed
  refine ⟨?_, ?_, ?_⟩ <;> intro h checks
  · have hc : checks = s.haltChecks l b := by
      simp only [checks, plain, State.haltChecks, State.portGuard_eq, State.otherHolds_eq, Bool.decide_or, Bool.decide_and,
        State.plain, State.cutoff, beq_eq_decide]
      rfl
    rw [hc]
    exact ⟨fun j hj => congrArg _ (State.serve_refused h (s.halt_taken l n b) hj), fun hj hu => exec_halt_alone h hj hu⟩
  · have hc : checks = s.zeroChecks l b := by
      simp only [checks, State.zeroChecks, State.portGuard_eq, State.otherHolds_eq]
      rfl
    have hf : State.setZero ⟨l, n⟩ b (s.taken l n) = (s.taken l n).check ⟨l, n⟩ (s.zeroChecks l b) fun t =>
      ((t.claim l p).setMotor p (t.motor p).zero).complete ⟨l, n⟩ [] := rfl
    rw [hc]
    refine ⟨fun j hj => congrArg _ (State.serve_refused h hf hj), fun hj => congrArg Host.Outcome.next ?_⟩
    refine State.serve_done h hf hj (h.of_links rfl) (congrArg (fun t : State => t.complete ⟨l, n⟩ []) ?_)
    rw [Motor.zero_eq]
    rfl
  · have hc : checks = s.gainsChecks l b := by
      simp only [checks, State.gainsChecks, State.portGuard_eq, State.otherHolds_eq, Bool.decide_or, Bool.or_assoc]
      rfl
    have hf : State.setGains ⟨l, n⟩ b (s.taken l n) = (s.taken l n).check ⟨l, n⟩ (s.gainsChecks l b) fun t =>
      ((t.claim l p).setMotor p { t.motor p with gains := t.gainsOf p b }).complete ⟨l, n⟩ [] := rfl
    rw [hc]
    refine ⟨fun j hj => congrArg _ (State.serve_refused h hf hj), fun x hj hx h2 => congrArg Host.Outcome.next ?_⟩
    refine State.serve_done h hf hj (h.of_links rfl) (congrArg (fun t : State => t.complete ⟨l, n⟩ []) ?_)
    rw [State.gainsOf_eq (s := s.taken l n) hx h2]
    rfl

end Requests

end Sys2Proof.Machine

/-! PROOF of O23: PAIR BIND and PAIR UNBIND (R56, R58). -/

namespace Sys2Proof.Machine

section Pairs
variable {s : State} {l : Link} {tag : Byte} {n : Nat} {b : List Byte}

theorem State.not_active (s : State) (p : Port) : (!s.active p) = decide ((s.port p).state ≠ .active) := by
  simp [State.active, beq_eq_decide]

theorem State.freePairNumber_isNone (s : State) :
    s.freePairNumber.isNone = decide (s.pair 0 ≠ none ∧ s.pair 1 ≠ none ∧ s.pair 2 ≠ none) := by
  simp only [State.freePairNumber, List.find?_cons, List.find?_nil]
  cases s.pair 0 <;> cases s.pair 1 <;> cases s.pair 2 <;> rfl

theorem State.freePairNumber_getD (h : s.freePairNumber.isNone = false) :
    s.freePairNumber.getD 0 = if s.pair 0 = none then 0 else if s.pair 1 = none then 1 else 2 := by
  revert h
  simp only [State.freePairNumber, List.find?_cons, List.find?_nil]
  cases s.pair 0 <;> cases s.pair 1 <;> cases s.pair 2 <;> simp

/-- Two ports bound in the entry `k`, each claimed (R56). -/
theorem State.bind_eq (s : State) (l : Link) {p q : Port} (hpq : p ≠ q) (lag k : Nat) : s.bind l p q lag k =
    ((((s.setPort p { s.port p with holder := some l }).setPort q { s.port q with holder := some l }).setMotor p
      { s.motor p with pair := some k }).setMotor q { s.motor q with pair := some k }).setPair k (some ⟨p, q, lag, l⟩) := by
  have hport : (s.claim l p).port q = s.port q := by rw [State.claim_port, if_neg (Ne.symm hpq)]
  simp only [State.bind, State.claim_motor, State.setMotor_motor, if_neg (Ne.symm hpq)]
  rw [State.claim, hport, State.claim]

theorem State.pairBind_taken (s : State) (l : Link) (n : Nat) (b : List Byte) : State.pairBind ⟨l, n⟩ b (s.taken l n) =
    (s.taken l n).check ⟨l, n⟩ (s.bindChecks l b) fun t =>
      (t.bind l (portOf (u8 b 0)) (portOf (u8 b 2))
        (if u16 b 4 = 0 then s.cpr (portOf (u8 b 0)) / 12 else u16 b 4) (s.freePairNumber.getD 0)).complete ⟨l, n⟩
          (e8 (s.freePairNumber.getD 0)) := rfl

/-- A PAIR BIND that passes its checks names two ports and finds a free entry (R56). -/
theorem State.bindChecks_pass (h : judge (s.bindChecks l b) = none) :
    portOf (u8 b 0) ≠ portOf (u8 b 2) ∧ s.freePairNumber.isNone = false := by
  rw [judge_eq_none] at h
  simp only [State.bindChecks, List.forall_mem_cons, Bool.or_eq_false_iff, decide_eq_false_iff_not] at h
  obtain ⟨⟨-, hne⟩, ⟨⟨⟨h0, h2⟩, -⟩, -⟩, -, -, -, -, -, hfree, -⟩ := h
  exact ⟨fun e => hne (portOf_injective (by omega) (by omega) e), hfree⟩

theorem exec_pairBind_done (h : s.Waits l tag .pairBind n b) (hj : judge (s.bindChecks l b) = none) :
    let k := if s.pair 0 = none then 0 else if s.pair 1 = none then 1 else 2
    exec (.pairBind l tag) s = .next ((s.bind l (portOf (u8 b 0)) (portOf (u8 b 2))
      (if u16 b 4 = 0 then s.cpr (portOf (u8 b 0)) / 12 else u16 b 4) k).answered l tag .pairBind n .normalCompletion
        (e8 k)) := by
  intro k
  obtain ⟨-, hfree⟩ := State.bindChecks_pass hj
  have hk : s.freePairNumber.getD 0 = k := State.freePairNumber_getD hfree
  refine congrArg _ (State.serve_done h (s.pairBind_taken l n b) hj (t := s.bind l (portOf (u8 b 0))
    (portOf (u8 b 2)) (if u16 b 4 = 0 then s.cpr (portOf (u8 b 0)) / 12 else u16 b 4) k) (h.of_links rfl) ?_)
  rw [hk]
  rfl

/-- The checks of PAIR UNBIND on a bound entry (R58). -/
def State.unbindChecks (s : State) (l : Link) (b : List Byte) (q : Pair) : List (Bool × Judgement) :=
  [(decide (b.length ≠ 1) || decide (2 < u8 b 0), .parameterError), (decide (q.holder ≠ l), .heldByOtherLink),
    (s.pairRunning q, .busy)]

theorem State.pairUnbind_taken {q : Pair} (hq : s.pair (u8 b 0) = some q) (l : Link) (n : Nat) :
    State.pairUnbind ⟨l, n⟩ b (s.taken l n) = (s.taken l n).check ⟨l, n⟩ (s.unbindChecks l b q) fun t =>
      (t.freePair (u8 b 0)).complete ⟨l, n⟩ [] := by
  have hq' : (s.taken l n).pair (u8 b 0) = some q := hq
  unfold State.pairUnbind
  rw [hq']
  rfl

theorem exec_pairUnbind_free (h : s.Waits l tag .pairUnbind n b) (hq : s.pair (u8 b 0) = none) :
    exec (.pairUnbind l tag) s = .next (s.answered l tag .pairUnbind n .parameterError []) := by
  have hq' : (s.taken l n).pair (u8 b 0) = none := hq
  refine congrArg _ ((State.serve_waits h _).trans (Eq.trans ?_ (State.respond_taken h .parameterError [])))
  unfold State.pairUnbind
  rw [hq']
  rfl

theorem State.freePair_eq {k : Nat} {q : Pair} (hq : s.pair k = some q) (hn : q.first ≠ q.second) : s.freePair k =
    ((s.setMotor q.first { s.motor q.first with pair := none }).setMotor q.second
      { s.motor q.second with pair := none }).setPair k none := by
  simp only [State.freePair, hq, State.setMotor_motor, if_neg (Ne.symm hn)]

theorem exec_pairUnbind_done (h : s.Waits l tag .pairUnbind n b) {q : Pair} (hq : s.pair (u8 b 0) = some q)
    (hj : judge (s.unbindChecks l b q) = none) (hn : q.first ≠ q.second) : exec (.pairUnbind l tag) s =
      .next ((((s.setMotor q.first { s.motor q.first with pair := none }).setMotor q.second
        { s.motor q.second with pair := none }).setPair (u8 b 0) none).answered l tag .pairUnbind n .normalCompletion
          []) := by
  refine congrArg Host.Outcome.next (State.serve_done h (State.pairUnbind_taken hq l n) hj (h.of_links rfl)
    (congrArg (fun t : State => t.complete ⟨l, n⟩ []) ?_))
  rw [State.freePair_eq (s := s.taken l n) hq hn]
  rfl

/-- Settles O23, by the checks of the two requests and the entry that they take or free. -/
theorem pairsBoundAndFreed : Obligations.PairsBoundAndFreed := by
  intro s l tag n b
  constructor
  · intro h p q dev mismatch checks k
    have hc : checks = s.bindChecks l b := by
      simp only [checks, mismatch, dev, State.bindChecks, State.otherHolds_eq, State.freePairNumber_isNone, Bool.decide_or,
        Bool.decide_and, State.not_active, Bool.or_assoc]
      rfl
    rw [hc]
    refine ⟨fun j hj => congrArg _ (State.serve_refused h (s.pairBind_taken l n b) hj), fun hj => ?_⟩
    rw [← State.bind_eq s l (State.bindChecks_pass hj).1]
    exact exec_pairBind_done h hj
  · intro h k
    refine ⟨exec_pairUnbind_free h, ?_⟩
    intro q hq checks
    have hc : checks = s.unbindChecks l b q := by
      simp only [checks, State.unbindChecks, Bool.decide_or, State.pairRunning]
      cases (s.motor q.first).active <;> rfl
    rw [hc]
    exact ⟨fun j hj => congrArg _ (State.serve_refused h (State.pairUnbind_taken hq l n) hj),
      fun hj hn => exec_pairUnbind_done h hq hj hn⟩

end Pairs

end Sys2Proof.Machine

/-! PROOF of O19: MOVE (R43 to R45, R47, R48, R66, R74). -/

namespace Sys2Proof.Machine

section Start
variable {s t : State} {p : Port}

@[simp] theorem State.setMotor_setMotor (s : State) (p : Port) (m m' : Motor) :
    (s.setMotor p m).setMotor p m' = s.setMotor p m' := by
  simp [State.setMotor]

@[simp] theorem State.setMotor_same (s : State) (p : Port) : s.setMotor p (s.motor p) = s := by
  simp [State.setMotor, State.motor]

/-- The channel of a motor part with a command of its own active on it (R66, R74). -/
def Motor.start (m : Motor) (part : Option MotorPart) (c : Command) (f : StartFrom) : Motor :=
  match part with
  | some x => if c.kind = .duty then m.startDuty c else m.startEncoder x c f
  | none => m.startDuty c

theorem State.startCommand_alone (s : State) (p : Port) {c : Command} (hc : c.pair = none) (f : StartFrom) :
    s.startCommand p c f = s.setMotor p ((s.motor p).start (s.motorPart p) c f) := by
  unfold State.startCommand Motor.start
  rw [hc]
  cases s.motorPart p with
  | none => rfl
  | some x =>
    dsimp only [Option.bind_none]
    split <;> rfl

/-- A start reads neither the motion counter nor the commands that wait. -/
theorem Motor.start_counter (m : Motor) (k : Nat) (part : Option MotorPart) (c : Command) (f : StartFrom) :
    ({ m with counter := k } : Motor).start part c f = { m.start part c f with counter := k } := by
  unfold Motor.start
  cases part with
  | none => rfl
  | some x =>
    dsimp only
    split <;> rfl

theorem Motor.start_waiting (m : Motor) (ws : List Command) (part : Option MotorPart) (c : Command) (f : StartFrom) :
    ({ m with waiting := ws } : Motor).start part c f = { m.start part c f with waiting := ws } := by
  unfold Motor.start
  cases part with
  | none => rfl
  | some x =>
    dsimp only
    split <;> rfl

theorem State.setMotor_notifyAll (s : State) (p : Port) (m : Motor) (xs : List (Link × NoticeBody)) :
    (s.setMotor p m).notifyAll xs = (s.notifyAll xs).setMotor p m := by
  unfold State.notifyAll
  induction xs generalizing s with
  | nil => rfl
  | cons x rest ih =>
    have hn : (s.setMotor p m).notify x.1 x.2 = (s.notify x.1 x.2).setMotor p m := by
      unfold State.notify
      split <;> split <;> first | rfl | contradiction
    rw [List.foldl_cons, hn, ih, List.foldl_cons]

/-- A command that replaces those of a port outside any pair (R47). -/
theorem State.Unpaired.replaceCommand (h : s.Unpaired p) {c : Command} (hc : c.pair = none) : s.replaceCommand p c =
    (s.notifyAll (s.endings p .superseded)).setMotor p
      { (s.motor p).start (s.motorPart p) c .request with waiting := [] } := by
  have hl := (State.LinksOnly.refl s).notifyAll (s.endings p .superseded)
  have hp : ((s.notifyAll (s.endings p .superseded)).setMotor p { s.motor p with waiting := [] }).motorPart p =
      s.motorPart p := by
    simp only [State.motorPart, State.setMotor_port, hl.motion.port]
  rw [State.replaceCommand_eq, h.endNotices, State.notifyAll_motor, State.startCommand_alone _ _ hc, hp,
    State.setMotor_motor_self, State.setMotor_setMotor, Motor.start_waiting]

end Start

/-! ### The fields of MOVE (R44, R45) -/

section Move
variable {s : State} {p : Port} {l : Link} {tag : Byte} {n : Nat} {b : List Byte}

theorem moveKindOf_iff (n : Nat) : (moveKindOf n = .speed ↔ n = 0) ∧ (moveKindOf n = .position ↔ n = 2) ∧
    (moveKindOf n = .time ↔ n = 3) ∧ (moveKindOf n = .duty ↔ 4 ≤ n) := by
  match n with
  | 0 | 1 | 2 | 3 => simp [moveKindOf]
  | n + 4 => simp [moveKindOf]

theorem speedOf_eq_zero (x : Int) : speedOf x = 0 ↔ x = 0 := by
  unfold speedOf clamp
  omega

/-- The fields of MOVE are in range (R44). -/
theorem moveFields_eq (b : List Byte) : moveFields b = decide (b.length ≠ 13 ∨ 4 < u8 b 2 ∨ 2 < u8 b 10 ∨
    (u8 b 2 ≠ 4 ∧ 1 < u8 b 11) ∨ 1 < u8 b 12 ∨ (u8 b 2 = 3 ∧ (s32 b 4 < 1 ∨ 3600000 < s32 b 4)) ∨
    (s8 b 3 = 0 ∧ u8 b 2 ≠ 0 ∧ u8 b 2 ≠ 4)) := by
  obtain ⟨h0, -, h3, h4⟩ := moveKindOf_iff (u8 b 2)
  rw [Bool.eq_iff_iff]
  simp only [moveFields, timeOutside, Bool.or_eq_true, Bool.and_eq_true, decide_eq_true_eq, ne_eq, h0, h3, h4,
    speedOf_eq_zero]
  omega

/-- The last command in line holds an APPEND up (R45). -/
theorem State.queueChecks_eq (s : State) (p : Port) (x : Nat) : s.queueChecks p (decide (x = 1)) =
    [(decide (s.supply.state = some .cutoff), .supplyLow),
      (decide (x = 1 ∧ (s.motor p).state = .running ∧
        ∃ a, (s.motor p).lastInLine = some a ∧ (a.kind = .speed ∨ a.kind = .duty)), .sequenceError),
      (decide (x = 1 ∧ (s.motor p).state = .running ∧ 4 ≤ (s.motor p).waiting.length), .queueFull)] := by
  unfold State.queueChecks
  dsimp only
  cases (s.motor p).lastInLine <;>
    simp [Bool.decide_and, State.cutoff, beq_eq_decide, Bool.and_assoc]

/-- The checks of MOVE as R44 and R45 name them, on the fields of the body. -/
def State.moveGuard (s : State) (l : Link) (b : List Byte) : List (Bool × Judgement) :=
  let p := portOf (u8 b 0)
  [(moveFields b, .parameterError)] ++ s.portChecks (u8 b 0) (u8 b 1) ++
    [(decide (s.classOf p = some .sensor), .deviceMismatch), (s.plain p && decide (u8 b 2 ≠ 4), .deviceMismatch),
      (s.plain p && decide (u8 b 10 = 2), .deviceMismatch), ((s.motor p).pair.isSome, .portPaired),
      (decide (u8 b 2 = 2 ∧ 2000000000 < (nearest (s32 b 4 * s.cpr p) 360).natAbs), .parameterError),
      (s.heldByOther l p, .heldByOtherLink)] ++ s.queueChecks p (decide (u8 b 12 = 1))

theorem State.distance_eq (s : State) (p : Port) (x : Int) :
    ((s.motorPart p).map (fun m => distanceOf m x)).getD 0 = nearest (x * s.cpr p) 360 := by
  unfold State.cpr distanceOf
  cases s.motorPart p with
  | none => simp [nearest]
  | some m => rfl

theorem State.judge_moveChecks (s : State) (l : Link) (b : List Byte) :
    judge (s.moveChecks l b) = judge (s.moveGuard l b) := by
  cases hf : moveFields b with
  | true => simp [State.moveChecks, State.moveGuard, hf]
  | false =>
    have h4 : u8 b 2 ≤ 4 := by
      rw [moveFields_eq, decide_eq_false_iff_not] at hf
      omega
    obtain ⟨-, h2, -, hd⟩ := moveKindOf_iff (u8 b 2)
    have hd' : moveKindOf (u8 b 2) = .duty ↔ u8 b 2 = 4 := by rw [hd]; omega
    simp only [State.moveChecks, State.moveGuard, ne_eq, hd', h2, State.distance_eq, Bool.decide_and]

theorem State.fields_of_moveGuard (h : judge (s.moveGuard l b) = none) : u8 b 2 ≤ 4 := by
  rw [judge_eq_none] at h
  have hf : moveFields b = false := h _ List.mem_cons_self
  rw [moveFields_eq, decide_eq_false_iff_not] at hf
  omega

theorem amountOf_eq {k : Nat} (hk : k ≤ 4) (lamp : Prop) [Decidable lamp] (x : Int) :
    amountOf (moveKindOf k) (decide lamp) x = if k = 4 then max (if lamp then 0 else -10000) (min 10000 x) else x := by
  match k with
  | 0 | 1 | 2 | 3 | 4 => simp [moveKindOf, amountOf, clamp]

theorem State.move_taken (s : State) (l : Link) (n : Nat) (b : List Byte) : State.move ⟨l, n⟩ b (s.taken l n) =
    (s.taken l n).check ⟨l, n⟩ (s.moveChecks l b) fun t =>
      (((t.claim l (portOf (u8 b 0))).takeNumber (portOf (u8 b 0))).placeCommand (portOf (u8 b 0)) (s.moveCommand l b)
        (decide (u8 b 12 = 1))).complete ⟨l, n⟩ (e16 (s.moveCommand l b).number) := rfl

/-- A MOVE that joins the queue of a RUNNING channel (R47, R48). -/
theorem exec_move_appended (h : s.Waits l tag .move n b) (hj : judge (s.moveChecks l b) = none) (ha : u8 b 12 = 1)
    (hr : (s.motor (portOf (u8 b 0))).state = .running) : exec (.move l tag) s = .next
      (((s.claim l (portOf (u8 b 0))).setMotor (portOf (u8 b 0)) { s.motor (portOf (u8 b 0)) with
        counter := nextNumber (s.motor (portOf (u8 b 0))).counter
        waiting := (s.motor (portOf (u8 b 0))).waiting ++ [s.moveCommand l b] }).answered l tag .move n .normalCompletion
          (e16 (s.moveCommand l b).number)) := by
  refine congrArg Host.Outcome.next (State.serve_done h (s.move_taken l n b) hj (h.of_links rfl)
    (congrArg (fun t : State => t.complete ⟨l, n⟩ _) ?_))
  unfold State.placeCommand
  rw [if_pos]
  · simp only [State.takeNumber, State.setMotor_motor_self, State.setMotor_setMotor]
    rfl
  · simp only [State.takeNumber, State.setMotor_motor_self, ha, decide_true, Bool.true_and, decide_eq_true_eq]
    exact hr

/-- A command of a claimed port takes the next motion number and replaces those there (R43, R47). -/
theorem State.Unpaired.replaceNumbered (h : s.Unpaired p) (l : Link) (n : Nat) {c : Command} (hc : c.pair = none) :
    (((s.taken l n).claim l p).takeNumber p).replaceCommand p c = (s.claimedEnded l p .superseded
      { (s.motor p).start (s.motorPart p) c .request with
        counter := nextNumber (s.motor p).counter, waiting := [] }).taken l n := by
  have hm : (((s.taken l n).claim l p).takeNumber p).motor p =
      { s.motor p with counter := nextNumber (s.motor p).counter } := by
    simp only [State.takeNumber, State.setMotor_motor_self]
    rfl
  have hu : (((s.taken l n).claim l p).takeNumber p).Unpaired p := by
    unfold State.Unpaired
    rw [hm]
    exact h
  have he : (((s.taken l n).claim l p).takeNumber p).endings p .superseded =
      ((s.taken l n).claim l p).endings p .superseded := by
    unfold State.endings State.doneNotice
    rw [hm]
    rfl
  have hp : (((s.taken l n).claim l p).takeNumber p).motorPart p = s.motorPart p :=
    State.claim_motorPart (s.taken l n) l p p
  rw [hu.replaceCommand hc, he, hm, hp, Motor.start_counter, State.takeNumber, State.setMotor_notifyAll,
    State.setMotor_setMotor, State.taken_claimedEnded]

/-- A MOVE that starts at once, on a channel outside any pair (R47, R66). -/
theorem exec_move_started (h : s.Waits l tag .move n b) (hj : judge (s.moveChecks l b) = none)
    (ha : u8 b 12 ≠ 1 ∨ (s.motor (portOf (u8 b 0))).state ≠ .running) (hu : s.Unpaired (portOf (u8 b 0))) :
    exec (.move l tag) s = .next ((s.claimedEnded l (portOf (u8 b 0)) .superseded
      { (s.motor (portOf (u8 b 0))).start (s.motorPart (portOf (u8 b 0))) (s.moveCommand l b) .request with
        counter := nextNumber (s.motor (portOf (u8 b 0))).counter, waiting := [] }).answered l tag .move n
          .normalCompletion (e16 (s.moveCommand l b).number)) := by
  refine congrArg Host.Outcome.next (State.serve_done h (s.move_taken l n b) hj ((h.notifyAll _).of_links rfl)
    (t := s.claimedEnded l (portOf (u8 b 0)) .superseded _) (congrArg (fun t : State => t.complete ⟨l, n⟩ _) ?_))
  unfold State.placeCommand
  rw [if_neg, hu.replaceNumbered l n rfl]
  simp only [State.takeNumber, State.setMotor_motor_self, Bool.and_eq_true, decide_eq_true_eq, not_and_or]
  exact ha

/-- Settles O19, by the checks of MOVE and the place that its command takes. -/
theorem moveAccepted : Obligations.MoveAccepted := by
  intro s l tag n b h p m kind plain last checks number c duty claimed
  have hc : judge checks = judge (s.moveChecks l b) := by
    have hp : ∀ x : Bool, (s.plain p && x) = decide (plain ∧ x = true) := fun x => by
      simp [State.plain, plain, kind, State.classOf]
    rw [State.judge_moveChecks, State.moveGuard, State.queueChecks_eq, moveFields_eq, ← State.portGuard_eq,
      ← State.otherHolds_eq, hp, hp]
    simp only [decide_eq_true_eq]
    rfl
  rw [hc]
  have command : judge (s.moveChecks l b) = none → s.moveCommand l b = c := fun hj => by
    have hk := State.fields_of_moveGuard ((s.judge_moveChecks l b).symm.trans hj)
    simp only [State.moveCommand, amountOf_eq hk]
    rfl
  refine ⟨fun j hj => congrArg _ (State.serve_refused h (s.move_taken l n b) hj), fun hj ha hr => ?_, fun hj ha hu => ?_⟩
  · rw [exec_move_appended h hj ha hr, command hj]
    rfl
  · have hk := State.fields_of_moveGuard ((s.judge_moveChecks l b).symm.trans hj)
    have hd : c.kind = .duty ↔ u8 b 2 = 4 := by
      rw [(moveKindOf_iff (u8 b 2)).2.2.2]
      omega
    intro started
    have hs : { m.start (s.motorPart p) c .request with counter := number, waiting := [] } = started := by
      simp only [started, Motor.start, hd]
      cases s.motorPart p with
      | none => rfl
      | some x =>
        dsimp only
        split <;> rfl
    rw [exec_move_started h hj ha hu, command hj, ← hs]
    rfl

end Move

end Sys2Proof.Machine

/-! PROOF of O24: PAIR MOVE (R43, R45, R47, R57, R66, R76). -/

namespace Sys2Proof.Machine

section PairStart
variable {s : State} {k : Nat} {q : Pair}

/-- The channels of a pair's first and second port with the command `c` of the pair active (R57, R66, R76). -/
def Command.pairStart (c : Command) (part : MotorPart) (origin : StartFrom) (first second : Motor) : Motor × Motor :=
  let firstLeads := c.speedB.natAbs ≤ c.speed.natAbs
  let lead := (if firstLeads then first else second).startEncoder part c origin
  let follower := (if firstLeads then second else first).startFollower part origin lead.profile
  ({ (if firstLeads then lead else follower) with active := some c },
    { (if firstLeads then follower else lead) with active := none })

/-- The same by the ports that lead and follow (R76). -/
theorem Command.pairStart_ports (c : Command) (s : State) (hn : q.first ≠ q.second) (part : MotorPart) (f : StartFrom)
    {lead follower : Port} (hl : lead = if c.speedB.natAbs ≤ c.speed.natAbs then q.first else q.second)
    (hf : follower = if c.speedB.natAbs ≤ c.speed.natAbs then q.second else q.first) :
    let leads := (s.motor lead).startEncoder part c f
    let follows := (s.motor follower).startFollower part f leads.profile
    c.pairStart part f (s.motor q.first) (s.motor q.second) =
      ({ (if q.first = lead then leads else follows) with active := some c },
        { (if q.second = lead then leads else follows) with active := none }) := by
  subst hl hf
  unfold Command.pairStart
  by_cases h : c.speedB.natAbs ≤ c.speed.natAbs
  · simp only [h, if_true, if_neg (Ne.symm hn)]
  · simp only [h, if_true, if_false, if_neg hn]

theorem State.startCommand_bound {part : MotorPart} (hp : s.motorPart q.first = some part) {c : Command}
    (hc : c.pair = some k) (hk : s.pair k = some q) (hn : q.first ≠ q.second) (f : StartFrom) :
    s.startCommand q.first c f =
      (s.setMotor q.first (c.pairStart part f (s.motor q.first) (s.motor q.second)).1).setMotor q.second
        (c.pairStart part f (s.motor q.first) (s.motor q.second)).2 := by
  refine State.MotionOnly.ext (.startCommand s _ c f) (((State.MotionOnly.refl s).setMotor _ _).setMotor _ _) (fun y => ?_)
    (by simp) (by simp)
  simp only [State.startCommand, hp, hc, Option.bind_some, hk, State.setMotor_motor, Command.pairStart]
  by_cases hs : c.speedB.natAbs ≤ c.speed.natAbs
  all_goals
    simp only [leadPort, followPort, hs, decide_true, decide_false, if_true, Bool.false_eq_true, if_false]
    by_cases h1 : y = q.first
    · simp [h1, hn]
    · by_cases h2 : y = q.second
      · simp [h2, Ne.symm hn]
      · simp [h1, h2]

/-- A pair's start reads neither the motion counter nor the commands that wait. -/
theorem Command.pairStart_counter (c : Command) (part : MotorPart) (f : StartFrom) (x y : Motor) (n : Nat) :
    c.pairStart part f { x with counter := n } y =
      ({ (c.pairStart part f x y).1 with counter := n }, (c.pairStart part f x y).2) := by
  unfold Command.pairStart
  by_cases hs : c.speedB.natAbs ≤ c.speed.natAbs
  all_goals
    simp only [hs, if_true, if_false]
    rfl

theorem Command.pairStart_waiting (c : Command) (part : MotorPart) (f : StartFrom) (x y : Motor) (ws : List Command) :
    c.pairStart part f { x with waiting := ws } y =
      ({ (c.pairStart part f x y).1 with waiting := ws }, (c.pairStart part f x y).2) := by
  unfold Command.pairStart
  by_cases hs : c.speedB.natAbs ≤ c.speed.natAbs
  all_goals
    simp only [hs, if_true, if_false]
    rfl

theorem State.LinksOnly.motorPart {t : State} (h : s.LinksOnly t) (p : Port) : t.motorPart p = s.motorPart p := by
  simp only [State.motorPart, h.motion.port]

/-- A command of a bound pair that replaces those there (R47, R57). -/
theorem State.Bound.replaceCommand (h : s.Bound k q) {part : MotorPart} (hp : s.motorPart q.first = some part) {c : Command}
    (hc : c.pair = some k) : s.replaceCommand q.first c =
      ((s.notifyAll (s.pairEndings k q .superseded)).setMotor q.first
        { (c.pairStart part .request (s.motor q.first) (s.motor q.second)).1 with waiting := [] }).setMotor q.second
          (c.pairStart part .request (s.motor q.first) (s.motor q.second)).2 := by
  have hl := (State.LinksOnly.refl s).notifyAll (s.pairEndings k q .superseded)
  rw [State.replaceCommand_eq, h.endNotices, State.startCommand_bound (s := (s.notifyAll _).setMotor _ _) ((hl.motorPart _).trans hp) hc
    ((hl.pair k).trans h.entry) h.ports]
  simp only [State.setMotor_motor, if_pos, if_neg (Ne.symm h.ports), State.setMotor_setMotor, hl.motor,
    Command.pairStart_waiting]

/-- A command of a bound pair takes the next motion number of its first port and replaces those there (R43, R57). -/
theorem State.Bound.replaceNumbered (h : s.Bound k q) {part : MotorPart} (hp : s.motorPart q.first = some part) {c : Command}
    (hc : c.pair = some k) : (s.takeNumber q.first).replaceCommand q.first c =
      ((s.notifyAll (s.pairEndings k q .superseded)).setMotor q.first
        { (c.pairStart part .request (s.motor q.first) (s.motor q.second)).1 with
          counter := nextNumber (s.motor q.first).counter, waiting := [] }).setMotor q.second
          (c.pairStart part .request (s.motor q.first) (s.motor q.second)).2 := by
  have h1 : (s.takeNumber q.first).motor q.first =
      { s.motor q.first with counter := nextNumber (s.motor q.first).counter } := State.setMotor_motor_self _ _ _
  have h2 : (s.takeNumber q.first).motor q.second = s.motor q.second := by
    rw [State.takeNumber, State.setMotor_motor, if_neg (Ne.symm h.ports)]
  have hb : (s.takeNumber q.first).Bound k q :=
    ⟨h.entry, h.ports, by rw [h1, h2]; exact h.pair, by rw [h2]; exact h.second, by rw [h1]; exact h.commands⟩
  have he : (s.takeNumber q.first).pairEndings k q .superseded = s.pairEndings k q .superseded := by
    unfold State.pairEndings State.pairEnd State.pairNotice
    dsimp only
    rw [h1, h2]
    rfl
  rw [hb.replaceCommand hp hc, he, h1, h2, Command.pairStart_counter, State.takeNumber, State.setMotor_notifyAll,
    State.setMotor_setMotor]

end PairStart

/-! ### PAIR MOVE (R57) -/

section PairMove
variable {s : State} {l : Link} {tag : Byte} {n : Nat} {b : List Byte} {q : Pair}

/-- The fields of PAIR MOVE are in range (R57). -/
theorem pairMoveFields_eq (b : List Byte) : pairMoveFields b = decide (b.length ≠ 13 ∨ 2 < u8 b 0 ∨
    (u8 b 1 ≠ 0 ∧ u8 b 1 ≠ 1 ∧ u8 b 1 ≠ 3) ∨ 2 < u8 b 10 ∨ 1 < u8 b 11 ∨ 1 < u8 b 12 ∨
    (u8 b 1 = 3 ∧ (s32 b 4 < 1 ∨ 3600000 < s32 b 4)) ∨ (u8 b 1 ≠ 0 ∧ s8 b 2 = 0 ∧ s8 b 3 = 0)) := by
  rw [Bool.eq_iff_iff]
  simp only [pairMoveFields, timeOutside, Bool.or_eq_true, Bool.and_eq_true, decide_eq_true_eq, ne_eq, speedOf_eq_zero]
  omega

/-- The checks of PAIR MOVE on a bound entry (R57). -/
def State.pairMoveChecks (s : State) (l : Link) (b : List Byte) (q : Pair) : List (Bool × Judgement) :=
  [(pairMoveFields b, .parameterError), (decide (q.holder ≠ l), .heldByOtherLink)] ++
    s.queueChecks q.first (decide (u8 b 12 = 1))

theorem State.pairMove_taken (hq : s.pair (u8 b 0) = some q) (l : Link) (n : Nat) :
    State.pairMove ⟨l, n⟩ b (s.taken l n) = (s.taken l n).check ⟨l, n⟩ (s.pairMoveChecks l b q) fun t =>
      ((t.takeNumber q.first).placeCommand q.first (s.pairCommand l q b) (decide (u8 b 12 = 1))).complete ⟨l, n⟩
        (e16 (s.pairCommand l q b).number) := by
  have hq' : (s.taken l n).pair (u8 b 0) = some q := hq
  unfold State.pairMove
  rw [hq']
  rfl

theorem exec_pairMove_free (h : s.Waits l tag .pairMove n b) (hq : s.pair (u8 b 0) = none) :
    exec (.pairMove l tag) s = .next (s.answered l tag .pairMove n .parameterError []) := by
  have hq' : (s.taken l n).pair (u8 b 0) = none := hq
  refine congrArg _ ((State.serve_waits h _).trans (Eq.trans ?_ (State.respond_taken h .parameterError [])))
  unfold State.pairMove
  rw [hq']
  rfl

/-- A PAIR MOVE that joins the queue of a running pair (R47, R57). -/
theorem exec_pairMove_appended (h : s.Waits l tag .pairMove n b) (hq : s.pair (u8 b 0) = some q)
    (hj : judge (s.pairMoveChecks l b q) = none) (ha : u8 b 12 = 1) (hr : (s.motor q.first).state = .running) :
    exec (.pairMove l tag) s = .next ((s.setMotor q.first { s.motor q.first with
      counter := nextNumber (s.motor q.first).counter
      waiting := (s.motor q.first).waiting ++ [s.pairCommand l q b] }).answered l tag .pairMove n .normalCompletion
        (e16 (s.pairCommand l q b).number)) := by
  refine congrArg Host.Outcome.next (State.serve_done h (State.pairMove_taken hq l n) hj (h.of_links rfl)
    (congrArg (fun t : State => t.complete ⟨l, n⟩ _) ?_))
  unfold State.placeCommand
  rw [if_pos]
  · simp only [State.takeNumber, State.setMotor_motor_self, State.setMotor_setMotor]
    rfl
  · simp only [State.takeNumber, State.setMotor_motor_self, ha, decide_true, Bool.true_and, decide_eq_true_eq]
    exact hr

/-- A PAIR MOVE that starts at once (R47, R57, R76). -/
theorem exec_pairMove_started (h : s.Waits l tag .pairMove n b) (hb : s.Bound (u8 b 0) q)
    (hj : judge (s.pairMoveChecks l b q) = none) (ha : u8 b 12 ≠ 1 ∨ (s.motor q.first).state ≠ .running)
    {part : MotorPart} (hp : s.motorPart q.first = some part) :
    let x := (s.pairCommand l q b).pairStart part .request (s.motor q.first) (s.motor q.second)
    exec (.pairMove l tag) s = .next ((((s.notifyAll (s.pairEndings (u8 b 0) q .superseded)).setMotor q.first
      { x.1 with counter := nextNumber (s.motor q.first).counter, waiting := [] }).setMotor q.second x.2).answered l tag
        .pairMove n .normalCompletion (e16 (s.pairCommand l q b).number)) := by
  intro x
  refine congrArg Host.Outcome.next (State.serve_done h (State.pairMove_taken hb.entry l n) hj ((h.notifyAll _).of_links rfl)
    (congrArg (fun t : State => t.complete ⟨l, n⟩ _) ?_)
    (t := ((s.notifyAll (s.pairEndings (u8 b 0) q .superseded)).setMotor q.first
      { x.1 with counter := nextNumber (s.motor q.first).counter, waiting := [] }).setMotor q.second x.2))
  have he : (s.taken l n).pairEndings (u8 b 0) q .superseded = s.pairEndings (u8 b 0) q .superseded := rfl
  unfold State.placeCommand
  rw [if_neg, (hb.taken l n).replaceNumbered (c := s.pairCommand l q b) hp rfl, he, State.taken_notifyAll]
  · rfl
  · simp only [State.takeNumber, State.setMotor_motor_self, Bool.and_eq_true, decide_eq_true_eq, not_and_or]
    exact ha

/-- A channel that runs, and not under a DUTY command. -/
theorem Motor.encoderRuns_iff (m : Motor) : (m.state = .running ∧ ¬ m.overDuty) ↔
    m.state = .running ∧ ∀ a, m.active = some a → a.kind ≠ .duty := by
  unfold Motor.overDuty
  constructor
  · exact fun ⟨hs, h⟩ => ⟨hs, fun a ha hk => h ⟨hs, a, ha, hk⟩⟩
  · exact fun ⟨hs, h⟩ => ⟨hs, fun ⟨_, a, ha, hk⟩ => h a ha hk⟩

theorem leadSpeed_pair {c : Command} (hc : c.pair = some k) :
    leadSpeed c = if c.speedB.natAbs ≤ c.speed.natAbs then c.speed else c.speedB := by
  simp [leadSpeed, hc]

/-- Settles O24, by the checks of PAIR MOVE and the start of its command on both channels. -/
theorem pairMoveStarts : Obligations.PairMoveStarts := by
  intro s l tag n b h
  refine ⟨exec_pairMove_free h, ?_⟩
  intro q hq m last checks number c firstLeads lead follower
  have hc : checks = s.pairMoveChecks l b q := by
    rw [State.pairMoveChecks, State.queueChecks_eq, pairMoveFields_eq]
    rfl
  rw [hc]
  refine ⟨fun j hj => congrArg _ (State.serve_refused h (State.pairMove_taken hq l n) hj),
    fun hj ha hr => exec_pairMove_appended h hq hj ha hr, ?_⟩
  intro x hj ha hb hx f leads follows runs
  have hv : leads.profile.vt = (((if firstLeads then c.speed else c.speedB).natAbs : Int) * leads.profile.vmax).tdiv 100 := by
    obtain ⟨h1, -, -, h4, -⟩ := startProfile_fields x c (s.motor lead).position (startRefs (s.motor lead) .request (vMaxOf x))
    rw [leadSpeed_pair (c := c) rfl] at h4
    rw [show leads.profile.vmax = vMaxOf x from h1]
    exact h4
  obtain ⟨-, hp, hi⟩ := @startRefs_request f (Classical.dec _) (vMaxOf x)
  simp only [f.encoderRuns_iff] at hp hi
  refine ⟨?_, rfl, rfl, hv, hp.trans (by congr), hi.trans (by congr)⟩
  have started := c.pairStart_ports s hb.ports x .request (lead := lead) (follower := follower) rfl rfl
  have he := exec_pairMove_started h hb hj ha hx
  rw [show s.pairCommand l q b = c from rfl, started] at he
  exact he

end PairMove

end Sys2Proof.Machine

/-! SUPPORT. The ends that a command finds by itself (R49 to R51, R57, R70, R71, R75, R78): each row as one condition, and the
channels that the end of an active command leaves. -/

namespace Sys2Proof.Machine

section OwnEnds
variable {s : State} {p qp : Port} {k : Nat} {q : Pair} {c : Command}

theorem State.unlessHeld_held (h : s.hub.held = true) (f : State → State) : s.unlessHeld f = s := by
  simp [State.unlessHeld, h]

theorem MoveKind.bounded_iff (k : MoveKind) : k.bounded = true ↔ k = .degrees ∨ k = .position := by
  cases k <;> simp [MoveKind.bounded]

/-! ### The rows -/

/-- Without an active command no row acts. -/
theorem State.ownEnds_idle (h : (s.motor (s.queuePort p)).active = none) : s.timeRunEnd p = s ∧ s.settleDone p = s ∧
    s.settleTimeout p = s ∧ s.recogniseStall p = s := by
  simp only [State.timeRunEnd, State.settleDone, State.settleTimeout, State.recogniseStall, h, and_self]

/-- SETTLE DONE, where the commands of `p` stand with `qp` (R71, R78). -/
theorem State.settleDone_eq (hq : s.queuePort p = qp) (hc : (s.motor qp).active = some c) : s.settleDone p =
    if (c.kind = .degrees ∨ c.kind = .position) ∧
      ∀ x ∈ s.portsOf qp c, (s.motor x).profile.settling = true ∧ 3 ≤ (s.motor x).profile.inTol
    then s.finish qp .done .afterDone else s := by
  simp only [State.settleDone, hq, hc, Bool.and_eq_true, MoveKind.bounded_iff, List.all_eq_true, decide_eq_true_eq]

theorem State.settleTimeout_eq (hq : s.queuePort p = qp) (hc : (s.motor qp).active = some c) : s.settleTimeout p =
    if (c.kind = .degrees ∨ c.kind = .position) ∧ (s.motor qp).profile.settling = true ∧
      80 ≤ (s.motor qp).profile.settleTimer
    then s.finish qp .done .afterDone else s := by
  simp only [State.settleTimeout, hq, hc, Bool.and_eq_true, MoveKind.bounded_iff, decide_eq_true_eq, and_assoc]

/-- The channel of a TIME command in its ramp-down (R70). -/
def Motor.runDown (m : Motor) : Motor := { m with profile := { m.profile with rampDown := true, phase := .decel } }

theorem State.timeRunEnd_eq (hq : s.queuePort p = qp) (hc : (s.motor qp).active = some c) : s.timeRunEnd p =
    if c.kind = .time ∧ (c.amount.toNat + 4) / 5 < (s.motor (s.profilePort qp c)).profile.elapsed ∧
      (s.motor (s.profilePort qp c)).profile.rampDown = false
    then s.setMotor (s.profilePort qp c) (s.motor (s.profilePort qp c)).runDown else s := by
  simp only [State.timeRunEnd, hq, hc, Bool.and_eq_true, decide_eq_true_eq, Bool.not_eq_true', and_assoc]
  rfl

/-- The command `c` of queue port `qp` has stalled for 100 periods (R75). -/
def State.Stalled (s : State) (qp : Port) (c : Command) : Prop :=
  c.kind ≠ .duty ∧ ∃ x ∈ s.portsOf qp c, 100 ≤ (s.motor x).stallTimer

theorem State.recogniseStall_undue (hq : s.queuePort p = qp) (hc : (s.motor qp).active = some c) (h : ¬ s.Stalled qp c) :
    s.recogniseStall p = s := by
  unfold State.Stalled at h
  simp only [State.recogniseStall, hq, hc, Bool.and_eq_true, decide_eq_true_eq, List.any_eq_true, h, if_false]

/-- STALL RECOGNISED under FAIL (R51, R75). -/
theorem State.recogniseStall_fail (hq : s.queuePort p = qp) (hc : (s.motor qp).active = some c) (h : s.Stalled qp c)
    (hp : c.stall = .fail) : s.recogniseStall p = (s.endAll qp .stalled).enterAll (s.portsOf qp c) .coast := by
  unfold State.Stalled at h
  simp only [State.recogniseStall, hq, hc, Bool.and_eq_true, decide_eq_true_eq, List.any_eq_true, hp]
  exact if_pos h

/-- STALL RECOGNISED under FINISH (R51, R75). -/
theorem State.recogniseStall_finish (hq : s.queuePort p = qp) (hc : (s.motor qp).active = some c) (h : s.Stalled qp c)
    (hp : c.stall = .finish) : s.recogniseStall p = s.finish qp .stallEnd .afterStall := by
  unfold State.Stalled at h
  simp only [State.recogniseStall, hq, hc, Bool.and_eq_true, decide_eq_true_eq, List.any_eq_true, hp]
  exact if_pos h

theorem State.profilePort_single (s : State) (p : Port) (hc : c.pair = none) : s.profilePort p c = p := by
  simp [State.profilePort, hc]

theorem State.profilePort_double (p : Port) (hc : c.pair = some k) (hk : s.pair k = some q) :
    s.profilePort p c = leadPort c q := by
  simp [State.profilePort, hc, hk]

/-! ### The end of an active command (R49, R51) -/

theorem Motor.enter_stopped {m : Motor} (hw : m.waiting = []) (e : EndAction) (x : Int) : m.enter e x = m.ended e x := by
  cases e <;> simp only [Motor.enter, Motor.rest, Motor.hold, Motor.ended, hw]

/-- Where a HOLD end action holds: at the target after a DEGREES or POSITION command that ended DONE, else at the position
(R50). -/
def Motor.restsAt (m : Motor) (c : Command) (o : EndOutcome) : Int :=
  if o = .done ∧ (c.kind = .degrees ∨ c.kind = .position) then m.profile.target else m.position

theorem Motor.restsAt_done (m : Motor) (h : c.kind = .degrees ∨ c.kind = .position) : m.restsAt c .done = m.profile.target :=
  if_pos ⟨rfl, h⟩

theorem Motor.restsAt_stallEnd (m : Motor) (c : Command) : m.restsAt c .stallEnd = m.position := if_neg (by simp)

/-- The channel of a motor part on which the command `c` has ended: the oldest waiting command starts, or the end action
applies, a HOLD at `target` (R49, R51). -/
def Motor.next (m : Motor) (part : Option MotorPart) (c : Command) (target : Int) (f : StartFrom) : Motor :=
  match m.waiting with
  | [] => m.ended c.endAction target
  | next :: rest => { m.start part next f with waiting := rest }

theorem Motor.next_stops {m : Motor} (hw : m.waiting = []) (part : Option MotorPart) (c : Command) (target : Int)
    (f : StartFrom) : m.next part c target f = m.ended c.endAction target := by
  simp only [Motor.next, hw]

theorem Motor.next_goesOn {m : Motor} {next : Command} {rest : List Command} (hw : m.waiting = next :: rest)
    (part : Option MotorPart) (c : Command) (target : Int) (f : StartFrom) :
    m.next part c target f = { m.start part next f with waiting := rest } := by
  simp only [Motor.next, hw]

theorem State.notifyAll_one (s : State) (x : Link × NoticeBody) : s.notifyAll [x] = s.notify x.1 x.2 := rfl

theorem State.Unpaired.motionDone (h : s.Unpaired p) (hc : (s.motor p).active = some c) (o : EndOutcome) :
    s.motionDone p c o true = s.notifyAll [s.doneNotice p o c ((s.motor p).errorAtEnd c)] := by
  rw [State.motionDone_eq, State.notifyAll_one]
  exact congrArg (fun x : Link × NoticeBody => s.notify x.1 x.2) (State.doneBody_single p (h.2.1 c hc) o true)

theorem State.Bound.motionDone (h : s.Bound k q) (hc : (s.motor q.first).active = some c) (o : EndOutcome) :
    s.motionDone q.first c o true = s.notifyAll [s.pairEnd k q o c] := by
  rw [State.motionDone_eq, State.notifyAll_one]
  exact congrArg (fun x : Link × NoticeBody => s.notify x.1 x.2)
    (h.doneBody (h.commands c (by simp [hc])) o true q.first)

/-- The end of the active command of a port outside any pair. -/
theorem State.Unpaired.finish (h : s.Unpaired p) (hc : (s.motor p).active = some c) (o : EndOutcome) (f : StartFrom) :
    s.finish p o f = (s.notifyAll [s.doneNotice p o c ((s.motor p).errorAtEnd c)]).setMotor p
      ((s.motor p).next (s.motorPart p) c ((s.motor p).restsAt c o) f) := by
  have hl := (State.LinksOnly.refl s).notifyAll [s.doneNotice p o c ((s.motor p).errorAtEnd c)]
  have hp : (s.notifyAll [s.doneNotice p o c ((s.motor p).errorAtEnd c)]).portsOf p c = [p] :=
    State.portsOf_single _ p (h.2.1 c hc)
  unfold State.finish
  simp only [hc, h.motionDone hc]
  cases hw : (s.motor p).waiting with
  | nil =>
    simp only [hp, List.foldl_cons, List.foldl_nil, hl.motor, Motor.next_stops hw, Motor.enter_stopped hw, Motor.restsAt,
      Bool.and_eq_true, decide_eq_true_eq, MoveKind.bounded_iff]
  | cons next rest =>
    have hn : next.pair = none := h.2.2 next (by simp [hw])
    simp only [Motor.next_goesOn hw]
    rw [State.startCommand_alone _ _ hn, State.setMotor_setMotor, State.setMotor_motor_self, hl.motor, Motor.start_waiting]
    exact congrArg _ (congrArg (fun x => { (s.motor p).start x next f with waiting := rest }) (hl.motorPart p))

/-- The end of the active command of a bound pair with no other waiting: the end action applies to both channels. -/
theorem State.Bound.finish_stops (h : s.Bound k q) (hc : (s.motor q.first).active = some c)
    (hw : (s.motor q.first).waiting = []) (o : EndOutcome) (f : StartFrom) : s.finish q.first o f =
      ((s.notifyAll [s.pairEnd k q o c]).setMotor q.first
        ((s.motor q.first).ended c.endAction ((s.motor q.first).restsAt c o))).setMotor q.second
          ((s.motor q.second).ended c.endAction ((s.motor q.second).restsAt c o)) := by
  have hl := (State.LinksOnly.refl s).notifyAll [s.pairEnd k q o c]
  have hp : (s.notifyAll [s.pairEnd k q o c]).portsOf q.first c = [q.first, q.second] :=
    State.portsOf_double _ (h.commands c (by simp [hc])) ((hl.pair k).trans h.entry)
  unfold State.finish
  simp only [hc, hw, h.motionDone hc, hp, List.foldl_cons, List.foldl_nil, hl.motor, State.setMotor_motor,
    if_neg (Ne.symm h.ports), Motor.enter_stopped hw, Motor.enter_stopped h.second.2, Motor.restsAt, Bool.and_eq_true,
    decide_eq_true_eq, MoveKind.bounded_iff]

/-- With another command waiting, it starts on both channels. -/
theorem State.Bound.finish_goesOn (h : s.Bound k q) (hc : (s.motor q.first).active = some c) {next : Command}
    {rest : List Command} (hw : (s.motor q.first).waiting = next :: rest) {part : MotorPart}
    (hp : s.motorPart q.first = some part) (o : EndOutcome) (f : StartFrom) : s.finish q.first o f =
      ((s.notifyAll [s.pairEnd k q o c]).setMotor q.first
        { (next.pairStart part f (s.motor q.first) (s.motor q.second)).1 with waiting := rest }).setMotor q.second
          (next.pairStart part f (s.motor q.first) (s.motor q.second)).2 := by
  have hl := (State.LinksOnly.refl s).notifyAll [s.pairEnd k q o c]
  unfold State.finish
  simp only [hc, hw, h.motionDone hc]
  rw [State.startCommand_bound (s := (s.notifyAll _).setMotor _ _) ((hl.motorPart _).trans hp)
    (h.commands next (by simp [hw])) ((hl.pair k).trans h.entry) h.ports]
  simp only [State.setMotor_motor, if_pos, if_neg (Ne.symm h.ports), State.setMotor_setMotor, hl.motor,
    Command.pairStart_waiting]

/-- Every command of a bound pair ends, and both channels enter the state of an end action (R43, R50). -/
theorem State.Bound.endEnter (h : s.Bound k q) (o : EndOutcome) (e : EndAction) :
    (s.endAll q.first o).enterAll [q.first, q.second] e = (s.notifyAll (s.pairEndings k q o)).pairStopped q e := by
  have hl := (State.LinksOnly.refl s).notifyAll (s.pairEndings k q o)
  refine State.MotionOnly.ext (.endEnter s _ _ _ _) ((hl.motion.setMotor _ _).setMotor _ _) (fun x => ?_) ?_ ?_
  · rw [State.endEnter_motors s h.ports h.second.2 h.second.1]
    simp only [State.pairStopped, State.setMotor_motor, State.notifyAll_motor]
    by_cases h2 : x = q.second
    · rw [if_pos (.inr h2), if_pos h2, h2]
    · by_cases h1 : x = q.first
      · rw [if_pos (.inl h1), if_neg h2, if_pos h1, h1]
      · rw [if_neg (not_or.mpr ⟨h1, h2⟩), if_neg h2, if_neg h1]
  · rw [State.enterAll_pairs, State.endAll_pairs]
    exact hl.pairs.symm
  · rw [State.enterAll_links, State.endAll_links, h.endNotices]
    rfl

theorem State.pairStopped_told (s : State) (xs : List (Link × NoticeBody)) (q : Pair) (e : EndAction) :
    (s.notifyAll xs).pairStopped q e =
      ((s.notifyAll xs).setMotor q.first ((s.motor q.first).ended e (s.motor q.first).position)).setMotor q.second
        ((s.motor q.second).ended e (s.motor q.second).position) := by
  simp only [State.pairStopped, State.notifyAll_motor]

/-! ### Stalls alone and in a pair -/

theorem State.Unpaired.stalled_iff (h : s.Unpaired p) (hc : (s.motor p).active = some c) :
    s.Stalled p c ↔ c.kind ≠ .duty ∧ 100 ≤ (s.motor p).stallTimer := by
  simp [State.Stalled, State.portsOf_single s p (h.2.1 c hc)]

theorem State.Bound.stalled_iff (h : s.Bound k q) (hc : (s.motor q.first).active = some c) : s.Stalled q.first c ↔
    c.kind ≠ .duty ∧ (100 ≤ (s.motor q.first).stallTimer ∨ 100 ≤ (s.motor q.second).stallTimer) := by
  simp [State.Stalled, State.portsOf_double q.first (h.commands c (by simp [hc])) h.entry]

end OwnEnds

/-! PROOF of O26: TIME RUN END, SETTLE DONE, SETTLE TIMEOUT and STALL RECOGNISED (R49 to R51, R57, R70, R71, R75, R78). -/

section Rows
variable {s : State} {p : Port} {k : Nat} {q : Pair} {c : Command}

theorem exec_ownEnds (hh : s.hub.held = false) (p : Port) :
    exec (.timeRunEnd p) s = .next (s.timeRunEnd p) ∧ exec (.settleDone p) s = .next (s.settleDone p) ∧
    exec (.settleTimeout p) s = .next (s.settleTimeout p) ∧ exec (.stallRecognised p) s = .next (s.recogniseStall p) :=
  ⟨congrArg _ (State.unlessHeld_free hh _), congrArg _ (State.unlessHeld_free hh _),
    congrArg _ (State.unlessHeld_free hh _), congrArg _ (State.unlessHeld_free hh _)⟩

theorem exec_ownEnds_held (hh : s.hub.held = true) (p : Port) : exec (.timeRunEnd p) s = .next s ∧
    exec (.settleDone p) s = .next s ∧ exec (.settleTimeout p) s = .next s ∧ exec (.stallRecognised p) s = .next s :=
  ⟨congrArg _ (State.unlessHeld_held hh _), congrArg _ (State.unlessHeld_held hh _),
    congrArg _ (State.unlessHeld_held hh _), congrArg _ (State.unlessHeld_held hh _)⟩

theorem exec_ownEnds_idle (h : (s.motor (s.queuePort p)).active = none) : exec (.timeRunEnd p) s = .next s ∧
    exec (.settleDone p) s = .next s ∧ exec (.settleTimeout p) s = .next s ∧ exec (.stallRecognised p) s = .next s := by
  cases hh : s.hub.held with
  | true => exact exec_ownEnds_held hh p
  | false =>
    have he := exec_ownEnds hh p
    obtain ⟨h1, h2, h3, h4⟩ := State.ownEnds_idle h
    rwa [h1, h2, h3, h4] at he

/-- Settles O26, by the rows' conditions and the end of the active command, alone and in a pair. -/
theorem commandsEndByThemselves : Obligations.CommandsEndByThemselves := by
  refine ⟨fun s p h => ?_, ?_, ?_⟩
  · rcases h with hh | ⟨hu, ha⟩ | ⟨k, q, hb, hp, ha⟩
    · exact exec_ownEnds_held hh p
    · exact exec_ownEnds_idle (by rw [State.queuePort_unpaired hu.1, ha])
    · exact exec_ownEnds_idle (by rw [State.queuePort_bound (hb.pairOf hp) hb.entry, ha])
  · intro s p c hh m hu hc bounded ends overTime settled late stalled
    have hq : s.queuePort p = p := State.queuePort_unpaired hu.1
    have hports : s.portsOf p c = [p] := State.portsOf_single s p (hu.2.1 c hc)
    have hstall := hu.stalled_iff hc
    obtain ⟨e1, e2, e3, e4⟩ := exec_ownEnds hh p
    have hsettled : settled ↔ bounded ∧ ∀ x ∈ s.portsOf p c,
        (s.motor x).profile.settling = true ∧ 3 ≤ (s.motor x).profile.inTol := by simp [settled, hports, m]
    have hends : ∀ o, m.waiting = [] → ∀ f, s.finish p o f = ends o (m.restsAt c o) := fun o hw f => by
      rw [hu.finish hc, Motor.next_stops hw]
    rw [e1, e2, e3, e4, State.timeRunEnd_eq hq hc, State.settleDone_eq hq hc, State.settleTimeout_eq hq hc,
      State.profilePort_single s p (hu.2.1 c hc)]
    refine ⟨fun h => ?_, fun h => ?_, fun h hw => ?_, fun h => ?_, fun h hw => ?_, fun h => ?_, fun h hf => ?_,
      fun h hf hw => ?_, fun h => ?_⟩ <;> refine congrArg Host.Outcome.next ?_
    · exact if_pos h
    · exact if_neg h
    · rw [if_pos (hsettled.mp h), hends _ hw, Motor.restsAt_done m h.1]
    · exact if_neg fun e => h (hsettled.mpr e)
    · rw [if_pos h, hends _ hw, Motor.restsAt_done m h.1]
    · exact if_neg h
    · rw [State.recogniseStall_fail hq hc (hstall.mpr h) hf, hports, hu.endEnter]
      rfl
    · rw [State.recogniseStall_finish hq hc (hstall.mpr h) hf, hends _ hw, Motor.restsAt_stallEnd]
    · exact State.recogniseStall_undue hq hc fun e => h (hstall.mp e)
  · intro s p k q c hh hb hp hc m bounded both ends settled late stalled lead x overTime
    have hq : s.queuePort p = q.first := State.queuePort_bound (hb.pairOf hp) hb.entry
    have hpair : c.pair = some k := hb.commands c (by simp [hc])
    have hports : s.portsOf q.first c = [q.first, q.second] := State.portsOf_double _ hpair hb.entry
    have hlead : s.profilePort q.first c = lead := by
      rw [State.profilePort_double _ hpair hb.entry]
      simp only [leadPort, decide_eq_true_eq, lead]
    have hstall := hb.stalled_iff hc
    obtain ⟨e1, e2, e3, e4⟩ := exec_ownEnds hh p
    have hsettled : settled ↔ bounded ∧ ∀ x ∈ s.portsOf q.first c,
        (s.motor x).profile.settling = true ∧ 3 ≤ (s.motor x).profile.inTol := by simp [settled, both, hports, m]
    have hends : ∀ o, m.waiting = [] → ∀ f, s.finish q.first o f = ends o (fun x => x.restsAt c o) := fun o hw f =>
      hb.finish_stops hc hw o f
    rw [e1, e2, e3, e4, State.timeRunEnd_eq hq hc, State.settleDone_eq hq hc, State.settleTimeout_eq hq hc, hlead]
    refine ⟨fun h => ?_, fun h => ?_, fun h hw => ?_, fun h => ?_, fun h hw => ?_, fun h => ?_, fun h hf => ?_,
      fun h hf hw => ?_, fun h => ?_⟩ <;> refine congrArg Host.Outcome.next ?_
    · exact if_pos h
    · exact if_neg h
    · rw [if_pos (hsettled.mp h), hends _ hw]
      simp only [Motor.restsAt_done _ h.1]
    · exact if_neg fun e => h (hsettled.mpr e)
    · rw [if_pos h, hends _ hw]
      simp only [Motor.restsAt_done _ h.1]
    · exact if_neg h
    · rw [State.recogniseStall_fail hq hc (hstall.mpr h) hf, hports, hb.endEnter, State.pairStopped_told]
      rfl
    · rw [State.recogniseStall_finish hq hc (hstall.mpr h) hf, hends _ hw]
      simp only [Motor.restsAt_stallEnd]
    · exact State.recogniseStall_undue hq hc fun e => h (hstall.mp e)

end Rows

end Sys2Proof.Machine

/-! PROOF of O27: the oldest waiting command starts (R46, R49, R51, R62, R66, R67, R70, R71, R74). -/

namespace Sys2Proof.Machine

section NextStarts
variable {s : State} {p : Port} {c next : Command} {rest : List Command} {m : Motor} {f : StartFrom} {p0 i0 u0 : Int}

/-- The start of a command from rest, as it is after an end (R66). -/
def Motor.FromRest (m : Motor) (f : StartFrom) (p0 i0 : Int) : Prop :=
  ∀ vmax, (startRefs m f vmax).v = 0 ∧ (startRefs m f vmax).pRef = p0 ∧ (startRefs m f vmax).integral = i0

theorem Motor.fromRest_afterDone (m : Motor) : m.FromRest .afterDone m.profile.pRef m.integral := fun _ => ⟨rfl, rfl, rfl⟩

theorem Motor.fromRest_afterStall (m : Motor) : m.FromRest .afterStall (m.position * 1000) 0 := fun _ => ⟨rfl, rfl, rfl⟩

/-- A command that starts from rest has the channel, with every count and v at 0. -/
theorem Motor.start_fromRest (h : m.FromRest f p0 i0) (part : Option MotorPart) (c : Command) :
    let t := m.start part c f
    t.active = some c ∧ t.state = .running ∧ t.position = m.position ∧ t.stallTimer = 0 ∧ t.holdTarget = none ∧
    t.profile.v = 0 ∧ t.profile.elapsed = 0 ∧ t.profile.inTol = 0 ∧ t.profile.settleTimer = 0 ∧
    t.profile.rampDown = false := by
  cases part with
  | none => exact ⟨rfl, rfl, rfl, rfl, rfl, rfl, rfl, rfl, rfl, rfl⟩
  | some x =>
    by_cases hk : c.kind = .duty
    · rw [Motor.start, if_pos hk]
      exact ⟨rfl, rfl, rfl, rfl, rfl, rfl, rfl, rfl, rfl, rfl⟩
    · rw [Motor.start, if_neg hk]
      obtain ⟨hv, -, -⟩ := h (vMaxOf x)
      obtain ⟨-, -, -, -, -, -, h1, h2, h3, h4, -⟩ := startProfile_fields x c m.position (startRefs m f (vMaxOf x))
      refine ⟨rfl, rfl, rfl, rfl, rfl, ?_, h1, h2, h3, h4⟩
      by_cases hn : noTravel c (targetOf x c (startRefs m f (vMaxOf x)).pRef) (startRefs m f (vMaxOf x)).pRef m.position
          (tolOf x) = true
      · exact (startProfile_still hn).1
      · exact (startProfile_moving hn).1.trans hv

theorem Motor.start_duty (hk : c.kind = .duty) (m : Motor) (part : Option MotorPart) (f : StartFrom) :
    m.start part c f = m.startDuty c := by
  cases part with
  | none => rfl
  | some x => rw [Motor.start, if_pos hk]

theorem tolOf_eq (x : MotorPart) : tolOf x = (max 1 (x.cpr / 120) : Nat) := by
  simp [tolOf, towardZero]

/-- An encoder command that starts from rest at the reference `p0`. -/
theorem Motor.startEncoder_fromRest (h : m.FromRest f p0 i0) (x : MotorPart) (hc : c.pair = none) :
    let t := m.startEncoder x c f
    let distance := nearest (c.amount * x.cpr) 360
    let target := if c.kind = .degrees
        then max (-2000000000) (min 2000000000 (p0.tdiv 1000 + distance * c.speed.sign))
      else if c.kind = .position then distance else 0
    let still := (c.kind = .degrees ∧ (target * 1000 = p0 ∨ c.amount = 0)) ∨
      (c.kind = .position ∧ (target * 1000 = p0 ∨ (target - m.position).natAbs ≤ max 1 (x.cpr / 120)))
    t.integral = i0 ∧ t.profile.target = target ∧
    (still → t.profile.pRef = target * 1000 ∧ t.profile.settling = true ∧ t.profile.phase = .settle) ∧
    (¬ still → t.profile.pRef = p0 ∧ t.profile.settling = false) := by
  intro t distance target still
  obtain ⟨-, hp, hi⟩ := h (vMaxOf x)
  have ht : targetOf x c p0 = target := targetOf_single x hc p0
  have hstill : noTravel c target p0 m.position (tolOf x) = true ↔ still := by
    rw [noTravel_iff, tolOf_eq]
    simp only [Nat.cast_le, still]
  obtain ⟨-, -, h3, -⟩ := startProfile_fields x c m.position (startRefs m f (vMaxOf x))
  have hs := @startProfile_still x c m.position (startRefs m f (vMaxOf x))
  have hm := @startProfile_moving x c m.position (startRefs m f (vMaxOf x))
  rw [hp, ht] at hs h3
  rw [hp, ht] at hm
  rw [hstill] at hs hm
  exact ⟨hi, h3, fun e => ⟨(hs e).2.1, (hs e).2.2.2, (hs e).2.2.1⟩, fun e => (hm e).2⟩

/-- Settles O27, by the end of the active command and the start of the oldest waiting one from rest. -/
theorem nextCommandStarts : Obligations.NextCommandStarts := by
  intro s p c next rest hh m hu hc hw goesOn done bounded
  have hn : next.pair = none := hu.2.2 next (hw ▸ List.mem_cons_self)
  have key : ∀ o f p0 i0, m.FromRest f p0 i0 → goesOn o f p0 i0 (s.finish p o f) := fun o f p0 i0 hr => by
    have ht : s.finish p o f = (s.notifyAll [s.doneNotice p o c (m.errorAtEnd c)]).setMotor p
        { m.start (s.motorPart p) next f with waiting := rest } := by rw [hu.finish hc, Motor.next_goesOn hw]
    have hm : (s.finish p o f).motor p = { m.start (s.motorPart p) next f with waiting := rest } := by
      rw [ht, State.setMotor_motor_self]
    obtain ⟨h1, h2, h3, h4, h5, h6⟩ := Motor.start_fromRest hr (s.motorPart p) next
    simp only [goesOn, hm]
    refine ⟨ht, h1, trivial, h2, h3, h4, h5, h6.1, h6.2.1, h6.2.2.1, h6.2.2.2.1, h6.2.2.2.2, fun hk => ?_, fun x hk hx => ?_⟩
    · rw [Motor.start_duty hk]
      exact ⟨rfl, rfl, rfl⟩
    · rw [hx, Motor.start, if_neg hk]
      exact ⟨rfl, Motor.startEncoder_fromRest hr x hn⟩
  have hq : s.queuePort p = p := State.queuePort_unpaired hu.1
  have hports : s.portsOf p c = [p] := State.portsOf_single s p (hu.2.1 c hc)
  have hdone := key .done .afterDone _ _ m.fromRest_afterDone
  obtain ⟨-, e2, e3, e4⟩ := exec_ownEnds hh p
  refine ⟨fun hb hs h3 => ⟨_, e2, ?_⟩, fun hb hs h80 => ⟨_, e3, ?_⟩, fun hk hr hv => ?_, fun hk h100 hf => ⟨_, e4, ?_⟩⟩
  · rw [State.settleDone_eq hq hc, if_pos ⟨hb, by simpa [hports] using ⟨hs, h3⟩⟩]
    exact hdone
  · rw [State.settleTimeout_eq hq hc, if_pos ⟨hb, hs, h80⟩]
    exact hdone
  · have hd : s.timeDone p c = s.finish p .done .afterDone := by
      unfold State.timeDone
      rw [State.profilePort_single s p (hu.2.1 c hc), if_pos]
      simp only [Bool.and_eq_true, decide_eq_true_eq]
      exact ⟨⟨hk, hr⟩, hv⟩
    rw [hd]
    exact hdone
  · rw [State.recogniseStall_finish hq hc ((hu.stalled_iff hc).mpr ⟨hk, h100⟩) hf]
    exact key .stallEnd .afterStall _ _ m.fromRest_afterStall

end NextStarts

end Sys2Proof.Machine

/-! PROOF of O37: a watch meets an output, and WATCH FIRED with its halts (R60, R107, R108). -/

namespace Sys2Proof.Machine

section Fired
variable {s : State} {l : Link} {k : Nat} {w : Watch} {p : Port} {e : EndAction} {j : Nat} {q : Pair}

/-! ### WATCH FIRED (R108) -/

/-- An entry that has reached its dwell (R107, R108). -/
def Watch.Due (w : Watch) : Prop := (w.state = .armed ∨ w.state = .pending) ∧ w.dwell ≤ w.progress

theorem State.fireWatch_undue (hw : s.watch l k = some w) (h : ¬ w.Due) : s.fireWatch l k = s := by
  unfold State.fireWatch
  rw [hw]
  exact if_neg h

/-- The entry that has fired with `skips` actions skipped. -/
def Watch.fired (w : Watch) (skips : Nat) : Watch :=
  { w with fires := min 65535 (w.fires + 1), state := .fired, progress := 0, skips := skips }

/-- The state in which the entry `w` has fired, told to its link with the code of its action, of its result and the number
of commands ended (R108). -/
def State.watchTold (s : State) (l : Link) (k : Nat) (w : Watch) (skips act result ended : Nat) : State :=
  let out := (s.view l w.chan).output
  (s.setWatch l k (some (w.fired skips))).notify l (.watchFired k w.chan w.index (out.values.getD w.index 0) out.sequence
    (out.clipped.getD w.index false) (min 65535 (w.fires + 1)) act result ended)

/-- An action that is none, or that is skipped. -/
theorem State.fireWatch_told (hw : s.watch l k = some w) (h : w.Due) {r : ActionResult}
    (hr : s.actionResult l w.action = r) (hn : r ≠ .carriedOut) : s.fireWatch l k =
      s.watchTold l k w (if r.skipped then min 65535 (w.skips + 1) else w.skips) w.action.code (actionResultCode r) 0 := by
  unfold State.fireWatch
  rw [hw]
  refine (if_pos h).trans ?_
  simp only [hr, if_neg hn]
  rfl

/-- An action that is carried out. -/
theorem State.fireWatch_carriedOut (hw : s.watch l k = some w) (h : w.Due)
    (hr : s.actionResult l w.action = .carriedOut) : s.fireWatch l k =
      (s.watchTold l k w w.skips w.action.code 1 (s.actionEnds w.action)).carryOut w.action := by
  unfold State.fireWatch
  rw [hw]
  refine (if_pos h).trans ?_
  simp only [hr, if_true]
  rfl

/-! ### The halts of an action (R60) -/

/-- What a halt reads stands when an entry has fired. -/
theorem State.watchTold_frame (s : State) (l : Link) (k : Nat) (w : Watch) (a b c d : Nat) :
    (s.setWatch l k (some (w.fired a))).LinksOnly (s.watchTold l k w a b c d) :=
  (State.LinksOnly.refl _).notify l _

theorem State.LinksOnly.endings {t : State} (h : s.LinksOnly t) (p : Port) (o : EndOutcome) : t.endings p o = s.endings p o := by
  rw [h]
  rfl

theorem State.LinksOnly.pairEndings {t : State} (h : s.LinksOnly t) (j : Nat) (q : Pair) (o : EndOutcome) :
    t.pairEndings j q o = s.pairEndings j q o := by
  rw [h]
  rfl

theorem State.LinksOnly.unpaired {t : State} (h : s.LinksOnly t) (hu : s.Unpaired p) : t.Unpaired p := by
  rw [h]
  exact hu

theorem State.LinksOnly.bound {t : State} (h : s.LinksOnly t) (hb : s.Bound j q) : t.Bound j q := by
  rw [h]
  exact ⟨hb.entry, hb.ports, hb.pair, hb.second, hb.commands⟩

theorem State.LinksOnly.watchEnd {t : State} (h : s.LinksOnly t) (p : Port) (e : EndAction) :
    t.watchEnd p e = s.watchEnd p e := by
  rw [h]
  rfl

theorem State.watchTold_haltMotor (hu : s.Unpaired p) (l : Link) (k : Nat) (w : Watch) (a b c d : Nat) (e : EndAction) :
    (s.watchTold l k w a b c d).haltMotor p e = ((s.watchTold l k w a b c d).notifyAll (s.endings p .halted)).setMotor p
      ((s.motor p).ended e (s.motor p).position) := by
  have hl := s.watchTold_frame l k w a b c d
  rw [(hl.unpaired (p := p) hu).haltMotor, hl.endings, hl.motor]
  rfl

theorem State.watchTold_haltPair (hb : s.Bound j q) (hp : p = q.first ∨ p = q.second) (l : Link) (k : Nat) (w : Watch)
    (a b c d : Nat) (e : EndAction) : (s.watchTold l k w a b c d).haltMotor p e =
      ((s.watchTold l k w a b c d).notifyAll (s.pairEndings j q .halted)).pairStopped q e := by
  have hl := s.watchTold_frame l k w a b c d
  have hb' : (s.setWatch l k (some (w.fired a))).Bound j q := ⟨hb.entry, hb.ports, hb.pair, hb.second, hb.commands⟩
  rw [(hl.bound hb').haltMotor hp, hl.pairEndings]
  rfl

theorem State.watchTold_watchEnd (s : State) (l : Link) (k : Nat) (w : Watch) (a b c d : Nat) (p : Port) (e : EndAction) :
    (s.watchTold l k w a b c d).watchEnd p e = s.watchEnd p e :=
  (s.watchTold_frame l k w a b c d).watchEnd p e

/-! ### The holder check (R108) -/

theorem State.actionResult_port (s : State) (l : Link) (p : Port) (e : EndAction) : s.actionResult l (.haltPort p e) =
    if (s.port p).holder ≠ some l then .notHolder else if s.driven p then .carriedOut else .notMotor := rfl

theorem State.watchEnd_eq (s : State) (p : Port) (e : EndAction) : s.watchEnd p e = if e = .hold
    then (if s.classOf p ≠ some .motor then .brake else if s.supply.state = some .cutoff then .coast else .hold) else e := by
  simp [State.watchEnd, State.cutoff]

/-! ### An output meets an entry (R107) -/

theorem State.evalWatch_absent {c : Chan} (h : ∀ w, s.watch l k = some w → w.chan ≠ c) : s.evalWatch l c k = s := by
  unfold State.evalWatch
  cases hw : s.watch l k with
  | none => rfl
  | some w => exact if_neg (h w hw)

/-- The value of its channel's output that an entry watches (R107). -/
def State.watched (s : State) (l : Link) (w : Watch) : Int := (s.view l w.chan).output.values.getD w.index 0

/-- The entry in the state `st` with dwell progress `n`. -/
def State.watchAt (s : State) (l : Link) (k : Nat) (w : Watch) (st : WatchState) (n : Nat) : State :=
  s.setWatch l k (some { w with state := st, progress := n })

theorem State.watchAt_watch (s : State) (l : Link) (k : Nat) (w : Watch) (st : WatchState) (n : Nat) :
    (s.watchAt l k w st n).watch l k = some { w with state := st, progress := n } := by
  rw [State.watchAt, State.setWatch_watch, if_pos ⟨rfl, rfl⟩]

theorem State.evalWatch_armed (hw : s.watch l k = some w) (hs : w.state = .armed) : s.evalWatch l w.chan k =
    if w.holds (s.watched l w) then (s.watchAt l k w .pending 1).fireWatch l k else s := by
  simp only [State.evalWatch, hw, hs, if_true]
  rfl

theorem State.evalWatch_pending (hw : s.watch l k = some w) (hs : w.state = .pending) : s.evalWatch l w.chan k =
    if w.holds (s.watched l w) then (s.watchAt l k w .pending (w.progress + 1)).fireWatch l k
    else s.watchAt l k w .armed 0 := by
  simp only [State.evalWatch, hw, hs, if_true]
  rfl

theorem State.evalWatch_fired (hw : s.watch l k = some w) (hs : w.state = .fired) : s.evalWatch l w.chan k =
    if w.repeats && w.rearms (s.watched l w) then s.watchAt l k w .armed 0 else s := by
  simp only [State.evalWatch, hw, hs, if_true]
  rfl

theorem State.evalWatch_off (hw : s.watch l k = some w) (hs : w.state = .disarmed) : s.evalWatch l w.chan k = s := by
  simp only [State.evalWatch, hw, hs, if_true]

/-- An entry short of its dwell counts the output and does not fire. -/
theorem State.watchAt_short {n : Nat} (h : n < w.dwell) :
    (s.watchAt l k w .pending n).fireWatch l k = s.watchAt l k w .pending n :=
  State.fireWatch_undue (s.watchAt_watch l k w .pending n) fun hd => absurd hd.2 (Nat.not_le.mpr h)

theorem exec_watchFired (hh : s.hub.held = false) (l : Link) (k : Nat) :
    exec (.watchFired l k) s = .next (s.fireWatch l k) := congrArg _ (State.unlessHeld_free hh _)

/-- The commands that stand with a port, as a halt counts them. -/
theorem Motor.commandCount_eq (m : Motor) : m.commandCount = (if m.active = none then 0 else 1) + m.waiting.length := by
  unfold Motor.commandCount
  cases m.active <;> rfl

/-- Settles O37, by the states of an entry, and by the actions of one that fires. -/
theorem watchesFire : Obligations.WatchesFire := by
  refine ⟨fun s l c k h => State.evalWatch_absent h, ?_⟩
  intro s l k w hh hw out v holds rearms meets counted fired notice skipped kind motor takes count single double
  have hholds : w.holds v = true ↔ holds := by
    simp only [Watch.holds, holds]
    cases w.condition <;> simp
  have hrearms : w.rearms v = true ↔ rearms := by
    simp only [Watch.rearms, rearms]
    cases w.condition <;> simp
  have hfire : ∀ n, exec (.watchFired l k) (counted n) = .next ((s.watchAt l k w .pending n).fireWatch l k) :=
    fun n => exec_watchFired (s := s.watchAt l k w .pending n) hh l k
  refine ⟨fun hs h => ?_, fun hs h => ?_, fun hs h hd => ?_, fun hs h hd => ?_, fun hs h => ?_, fun hs h => ?_,
    fun hs hr h => ?_, fun hs h => ?_, fun hs => State.evalWatch_off hw hs, ?_⟩
  · rw [hfire]
    exact congrArg _ ((State.evalWatch_armed hw hs).trans (if_pos (hholds.mpr h))).symm
  · rw [hfire]
    exact congrArg _ ((State.evalWatch_pending hw hs).trans (if_pos (hholds.mpr h))).symm
  · exact ((State.evalWatch_armed hw hs).trans (if_pos (hholds.mpr h))).trans (State.watchAt_short hd)
  · exact ((State.evalWatch_pending hw hs).trans (if_pos (hholds.mpr h))).trans (State.watchAt_short hd)
  · exact (State.evalWatch_armed hw hs).trans (if_neg fun e => h (hholds.mp e))
  · exact (State.evalWatch_pending hw hs).trans (if_neg fun e => h (hholds.mp e))
  · exact (State.evalWatch_fired hw hs).trans (if_pos (Bool.and_eq_true_iff.mpr ⟨hr, hrearms.mpr h⟩))
  · refine (State.evalWatch_fired hw hs).trans (if_neg fun e => ?_)
    obtain ⟨e1, e2⟩ := Bool.and_eq_true_iff.mp e
    rcases h with h | h
    · rw [e1] at h
      cases h
    · exact h (hrearms.mp e2)
  intro after due
  have hafter : after = .next (s.fireWatch l k) := exec_watchFired hh l k
  have hmotor : ∀ p, s.driven p = true ↔ motor p := s.driven_iff
  have htakes : ∀ p e, s.watchEnd p e = takes p e := s.watchEnd_eq
  rw [hafter]
  refine ⟨fun h => congrArg _ (State.fireWatch_undue hw h), fun hd ha => congrArg Host.Outcome.next ?_, fun p e hd ha => ?_,
    fun j e hd ha => ?_⟩
  · rw [State.fireWatch_told hw hd (r := .noAction) (by rw [ha]; rfl) (by decide), ha]
    rfl
  · have hr := s.actionResult_port l p e
    rw [← ha] at hr
    refine ⟨fun hn => congrArg Host.Outcome.next ?_, fun hl hm => congrArg Host.Outcome.next ?_,
      fun hl hm hu => congrArg Host.Outcome.next ?_, fun j q hl hm hb hp => congrArg Host.Outcome.next ?_⟩
    · rw [if_pos hn] at hr
      rw [State.fireWatch_told hw hd hr (by decide), ha]
      rfl
    · rw [if_neg (not_not.mpr hl), if_neg fun e => hm ((hmotor p).mp e)] at hr
      rw [State.fireWatch_told hw hd hr (by decide), ha]
      rfl
    · rw [if_neg (not_not.mpr hl), if_pos ((hmotor p).mpr hm)] at hr
      rw [State.fireWatch_carriedOut hw hd hr, ha, show s.actionEnds (.haltPort p e) = s.haltCount p from rfl, hu.haltCount]
      refine (State.watchTold_haltMotor hu l k w _ _ _ _ _).trans ?_
      rw [State.watchTold_watchEnd, htakes]
      rfl
    · rw [if_neg (not_not.mpr hl), if_pos ((hmotor p).mpr hm)] at hr
      rw [State.fireWatch_carriedOut hw hd hr, ha, show s.actionEnds (.haltPort p e) = s.haltCount p from rfl,
        hb.haltCount hp]
      refine (State.watchTold_haltPair hb hp l k w _ _ _ _ _).trans ?_
      rw [State.watchTold_watchEnd, htakes]
      rfl
  · refine ⟨fun hn => congrArg Host.Outcome.next ?_, fun q hq hl => congrArg Host.Outcome.next ?_,
      fun q hb hl => congrArg Host.Outcome.next ?_⟩
    · have hr : s.actionResult l w.action = .pairFree := by simp only [ha, State.actionResult, hn]
      rw [State.fireWatch_told hw hd hr (by decide), ha]
      rfl
    · have hr : s.actionResult l w.action = .notHolder := by simp only [ha, State.actionResult, hq, if_neg hl]
      rw [State.fireWatch_told hw hd hr (by decide), ha]
      rfl
    · have hr : s.actionResult l w.action = .carriedOut := by simp only [ha, State.actionResult, hb.entry, if_pos hl]
      have hends : s.actionEnds (.haltPair j e) = s.haltCount q.first := by simp only [State.actionEnds, hb.entry]
      have hpair : ∀ a b c d, (s.watchTold l k w a b c d).carryOut (.haltPair j e) =
          (s.watchTold l k w a b c d).haltMotor q.first ((s.watchTold l k w a b c d).watchEnd q.first e) := fun a b c d => by
        simp only [State.carryOut, ((s.watchTold_frame l k w a b c d).pair j).trans hb.entry]
      rw [State.fireWatch_carriedOut hw hd hr, ha, hends, hb.haltCount (.inl rfl), hpair,
        State.watchTold_haltPair hb (.inl rfl), State.watchTold_watchEnd, htakes]
      rfl

end Fired

end Sys2Proof.Machine

/-! PROOF of O55, which fails: at the entry to CUTOFF the commands of a pair end where the hub's walk over the ports, in
letter order, meets the pair's FIRST port (`cutoffMotors`), and the statement has them end at the port of the lower letter.
The two differ for a pair bound as C, A beside a running motor B. -/

namespace Sys2Proof.Machine

/-! ### Pair 0 binds C, A and runs; B runs alone -/

/-- A SPEED command of the Programmer's Link at 50 %. -/
def speedCommand (number : Nat) (pair : Option Nat) : Command :=
  ⟨.pl, number, .speed, 50, 50, 0, 300, .coast, .fail, pair⟩

/-- An ACTIVE motor port of the Programmer's Link. -/
def motorPort : PortRec :=
  { PortRec.reset with
    state := .active, detect := .level3, generation := 1, holder := some .pl
    device := some ⟨.motor, 48, 7, ⟨false, true, false, false, false⟩, 100, [], some ⟨720, 1000, 1⟩⟩ }

/-- A RUNNING channel. -/
def runningMotor (active : Option Command) (pair : Option Nat) : Motor :=
  { Motor.reset with state := .running, active := active, pair := pair }

/-- A READY hub at NORMAL supply: the pair of C and A runs command 1, B runs command 2. -/
def pairBesideMotor : State :=
  { State.reset with
    hub := { HubRec.reset with state := .ready, step := 0 }
    links := ⟨{ LinkUnit.reset with up := true }, LinkUnit.reset⟩
    ports := ⟨motorPort, motorPort, motorPort, .reset, .reset, .reset⟩
    motors := { State.reset.motors with
      a := runningMotor none (some 0)
      b := runningMotor (some (speedCommand 2 none)) none
      c := runningMotor (some (speedCommand 1 (some 0))) (some 0) }
    pairs := State.reset.pairs.set none 0 (some ⟨.c, .a, 60, .pl⟩)
    supply := ⟨List.replicate 8 5400, some 5400, some .normal, 0⟩ }

theorem pairBesideMotor_bound : pairBesideMotor.Bound 0 ⟨.c, .a, 60, .pl⟩ :=
  ⟨rfl, by decide, ⟨rfl, rfl⟩, ⟨rfl, rfl⟩, fun c hc => by
    obtain rfl : c = speedCommand 1 (some 0) := by
      simpa [pairBesideMotor, runningMotor, State.motor, PerPort.get, State.reset, Motor.reset] using hc
    rfl⟩

theorem State.unpaired_of_reset {s : State} {p : Port} (h : s.motor p = .reset) : s.Unpaired p := by
  simp [State.Unpaired, h, Motor.reset]

/-- Every port stands to the pair table as the statement's premise asks. -/
theorem pairBesideMotor_binding (p : Port) : ∃ bound, pairBesideMotor.Binding p bound := by
  cases p
  case a => exact ⟨some (0, _), pairBesideMotor_bound, .inr rfl⟩
  case b =>
    refine ⟨none, rfl, fun c hc => ?_, fun c hc => by cases hc⟩
    obtain rfl : speedCommand 2 none = c := Option.some.inj hc
    rfl
  case c => exact ⟨some (0, _), pairBesideMotor_bound, .inl rfl⟩
  all_goals exact ⟨none, State.unpaired_of_reset rfl⟩

/-! ### The order of the two MOTION DONE notices -/

/-- The numbers of the commands that a link's waiting MOTION DONE notices tell of, oldest first. -/
def State.endedNumbers (s : State) (l : Link) : List Nat :=
  (s.link l).notices.filterMap (fun n => match n.body with
    | .motionDone _ _ number _ _ _ _ => some number
    | _ => none)

/-- The hub tells of B first: the pair's turn comes at its first port, C. -/
theorem pairBesideMotor_endedNumbers {t : State} (ht : exec (.supplyReading 0) pairBesideMotor = .next t) :
    t.endedNumbers .pl = [2, 1] := by
  obtain rfl : pairBesideMotor.takeReading 0 = t := Host.Outcome.next.inj ht
  decide

/-- Refutes O55: with a pair bound as C, A beside a running B, the entry to CUTOFF tells of B's command before the pair's,
and the statement's order has the pair's first, at A. -/
theorem not_supplyReadingTaken : ¬ Obligations.SupplyReadingTaken := by
  intro h
  obtain ⟨-, hmeasures⟩ := h pairBesideMotor 0 rfl
  obtain ⟨-, -, hchange⟩ := hmeasures (.inr rfl) (by decide)
  obtain ⟨-, -, hcutoff⟩ := hchange .normal rfl rfl
  obtain ⟨t, ht, -, -, -, -, -, -, -, -, -, -, -, htold⟩ := hcutoff (by decide) rfl
  have hstated : t.endedNumbers .pl = [1, 2] := by
    rw [State.endedNumbers, State.link, htold pairBesideMotor_binding]
    decide
  exact absurd (hstated.symm.trans (pairBesideMotor_endedNumbers ht)) (by decide)

end Sys2Proof.Machine

/-! SUPPORT. What the stages of a control period leave as it is (R43, R63 to R65, R70 to R78): the measurement of every
channel, the commands but for those that end or start, and every channel outside the group whose turn it is. -/

namespace Sys2Proof.Machine

section Channels
variable {m m' m'' : Motor} {c next : Command} {rest : List Command}

/-! ### One channel -/

/-- The commands of a channel, the active one first. -/
def Motor.commands (m : Motor) : List Command := m.active.toList ++ m.waiting

/-- What the measurement, the edges and SET GAINS write, and no command does (R54, R63, R64). -/
def Motor.measured (m : Motor) : Int × Int × Bool × History × Int × Option Gains × Nat :=
  (m.position, m.edges, m.saturated, m.history, m.speed, m.gains, m.counter)

/-- The channel `m'` has the pair of `m` and no command that `m` has not; without an active command none has become
active. -/
structure Motor.Yields (m m' : Motor) : Prop where
  pair : m'.pair = m.pair
  idle : m.active = none → m'.active = none
  commands : ∀ c ∈ m'.commands, c ∈ m.commands

/-- It has the measurement of `m` as well, and its duty stands or is 0. -/
structure Motor.Keeps (m m' : Motor) : Prop extends m.Yields m' where
  measured : m'.measured = m.measured
  duty : m'.duty = m.duty ∨ m'.duty = 0

theorem Motor.Yields.trans (h : m.Yields m') (k : m'.Yields m'') : m.Yields m'' :=
  ⟨k.pair.trans h.pair, fun e => k.idle (h.idle e), fun c hc => h.commands c (k.commands c hc)⟩

theorem Motor.Yields.idled (h : m.Yields m') (ha : m.active = none ∧ m.waiting = []) :
    m'.active = none ∧ m'.waiting = [] := by
  have hn : m'.commands = [] := List.eq_nil_iff_forall_not_mem.mpr fun c hc => by
    have hm := h.commands c hc
    rw [Motor.commands, ha.1, ha.2] at hm
    cases hm
  exact ⟨h.idle ha.1, (List.append_eq_nil_iff.mp hn).2⟩

theorem Motor.Keeps.refl (m : Motor) : m.Keeps m := ⟨⟨rfl, id, fun _ => id⟩, rfl, .inl rfl⟩

theorem Motor.Keeps.trans (h : m.Keeps m') (k : m'.Keeps m'') : m.Keeps m'' := by
  refine ⟨h.toYields.trans k.toYields, k.measured.trans h.measured, ?_⟩
  rcases k.duty with e | e
  · rw [e]
    exact h.duty
  · exact .inr e

/-- What a stage writes that touches neither commands nor duty: the profile, the loop's fields and the stall timer. -/
theorem Motor.Keeps.same (hc : (m'.pair, m'.active, m'.waiting, m'.duty) = (m.pair, m.active, m.waiting, m.duty))
    (hm : m'.measured = m.measured) : m.Keeps m' := by
  simp only [Prod.mk.injEq] at hc
  obtain ⟨hp, ha, hw, hd⟩ := hc
  exact ⟨⟨hp, fun e => ha.trans e, fun c h => by rwa [Motor.commands, ha, hw] at h⟩, hm, .inl hd⟩

/-! ### Each stage on one channel -/

theorem Motor.Keeps.control (m : Motor) : m.Keeps m.control := by
  unfold Motor.control
  split
  · split
    · exact .refl m
    · exact .same rfl rfl
  · exact .refl m

theorem Motor.Keeps.stallTest (m : Motor) : m.Keeps m.stallTest := by
  unfold Motor.stallTest
  split <;> exact .same rfl rfl

theorem Motor.Keeps.settleTest (m : Motor) (b : Bool) : m.Keeps (m.settleTest b) := .same rfl rfl

theorem Motor.Keeps.withProfile (m : Motor) (q : Profile) : m.Keeps { m with profile := q } := .same rfl rfl

theorem Motor.Keeps.elapse (m : Motor) (c : Command) : m.Keeps (m.elapse c) := by
  unfold Motor.elapse
  split
  · exact .withProfile m _
  · exact .refl m

theorem Motor.Keeps.profileStep (m : Motor) (c : Command) : m.Keeps (m.profileStep c) := by
  unfold Motor.profileStep
  split
  case h_5 => exact .refl m
  all_goals exact .withProfile m _

theorem Motor.Keeps.idleReference (m : Motor) : m.Keeps m.idleReference := by
  unfold Motor.idleReference
  split <;> exact .withProfile m _

theorem Motor.Keeps.follow (m : Motor) (c : Command) (lead : Motor) : m.Keeps (m.follow c lead) := by
  unfold Motor.follow
  dsimp only
  split <;> exact .withProfile m _

/-- An end action on a channel whose commands have ended (R50). -/
theorem Motor.Keeps.ended (m : Motor) (e : EndAction) (x : Int) : m.Keeps (m.ended e x) := by
  have hn : (m.ended e x).commands = [] := by cases e <;> rfl
  refine ⟨⟨m.ended_pair e x, fun _ => by cases e <;> rfl, fun c hc => by rw [hn] at hc; cases hc⟩, by cases e <;> rfl, ?_⟩
  cases e
  case hold => exact .inl rfl
  all_goals exact .inr rfl

/-- The oldest waiting command has become active (R51). -/
theorem Motor.Keeps.goesOn (ha : m.active ≠ none) (hw : m.waiting = next :: rest)
    (hc : (m'.pair, m'.active, m'.waiting, m'.duty) = (m.pair, some next, rest, m.duty)) (hm : m'.measured = m.measured) :
    m.Keeps m' := by
  simp only [Prod.mk.injEq] at hc
  obtain ⟨hp, ha', hw', hd⟩ := hc
  refine ⟨⟨hp, fun e => absurd e ha, fun c h => ?_⟩, hm, .inl hd⟩
  rw [Motor.commands, ha', hw'] at h
  rw [Motor.commands, hw]
  exact List.mem_append_right _ h

/-- A start writes neither the measurement nor the duty, the pair or the commands that wait (R66). -/
theorem Motor.start_frame (m : Motor) (part : Option MotorPart) (c : Command) (f : StartFrom) :
    (m.start part c f).measured = m.measured ∧ ((m.start part c f).pair, (m.start part c f).active, (m.start part c f).duty) =
      (m.pair, some c, m.duty) := by
  cases part with
  | none => exact ⟨rfl, rfl⟩
  | some x =>
    unfold Motor.start
    dsimp only
    split <;> exact ⟨rfl, rfl⟩

/-- The end of the active command of a channel outside any pair (R49, R51). -/
theorem Motor.next_keeps (ha : m.active ≠ none) (part : Option MotorPart) (c : Command) (x : Int) (f : StartFrom) :
    m.Keeps (m.next part c x f) := by
  cases hw : m.waiting with
  | nil =>
    rw [Motor.next_stops hw]
    exact .ended m _ _
  | cons next rest =>
    rw [Motor.next_goesOn hw]
    obtain ⟨hm, hf⟩ := m.start_frame part next f
    simp only [Prod.mk.injEq] at hf
    exact .goesOn ha hw (by simp only [hf]) hm

/-- The next command of a pair starts on both its channels (R51, R57). -/
theorem Command.pairStart_keeps {x y : Motor} (ha : x.active ≠ none) (hw : x.waiting = next :: rest)
    (hy : y.active = none) (part : MotorPart) (f : StartFrom) :
    x.Keeps { (next.pairStart part f x y).1 with waiting := rest } ∧ y.Keeps (next.pairStart part f x y).2 := by
  unfold Command.pairStart
  by_cases hs : next.speedB.natAbs ≤ next.speed.natAbs
  all_goals
    simp only [hs, if_true, if_false]
    refine ⟨.goesOn ha hw rfl rfl, .same ?_ rfl⟩
    rw [hy]
    rfl

end Channels

/-! ### The pair table and the channels (R56, R57) -/

section Acts
variable {s t u : State} {p qp : Port} {ps : List Port} {k : Nat} {q : Pair} {c : Command}

/-- The pair table and the channels agree. -/
structure State.Tied (s : State) : Prop where
  ports : ∀ p, s.Unpaired p ∨ ∃ k q, s.Bound k q ∧ (p = q.first ∨ p = q.second)
  pairs : ∀ k q, s.pair k = some q → s.Bound k q

/-- The channels of `ps` move together and their commands stand with the port `qp`: one channel outside any pair, or the
two of a pair (R57). -/
inductive State.Queue (s : State) : List Port → Port → Prop where
  | alone {p : Port} (h : s.Unpaired p) : s.Queue [p] p
  | pair {k : Nat} {q : Pair} (h : s.Bound k q) : s.Queue [q.first, q.second] q.first

/-- The ports whose stages run together: as before, or one channel of a pair that runs no command (R65,
notes/assumptions/55). -/
inductive State.Group (s : State) : List Port → Prop where
  | queue {ps : List Port} {qp : Port} (h : s.Queue ps qp) : s.Group ps
  | resting {p : Port} {k : Nat} {q : Pair} (h : s.Bound k q) (hp : p = q.first ∨ p = q.second)
      (hn : (s.motor q.first).active = none) : s.Group [p]

/-- The pair table stands and every channel yields. -/
structure State.Yields (s t : State) : Prop where
  pairs : t.pairs = s.pairs
  motors : ∀ y, (s.motor y).Yields (t.motor y)

theorem State.Yields.trans (h : s.Yields t) (h' : t.Yields u) : s.Yields u :=
  ⟨h'.pairs.trans h.pairs, fun y => (h.motors y).trans (h'.motors y)⟩

theorem State.Yields.unpaired (h : s.Yields t) (hu : s.Unpaired p) : t.Unpaired p := by
  obtain ⟨hn, ha, hw⟩ := hu
  have hc : ∀ c ∈ (t.motor p).commands, c.pair = none := fun c hc => by
    rcases List.mem_append.mp ((h.motors p).commands c hc) with e | e
    · exact ha c (by simpa using e)
    · exact hw c e
  exact ⟨(h.motors p).pair.trans hn, fun c e => hc c (List.mem_append_left _ (by simp [e])),
    fun c e => hc c (List.mem_append_right _ e)⟩

theorem State.Yields.bound (h : s.Yields t) (hb : s.Bound k q) : t.Bound k q :=
  ⟨(State.pair_congr h.pairs k).trans hb.entry, hb.ports,
    ⟨(h.motors _).pair.trans hb.pair.1, (h.motors _).pair.trans hb.pair.2⟩, (h.motors _).idled hb.second,
    fun c hc => hb.commands c ((h.motors _).commands c hc)⟩

theorem State.Yields.tied (h : s.Yields t) (ht : s.Tied) : t.Tied := by
  refine ⟨fun p => ?_, fun k q hk => h.bound (ht.pairs k q (by rwa [State.pair_congr h.pairs] at hk))⟩
  rcases ht.ports p with hu | ⟨k, q, hb, hp⟩
  · exact .inl (h.unpaired hu)
  · exact .inr ⟨k, q, h.bound hb, hp⟩

theorem State.Yields.queue (h : s.Yields t) (hq : s.Queue ps qp) : t.Queue ps qp := by
  cases hq with
  | alone hu => exact .alone (h.unpaired hu)
  | pair hb => exact .pair (h.bound hb)

theorem State.Yields.group (h : s.Yields t) (hg : s.Group ps) : t.Group ps := by
  cases hg with
  | queue hq => exact .queue (h.queue hq)
  | resting hb hp hn => exact .resting (h.bound hb) hp ((h.motors _).idle hn)

theorem State.Queue.queuePort (h : s.Queue ps qp) : s.queuePort qp = qp := by
  cases h with
  | alone hu => exact State.queuePort_unpaired hu.1
  | pair hb => exact State.queuePort_bound hb.pair.1 hb.entry

theorem State.Queue.portsOf (h : s.Queue ps qp) (hc : (s.motor qp).active = some c) : s.portsOf qp c = ps := by
  cases h with
  | alone hu => exact State.portsOf_single s _ (hu.2.1 c hc)
  | pair hb => exact State.portsOf_double _ (hb.commands c (by simp [hc])) hb.entry

theorem State.Queue.profilePort (h : s.Queue ps qp) (hc : (s.motor qp).active = some c) : s.profilePort qp c ∈ ps := by
  cases h with
  | alone hu => rw [State.profilePort_single s _ (hu.2.1 c hc)]; exact List.mem_cons_self
  | pair hb =>
    rw [State.profilePort_double _ (hb.commands c (by simp [hc])) hb.entry, leadPort]
    split
    · exact List.mem_cons_self
    · exact List.mem_cons_of_mem _ List.mem_cons_self

/-! ### Acts of the Motion Unit on the channels of `ps` -/

/-- `t` is `s` after acts that keep every channel's measurement, change no channel but those of `ps` and otherwise the links
alone. -/
structure State.Acts (ps : List Port) (s t : State) : Prop where
  motion : t = { s with motors := t.motors, links := t.links }
  keeps : ∀ y, (s.motor y).Keeps (t.motor y)
  others : ∀ y, y ∉ ps → t.motor y = s.motor y

theorem State.Acts.refl (ps : List Port) (s : State) : s.Acts ps s := ⟨rfl, fun _ => .refl _, fun _ _ => rfl⟩

theorem State.Acts.trans (h : s.Acts ps t) (h' : t.Acts ps u) : s.Acts ps u := by
  refine ⟨?_, fun y => (h.keeps y).trans (h'.keeps y), fun y hy => (h'.others y hy).trans (h.others y hy)⟩
  rw [h'.motion, h.motion]

theorem State.Acts.yields (h : s.Acts ps t) : s.Yields t :=
  ⟨by rw [h.motion], fun y => (h.keeps y).toYields⟩

theorem State.Acts.notifyAll (ps : List Port) (s : State) (xs : List (Link × NoticeBody)) : s.Acts ps (s.notifyAll xs) := by
  have hl := (State.LinksOnly.refl s).notifyAll xs
  refine ⟨?_, fun y => ?_, fun y _ => hl.motor y⟩
  · rw [hl]
  · rw [hl.motor]
    exact .refl _

theorem State.Acts.setMotor (hp : p ∈ ps) {m : Motor} (h : (s.motor p).Keeps m) : s.Acts ps (s.setMotor p m) := by
  refine ⟨rfl, fun y => ?_, fun y hy => ?_⟩
  · rw [State.setMotor_motor]
    split
    · rename_i hy
      rw [hy]
      exact h
    · exact .refl _
  · rw [State.setMotor_motor, if_neg]
    rintro rfl
    exact hy hp

theorem State.Acts.foldl_setMotor (s : State) {f : Motor → Motor} (hf : ∀ m : Motor, m.Keeps (f m)) :
    s.Acts ps (ps.foldl (fun t x => t.setMotor x (f (t.motor x))) s) :=
  List.foldlRecOn ps _ (.refl ps s) fun _ ht _ hx => ht.trans (.setMotor hx (hf _))

/-- A notice goes out and the channels of a queue change. -/
theorem State.Acts.told {xs : List (Link × NoticeBody)} {m : Motor} (hp : p ∈ ps) (h : (s.motor p).Keeps m) :
    s.Acts ps ((s.notifyAll xs).setMotor p m) :=
  (State.Acts.notifyAll ps s xs).trans (.setMotor hp (by rwa [State.notifyAll_motor]))

theorem State.Acts.told_both {xs : List (Link × NoticeBody)} (hn : q.first ≠ q.second) {x y : Motor}
    (hx : (s.motor q.first).Keeps x) (hy : (s.motor q.second).Keeps y) :
    s.Acts [q.first, q.second] (((s.notifyAll xs).setMotor q.first x).setMotor q.second y) :=
  (State.Acts.told List.mem_cons_self hx).trans (.setMotor (List.mem_cons_of_mem _ List.mem_cons_self) (by
    rwa [State.setMotor_motor, if_neg (Ne.symm hn), State.notifyAll_motor]))

/-! ### The rows that end a command -/

theorem State.finish_idle (hc : (s.motor qp).active = none) (o : EndOutcome) (f : StartFrom) : s.finish qp o f = s := by
  simp only [State.finish, hc]

/-- A pair's next command on a port without a motor part, which no run has (R25, R56). -/
theorem State.Bound.finish_partless (h : s.Bound k q) (hc : (s.motor q.first).active = some c) {next : Command}
    {rest : List Command} (hw : (s.motor q.first).waiting = next :: rest) (hp : s.motorPart q.first = none) (o : EndOutcome)
    (f : StartFrom) : s.finish q.first o f = (s.notifyAll [s.pairEnd k q o c]).setMotor q.first
      { (s.motor q.first).startDuty next with waiting := rest } := by
  have hl := (State.LinksOnly.refl s).notifyAll [s.pairEnd k q o c]
  have hp' : ∀ m, ((s.notifyAll [s.pairEnd k q o c]).setMotor q.first m).motorPart q.first = none := fun _ =>
    (hl.motorPart _).trans hp
  unfold State.finish State.startCommand
  simp only [hc, hw, h.motionDone hc, hp', State.setMotor_motor_self, State.setMotor_setMotor, hl.motor]
  rfl

/-- The end of the active command (R49, R51). -/
theorem State.Queue.finish (h : s.Queue ps qp) (o : EndOutcome) (f : StartFrom) : s.Acts ps (s.finish qp o f) := by
  cases hc : (s.motor qp).active with
  | none => rw [State.finish_idle hc]; exact .refl ps s
  | some c =>
    have ha : (s.motor qp).active ≠ none := by simp [hc]
    cases h with
    | alone hu =>
      rw [hu.finish hc]
      exact .told List.mem_cons_self (Motor.next_keeps ha _ _ _ _)
    | @pair k q hb =>
      cases hw : (s.motor q.first).waiting with
      | nil =>
        rw [hb.finish_stops hc hw]
        exact .told_both hb.ports (.ended _ _ _) (.ended _ _ _)
      | cons next rest =>
        cases hp : s.motorPart q.first with
        | some part =>
          rw [hb.finish_goesOn hc hw hp]
          obtain ⟨hx, hy⟩ := Command.pairStart_keeps ha hw hb.second.1 part f
          exact .told_both hb.ports hx hy
        | none =>
          rw [hb.finish_partless hc hw hp]
          exact .told List.mem_cons_self (.goesOn ha hw rfl rfl)

/-- Every command ends and the channels stop (R43, R50). -/
theorem State.Queue.endEnter (h : s.Queue ps qp) (o : EndOutcome) (e : EndAction) :
    s.Acts ps ((s.endAll qp o).enterAll ps e) := by
  cases h with
  | alone hu =>
    rw [hu.endEnter]
    exact .told List.mem_cons_self (.ended _ _ _)
  | pair hb =>
    rw [hb.endEnter, State.pairStopped_told]
    exact .told_both hb.ports (.ended _ _ _) (.ended _ _ _)

theorem State.Queue.settleDone (h : s.Queue ps qp) : s.Acts ps (s.settleDone qp) := by
  cases hc : (s.motor qp).active with
  | none => rw [(State.ownEnds_idle (h.queuePort.symm ▸ hc)).2.1]; exact .refl ps s
  | some c =>
    rw [State.settleDone_eq h.queuePort hc]
    split
    · exact h.finish _ _
    · exact .refl ps s

theorem State.Queue.settleTimeout (h : s.Queue ps qp) : s.Acts ps (s.settleTimeout qp) := by
  cases hc : (s.motor qp).active with
  | none => rw [(State.ownEnds_idle (h.queuePort.symm ▸ hc)).2.2.1]; exact .refl ps s
  | some c =>
    rw [State.settleTimeout_eq h.queuePort hc]
    split
    · exact h.finish _ _
    · exact .refl ps s

theorem State.Queue.timeRunEnd (h : s.Queue ps qp) : s.Acts ps (s.timeRunEnd qp) := by
  cases hc : (s.motor qp).active with
  | none => rw [(State.ownEnds_idle (h.queuePort.symm ▸ hc)).1]; exact .refl ps s
  | some c =>
    rw [State.timeRunEnd_eq h.queuePort hc]
    split
    · exact .setMotor (h.profilePort hc) (.withProfile _ _)
    · exact .refl ps s

theorem State.Queue.recogniseStall (h : s.Queue ps qp) : s.Acts ps (s.recogniseStall qp) := by
  cases hc : (s.motor qp).active with
  | none => rw [(State.ownEnds_idle (h.queuePort.symm ▸ hc)).2.2.2]; exact .refl ps s
  | some c =>
    by_cases hs : s.Stalled qp c
    · cases hp : c.stall with
      | fail =>
        rw [State.recogniseStall_fail h.queuePort hc hs hp, h.portsOf hc]
        exact h.endEnter _ _
      | finish =>
        rw [State.recogniseStall_finish h.queuePort hc hs hp]
        exact h.finish _ _
    · rw [State.recogniseStall_undue h.queuePort hc hs]
      exact .refl ps s

theorem State.Queue.timeDone (h : s.Queue ps qp) (c : Command) : s.Acts ps (s.timeDone qp c) := by
  unfold State.timeDone
  dsimp only
  split
  · exact h.finish _ _
  · exact .refl ps s

/-! ### Stages 2 to 4 of a group (R65) -/


/-- One act on the channels of a queue after another. -/
theorem State.Queue.andThen (h : s.Queue ps qp) (h1 : s.Acts ps t) (h2 : t.Queue ps qp → t.Acts ps u) : s.Acts ps u :=
  h1.trans (h2 (h1.yields.queue h))

/-- The one channel of a group. -/
theorem State.Group.single (h : s.Group [p]) : s.Unpaired p ∨ (s.motor p).active = none ∧
    (s.motor (s.queuePort p)).active = none := by
  cases h with
  | queue hq =>
    cases hq with
    | alone hu => exact .inl hu
  | resting hb hp hn =>
    rw [State.queuePort_bound (hb.pairOf hp) hb.entry]
    rcases hp with rfl | rfl
    · exact .inr ⟨hn, hn⟩
    · exact .inr ⟨hb.second.1, hn⟩

/-- Stage 2 of a RUNNING channel without a command of its own (R65). -/
theorem State.singleReference_idle (hs : (s.motor p).state = .running) (hc : (s.motor p).active = none) :
    s.singleReference p = s := by
  unfold State.singleReference
  simp only [hs, hc]

/-- Stage 2 of a channel that is not RUNNING (R65). -/
theorem State.singleReference_still (h : (s.motor p).state ≠ .running) :
    s.singleReference p = s.setMotor p (s.motor p).idleReference := by
  unfold State.singleReference
  dsimp only
  split
  · exact absurd ‹_› h
  · exact absurd ‹_› h
  · rfl

/-- Stage 2 of a channel that runs the command `c` (R65, R71). -/
theorem State.singleReference_runs (hs : (s.motor p).state = .running) (hc : (s.motor p).active = some c) :
    s.singleReference p = if c.kind = .duty then s.setMotor p (s.motor p).idleReference
      else if (s.motor p).profile.settling = true then
        ((s.setMotor p ((s.motor p).settleTest false)).settleDone p).settleTimeout p
      else
        let s1 := (s.setMotor p ((s.motor p).elapse c)).timeRunEnd p
        (s1.setMotor p ((s1.motor p).profileStep c)).timeDone p c := by
  unfold State.singleReference
  simp only [hs, hc]

theorem State.Acts.idleReference (s : State) (p : Port) : s.Acts [p] (s.setMotor p (s.motor p).idleReference) :=
  .setMotor List.mem_cons_self (.idleReference _)

theorem State.Group.singleReference (h : s.Group [p]) : s.Acts [p] (s.singleReference p) := by
  have hp : p ∈ [p] := List.mem_cons_self
  by_cases hs : (s.motor p).state = .running
  · cases hc : (s.motor p).active with
    | none =>
      rw [State.singleReference_idle hs hc]
      exact .refl _ s
    | some c =>
      have hq : s.Queue [p] p := by
        rcases h.single with hu | ⟨hn, -⟩
        · exact .alone hu
        · rw [hn] at hc
          cases hc
      rw [State.singleReference_runs hs hc]
      split
      · exact .idleReference s p
      · split
        · exact hq.andThen (hq.andThen (.setMotor hp (.settleTest _ _)) State.Queue.settleDone) State.Queue.settleTimeout
        · refine hq.andThen (hq.andThen (hq.andThen (.setMotor hp (.elapse _ c)) State.Queue.timeRunEnd) fun _ => ?_)
            fun hq' => hq'.timeDone c
          exact .setMotor hp (.profileStep _ c)
  · rw [State.singleReference_still hs]
    exact .idleReference s p

theorem State.Acts.mono {qs : List Port} (h : s.Acts ps t) (hs : ∀ y ∈ ps, y ∈ qs) : s.Acts qs t :=
  ⟨h.motion, h.keeps, fun y hy => h.others y fun e => hy (hs y e)⟩

theorem leadPort_mem (c : Command) (q : Pair) : leadPort c q ∈ [q.first, q.second] := by
  unfold leadPort
  split <;> simp

theorem followPort_mem (c : Command) (q : Pair) : followPort c q ∈ [q.first, q.second] := by
  unfold followPort
  split <;> simp

theorem State.Bound.pairReference (h : s.Bound k q) (c : Command) : s.Acts [q.first, q.second] (s.pairReference q c) := by
  have hq := State.Queue.pair h
  have hl := leadPort_mem c q
  have hf := followPort_mem c q
  unfold State.pairReference
  dsimp only
  split
  · exact hq.andThen (hq.andThen ((State.Acts.setMotor hl (.settleTest _ _)).trans (.setMotor hf (.settleTest _ _)))
      State.Queue.settleDone) State.Queue.settleTimeout
  · have h1 := hq.andThen (.setMotor hl (.elapse _ c)) State.Queue.timeRunEnd
    split
    · exact h1.trans (.setMotor hl (.withProfile _ _))
    · exact hq.andThen ((h1.trans (.setMotor hl (.profileStep _ c))).trans (.setMotor hf (.follow _ c _)))
        fun hq' => hq'.timeDone c

/-- Stages 3 and 4 where the commands stand with the port `qp`. -/
theorem State.Queue.controlAndStall (h : s.Queue ps qp) : s.Acts ps (s.controlAndStall ps qp) := by
  have h1 : s.Acts ps (ps.foldl (fun t x => t.setMotor x (t.motor x).control.stallTest) s) :=
    .foldl_setMotor s fun m => (Motor.Keeps.control m).trans (.stallTest _)
  unfold State.controlAndStall
  dsimp only
  split
  · exact (h.andThen h1 State.Queue.recogniseStall).trans (.foldl_setMotor _ .control)
  · exact h1

theorem State.stallDue_idle (h : (s.motor (s.queuePort p)).active = none) : s.stallDue p = false := by
  simp only [State.stallDue, h]

theorem State.Group.controlAndStall (h : s.Group ps) : s.Acts ps (s.controlAndStall ps (ps.headD .a)) := by
  cases h with
  | queue hq =>
    cases hq with
    | alone hu => exact (State.Queue.alone hu).controlAndStall
    | pair hb => exact (State.Queue.pair hb).controlAndStall
  | @resting p k q hb hp hn =>
    have h1 : s.Acts [p] (s.setMotor p (s.motor p).control.stallTest) :=
      .setMotor List.mem_cons_self ((Motor.Keeps.control _).trans (.stallTest _))
    have hb' := h1.yields.bound hb
    have hn' := (h1.yields.motors q.first).idle hn
    have hd : (s.setMotor p (s.motor p).control.stallTest).stallDue p = false :=
      State.stallDue_idle (by rwa [State.queuePort_bound (hb'.pairOf hp) hb'.entry])
    unfold State.controlAndStall
    simp only [List.headD_cons, List.foldl_cons, List.foldl_nil, hd]
    exact h1

end Acts

end Sys2Proof.Machine

/-! SUPPORT. The stages of a group of ports as a whole (R63 to R65, R73). -/

namespace Sys2Proof.Machine

section Stages
variable {s t u : State} {p : Port} {ps : List Port} {k : Nat} {q : Pair}

/-! ### A group's stages as a whole (R65) -/

theorem State.foldl_setMotor_motor (s : State) (hn : ps.Nodup) (f : Motor → Motor) (y : Port) :
    (ps.foldl (fun t x => t.setMotor x (f (t.motor x))) s).motor y = if y ∈ ps then f (s.motor y) else s.motor y := by
  rw [foldl_setMotor ps (fun _ m => f m)]
  exact PerPort.get_mapOn hn _ _ y

theorem State.foldl_setMotor_motion (s : State) (ps : List Port) (f : Motor → Motor) :
    ps.foldl (fun t x => t.setMotor x (f (t.motor x))) s =
      { s with motors := (ps.foldl (fun t x => t.setMotor x (f (t.motor x))) s).motors } := by
  rw [foldl_setMotor ps (fun _ m => f m)]

theorem State.Group.nodup (h : s.Group ps) : ps.Nodup := by
  cases h with
  | queue hq =>
    cases hq with
    | alone => exact List.nodup_singleton _
    | pair hb => simpa using hb.ports
  | resting => exact List.nodup_singleton _

/-- Stage 1 of the channels of `ps` (R63, R64). -/
def State.measure (s : State) (ps : List Port) : State :=
  ps.foldl (fun t x => t.setMotor x (t.motor x).takePosition) s

/-- The channel with the duty that stage 5 applies (R73, R74). -/
def State.drive (s : State) (m : Motor) : Motor :=
  { m with duty := if m.loops then s.outputDuty m.profile.prevU
    else match m.state, m.active with
      | .running, some c => s.outputDuty c.amount
      | _, _ => 0 }

theorem State.drive_congr (h : t.supply = s.supply) (m : Motor) : t.drive m = s.drive m := by
  have ho : t.outputDuty = s.outputDuty := by
    unfold State.outputDuty State.low
    rw [h]
  unfold State.drive
  rw [ho]

/-- Stage 5 of the channels of `ps`. -/
theorem State.foldl_output (ps : List Port) (h : t.supply = s.supply) :
    ps.foldl (fun u x => u.output x) t = ps.foldl (fun u x => u.setMotor x (s.drive (u.motor x))) t := by
  induction ps generalizing t with
  | nil => rfl
  | cons p rest ih =>
    have ho : t.output p = t.setMotor p (s.drive (t.motor p)) := congrArg (t.setMotor p) (State.drive_congr h _)
    rw [List.foldl_cons, List.foldl_cons, ho]
    exact ih h

/-- The applied duty is within its cap (R73). -/
theorem State.outputDuty_bounds (s : State) (u : Int) : (s.outputDuty u).natAbs ≤ 10000 ∧
    (s.supply.state = some .low → (s.outputDuty u).natAbs ≤ 7500) := by
  have hc : ∀ (n : Nat) (x : Int), (clamp (-n) n x).natAbs ≤ n := fun n x => by
    unfold clamp
    omega
  unfold State.outputDuty
  refine ⟨?_, fun h => ?_⟩
  · dsimp only
    split
    · exact (hc 7500 _).trans (by decide)
    · exact hc 10000 _
  · rw [if_pos (by simp [State.low, h])]
    exact hc 7500 _

theorem State.drive_bounds (s : State) (m : Motor) : (s.drive m).duty.natAbs ≤ 10000 ∧
    (s.supply.state = some .low → (s.drive m).duty.natAbs ≤ 7500) := by
  unfold State.drive
  dsimp only
  split
  · exact s.outputDuty_bounds _
  · split
    · exact s.outputDuty_bounds _
    · exact ⟨by decide, fun _ => by decide⟩

theorem Motor.takePosition_yields (m : Motor) : m.Yields m.takePosition := ⟨rfl, id, fun _ => id⟩

theorem State.drive_yields (s : State) (m : Motor) : m.Yields (s.drive m) := ⟨rfl, id, fun _ => id⟩

theorem State.foldl_yields (s : State) {f : Motor → Motor} (hf : ∀ m : Motor, m.Yields (f m)) (hn : ps.Nodup) :
    s.Yields (ps.foldl (fun t x => t.setMotor x (f (t.motor x))) s) := by
  refine ⟨by rw [State.foldl_setMotor_motion], fun y => ?_⟩
  rw [State.foldl_setMotor_motor s hn]
  split
  · exact hf _
  · exact ⟨rfl, id, fun _ => id⟩

theorem State.measure_motor (s : State) (hn : ps.Nodup) (y : Port) :
    (s.measure ps).motor y = if y ∈ ps then (s.motor y).takePosition else s.motor y :=
  s.foldl_setMotor_motor hn Motor.takePosition y

theorem State.measure_motion (s : State) (ps : List Port) : s.measure ps = { s with motors := (s.measure ps).motors } :=
  s.foldl_setMotor_motion ps Motor.takePosition

theorem State.measure_supply (s : State) (ps : List Port) : (s.measure ps).supply = s.supply := by
  rw [State.measure_motion]

theorem State.measure_yields (s : State) (hn : ps.Nodup) : s.Yields (s.measure ps) :=
  s.foldl_yields Motor.takePosition_yields hn

/-- The pair that runs a command, as either port of it finds it (R65). -/
theorem State.Bound.runningPair (h : s.Bound k q) (hp : p = q.first ∨ p = q.second) :
    s.runningPair p = (s.motor q.first).active.map fun c => (q, c) := by
  simp only [State.runningPair, h.pairOf hp, Option.bind_some, h.entry]
  cases (s.motor q.first).active <;> rfl

/-- Stage 2 of a pair without a command: its channels go one by one (notes/assumptions/55). -/
theorem State.Bound.bothIdle (h : s.Bound k q) (hn : (s.motor q.first).active = none) :
    s.Acts [q.first, q.second] ((s.singleReference q.first).singleReference q.second) := by
  have h1 := (State.Group.resting h (.inl rfl) hn).singleReference
  have hb := h1.yields.bound h
  refine (h1.mono (by simp)).trans (State.Acts.mono ?_ (ps := [q.second]) (by simp))
  exact (State.Group.resting hb (.inr rfl) ((h1.yields.motors _).idle hn)).singleReference

theorem State.periodStages_running {x y : Port} {c : Command} (h : (s.measure [x, y]).runningPair x = some (q, c)) :
    s.periodStages [x, y] = [x, y].foldl (fun t z => t.output z)
      (((s.measure [x, y]).pairReference q c).controlAndStall [x, y] x) := by
  unfold State.measure at h ⊢
  simp only [State.periodStages, h, List.headD_cons]

theorem State.periodStages_resting {x y : Port} (h : (s.measure [x, y]).runningPair x = none) :
    s.periodStages [x, y] = [x, y].foldl (fun t z => t.output z)
      ((((s.measure [x, y]).singleReference x).singleReference y).controlAndStall [x, y] x) := by
  unfold State.measure at h ⊢
  simp only [State.periodStages, h, List.headD_cons]
  rfl

/-- Stage 2 of a group is an act on its channels. -/
theorem State.Group.references (h : s.Group ps) : ∃ u, (s.measure ps).Acts ps u ∧
    s.periodStages ps = ps.foldl (fun t x => t.output x) (u.controlAndStall ps (ps.headD .a)) := by
  have hy := s.measure_yields h.nodup
  have hm := hy.group h
  cases h with
  | resting => exact ⟨_, hm.singleReference, rfl⟩
  | queue hq =>
    cases hq with
    | alone => exact ⟨_, hm.singleReference, rfl⟩
    | @pair k q hb =>
      have hb' := hy.bound hb
      have hr := hb'.runningPair (.inl rfl)
      cases hc : ((s.measure [q.first, q.second]).motor q.first).active with
      | none => exact ⟨_, hb'.bothIdle hc, State.periodStages_resting (by rw [hr, hc]; rfl)⟩
      | some c => exact ⟨_, hb'.pairReference c, State.periodStages_running (by rw [hr, hc]; rfl)⟩

/-- Stages 1 and 5 take each channel of the group by itself; between them the Motion Unit acts on the group alone. -/
theorem State.Group.stages (h : s.Group ps) : ∃ u, (s.measure ps).Acts ps u ∧
    s.periodStages ps = ps.foldl (fun t x => t.setMotor x (s.drive (t.motor x))) u := by
  obtain ⟨r, hr, he⟩ := h.references
  have hu := hr.trans (hr.yields.group ((s.measure_yields h.nodup).group h)).controlAndStall
  refine ⟨_, hu, he.trans (State.foldl_output ps ?_)⟩
  rw [← s.measure_supply ps, hu.motion]

end Stages
end Sys2Proof.Machine

/-! SUPPORT. Stretches of a control period (R65, R81, R86, R107, R108): the stages of a group, a sample with the watches
that meet it, and what each leaves of every other port. -/

namespace Sys2Proof.Machine

section Stretches
variable {s t u : State} {p : Port} {moved moved' sampled sampled' ps : List Port} {l : Link} {c : Chan} {k : Nat}

/-- No watch has an action. -/
def State.Haltless (s : State) : Prop := ∀ l k w, s.watch l k = some w → w.action = .none

/-- `t` follows from `s` by stages of the channels of `moved` and samples of the ports of `sampled`. A watch that halts
reaches the other channels too, and keeps their measurement. -/
structure State.Stretch (moved sampled : List Port) (s t : State) : Prop extends s.Yields t where
  ports : t.ports = s.ports
  hub : t.hub = s.hub
  supply : t.supply = s.supply
  samples : ∀ c, (∀ p ∈ sampled, c ≠ .port p) → t.sample c = s.sample c
  views : ∀ c, (∀ p ∈ sampled, c ≠ .port p) → ∀ l, t.view l c = s.view l c
  watches : ∀ l k, (∀ w, s.watch l k = some w → ∀ p ∈ sampled, w.chan ≠ .port p) → t.watch l k = s.watch l k
  plans : ∀ l k, (t.watch l k).map (fun w => (w.chan, w.action)) = (s.watch l k).map fun w => (w.chan, w.action)
  keeps : ∀ y, y ∉ moved → (s.motor y).Keeps (t.motor y)
  quiet : s.Haltless → ∀ y, y ∉ moved → t.motor y = s.motor y
  outside : ∀ y, y ∉ moved → ¬ s.driven y → s.Unpaired y → t.motor y = s.motor y

theorem State.Stretch.planOf (h : s.Stretch moved sampled t) {w' : Watch} (hw : t.watch l k = some w') :
    ∃ w, s.watch l k = some w ∧ w.chan = w'.chan ∧ w.action = w'.action := by
  have hp := h.plans l k
  rw [hw] at hp
  cases hs : s.watch l k with
  | none => rw [hs] at hp; cases hp
  | some w =>
    rw [hs] at hp
    have he : (w'.chan, w'.action) = (w.chan, w.action) := Option.some.inj hp
    exact ⟨w, rfl, (congrArg Prod.fst he).symm, (congrArg Prod.snd he).symm⟩

theorem State.Stretch.stillHaltless (h : s.Stretch moved sampled t) (hq : s.Haltless) : t.Haltless := fun l k w hw => by
  obtain ⟨w0, h0, -, ha⟩ := h.planOf hw
  exact ha.symm.trans (hq l k w0 h0)

theorem State.driven_congr (h : t.ports = s.ports) (y : Port) : t.driven y = s.driven y := by
  unfold State.driven State.active State.classOf State.port
  rw [h]

theorem State.Stretch.refl (s : State) : s.Stretch [] [] s :=
  { pairs := rfl, motors := fun _ => ⟨rfl, id, fun _ => id⟩, ports := rfl, hub := rfl, supply := rfl
    samples := fun _ _ => rfl, views := fun _ _ _ => rfl, watches := fun _ _ _ => rfl, plans := fun _ _ => rfl
    keeps := fun _ _ => .refl _, quiet := fun _ _ _ => rfl, outside := fun _ _ _ _ => rfl }

theorem State.Stretch.trans (h : s.Stretch moved sampled t) (h' : t.Stretch moved' sampled' u) :
    s.Stretch (moved ++ moved') (sampled ++ sampled') u where
  pairs := h'.pairs.trans h.pairs
  motors y := (h.motors y).trans (h'.motors y)
  ports := h'.ports.trans h.ports
  hub := h'.hub.trans h.hub
  supply := h'.supply.trans h.supply
  samples c hc := (h'.samples c fun p hp => hc p (List.mem_append_right _ hp)).trans
    (h.samples c fun p hp => hc p (List.mem_append_left _ hp))
  views c hc l := (h'.views c (fun p hp => hc p (List.mem_append_right _ hp)) l).trans
    (h.views c (fun p hp => hc p (List.mem_append_left _ hp)) l)
  watches l k hk := by
    have ht := h.watches l k fun w hw p hp => hk w hw p (List.mem_append_left _ hp)
    exact (h'.watches l k fun w hw p hp => hk w (ht ▸ hw) p (List.mem_append_right _ hp)).trans ht
  plans l k := (h'.plans l k).trans (h.plans l k)
  keeps y hy := by
    obtain ⟨h1, h2⟩ := not_or.mp (List.mem_append.not.mp hy)
    exact (h.keeps y h1).trans (h'.keeps y h2)
  quiet hq y hy := by
    obtain ⟨h1, h2⟩ := not_or.mp (List.mem_append.not.mp hy)
    exact (h'.quiet (h.stillHaltless hq) y h2).trans (h.quiet hq y h1)
  outside y hy hd hu := by
    obtain ⟨h1, h2⟩ := not_or.mp (List.mem_append.not.mp hy)
    exact (h'.outside y h2 (by rwa [State.driven_congr h.ports]) (h.toYields.unpaired hu)).trans (h.outside y h1 hd hu)

theorem State.Stretch.mono (h : s.Stretch moved sampled t) (hm : ∀ y ∈ moved, y ∈ moved')
    (hs : ∀ y ∈ sampled, y ∈ sampled') : s.Stretch moved' sampled' t :=
  { h with
    samples := fun c hc => h.samples c fun p hp => hc p (hs p hp)
    views := fun c hc => h.views c fun p hp => hc p (hs p hp)
    watches := fun l k hk => h.watches l k fun w hw p hp => hk w hw p (hs p hp)
    keeps := fun y hy => h.keeps y fun e => hy (hm y e)
    quiet := fun hq y hy => h.quiet hq y fun e => hy (hm y e)
    outside := fun y hy => h.outside y fun e => hy (hm y e) }

/-- Two stretches of the same ports. -/
theorem State.Stretch.andThen (h : s.Stretch moved sampled t) (h' : t.Stretch moved sampled u) :
    s.Stretch moved sampled u :=
  (h.trans h').mono (by simp) (by simp)

theorem State.Stretch.stands (s : State) (moved sampled : List Port) : s.Stretch moved sampled s :=
  (State.Stretch.refl s).mono (by simp) (by simp)

/-! ### The stages of a group -/

theorem State.Group.stretch (h : s.Group ps) : s.Stretch ps [] (s.periodStages ps) := by
  obtain ⟨u, hu, he⟩ := h.stages
  have hn := h.nodup
  have hy : s.Yields (s.periodStages ps) := by
    rw [he]
    have h1 := s.measure_yields hn
    have h2 := hu.yields
    have h3 := u.foldl_yields s.drive_yields hn
    exact (h1.trans h2).trans h3
  have hm : s.periodStages ps = { s with motors := (s.periodStages ps).motors, links := (s.periodStages ps).links } := by
    rw [he, State.foldl_setMotor_motion, hu.motion, s.measure_motion]
  have ho : ∀ y, y ∉ ps → (s.periodStages ps).motor y = s.motor y := fun y hy => by
    rw [he, State.foldl_setMotor_motor _ hn, if_neg hy, hu.others y hy, s.measure_motor hn, if_neg hy]
  exact {
    toYields := hy
    ports := by rw [hm]
    hub := by rw [hm]
    supply := by rw [hm]
    samples := fun _ _ => by rw [hm]; rfl
    views := fun _ _ _ => by rw [hm]; rfl
    watches := fun _ _ _ => by rw [hm]; rfl
    plans := fun _ _ => by rw [hm]; rfl
    keeps := fun y hy => by rw [ho y hy]; exact .refl _
    quiet := fun _ => ho
    outside := fun y hy _ _ => ho y hy }

/-- What the stages leave of a channel of the group: the new measurement, and a duty within its cap (R63, R64, R73). -/
theorem State.Group.stages_motor (h : s.Group ps) {y : Port} (hy : y ∈ ps) :
    ((s.periodStages ps).motor y).measured = (s.motor y).takePosition.measured ∧
    ((s.periodStages ps).motor y).duty.natAbs ≤ 10000 ∧
    (s.supply.state = some .low → ((s.periodStages ps).motor y).duty.natAbs ≤ 7500) := by
  obtain ⟨u, hu, he⟩ := h.stages
  have hn := h.nodup
  rw [he, State.foldl_setMotor_motor _ hn, if_pos hy]
  refine ⟨?_, s.drive_bounds _⟩
  have hk := (hu.keeps y).measured
  rw [s.measure_motor hn, if_pos hy] at hk
  exact hk

/-! ### A watch that halts (R60, R108) -/

/-- A halt reaches the channels of one queue: its own, or its pair's. -/
theorem State.Tied.haltMotor (h : s.Tied) (p : Port) (e : EndAction) :
    ∃ ps, s.Acts ps (s.haltMotor p e) ∧ ∀ y ∈ ps, y = p ∨ ¬ s.Unpaired y := by
  rcases h.ports p with hu | ⟨k, q, hb, hp⟩
  · refine ⟨[p], ?_, fun y hy => .inl (List.mem_singleton.mp hy)⟩
    rw [hu.haltMotor]
    exact .told List.mem_cons_self (.ended _ _ _)
  · refine ⟨[q.first, q.second], ?_, fun y hy => .inr fun hu => ?_⟩
    · rw [hb.haltMotor hp, State.pairStopped_told]
      exact .told_both hb.ports (.ended _ _ _) (.ended _ _ _)
    · have hk := hb.pairOf (p := y) (by simpa using hy)
      rw [hu.1] at hk
      cases hk

theorem State.Acts.stretch (h : s.Acts ps t) (hd : ∀ y ∈ ps, s.Unpaired y → s.driven y) (hw : ¬ s.Haltless) :
    s.Stretch [] [] t where
  toYields := h.yields
  ports := by rw [h.motion]
  hub := by rw [h.motion]
  supply := by rw [h.motion]
  samples _ _ := by rw [h.motion]; rfl
  views _ _ _ := by rw [h.motion]; rfl
  watches _ _ _ := by rw [h.motion]; rfl
  plans _ _ := by rw [h.motion]; rfl
  keeps y _ := h.keeps y
  quiet hq := absurd hq hw
  outside y _ hn hu := by
    by_cases hy : y ∈ ps
    · exact absurd (hd y hy hu) hn
    · exact h.others y hy

/-- The halt of an entry's action that is carried out. -/
theorem State.Tied.carryOut (h : s.Tied) {a : WatchAction} (hr : s.actionResult l a = .carriedOut) (hw : ¬ s.Haltless) :
    s.Stretch [] [] (s.carryOut a) := by
  cases a with
  | none => cases hr
  | haltPort p e =>
    obtain ⟨ps, ha, hp⟩ := h.haltMotor p (s.watchEnd p e)
    refine State.Acts.stretch (ps := ps) ha (fun y hy hu => ?_) hw
    obtain rfl : y = p := (hp y hy).resolve_right (not_not.mpr hu)
    by_contra hd
    rw [State.actionResult_port, if_neg hd] at hr
    split at hr <;> cases hr
  | haltPair k e =>
    cases hk : s.pair k with
    | none =>
      simp only [State.actionResult, hk] at hr
      cases hr
    | some q =>
      obtain ⟨ps, ha, hp⟩ := h.haltMotor q.first (s.watchEnd q.first e)
      have hc : s.carryOut (.haltPair k e) = s.haltMotor q.first (s.watchEnd q.first e) := by simp only [State.carryOut, hk]
      rw [hc]
      refine State.Acts.stretch (ps := ps) ha (fun y hy hu => ?_) hw
      obtain rfl : y = q.first := (hp y hy).resolve_right (not_not.mpr hu)
      have hb := (h.pairs k q hk).pair.1
      rw [hu.1] at hb
      cases hb

/-! ### A watch that meets an output (R107) -/

theorem State.LinksOnly.stretch (h : s.LinksOnly t) : s.Stretch [] [] t := by
  rw [h]
  exact { State.Stretch.refl s with }

/-- An entry of the port changes, with its channel and action as they were. -/
theorem State.Stretch.setWatch {w w' : Watch} (hw : s.watch l k = some w) (hc : w.chan = .port p)
    (he : (w'.chan, w'.action) = (w.chan, w.action)) : s.Stretch [] [p] (s.setWatch l k (some w')) := by
  refine { State.Stretch.refl s with
    samples := fun _ _ => rfl, views := fun _ _ _ => rfl, watches := fun j n hn => ?_, plans := fun j n => ?_ }
  all_goals
    rw [State.setWatch_watch]
    split
    case isFalse => rfl
    rename_i hj
    obtain ⟨rfl, rfl⟩ := hj
  · exact absurd hc (hn w hw p List.mem_cons_self)
  · rw [hw, Option.map_some, Option.map_some, he]

theorem State.Stretch.fireWatch (ht : s.Tied) {w : Watch} (hw : s.watch l k = some w) (hc : w.chan = .port p) :
    s.Stretch [] [p] (s.fireWatch l k) := by
  by_cases hd : w.Due
  · have told : ∀ a b c d, s.Stretch [] [p] (s.watchTold l k w a b c d) := fun a b c d =>
      (State.Stretch.setWatch (w' := w.fired a) hw hc rfl).trans (s.watchTold_frame l k w a b c d).stretch
    by_cases hr : s.actionResult l w.action = .carriedOut
    · rw [State.fireWatch_carriedOut hw hd hr]
      have hs := told w.skips w.action.code 1 (s.actionEnds w.action)
      have hl := s.watchTold_frame l k w w.skips w.action.code 1 (s.actionEnds w.action)
      refine hs.trans (State.Tied.carryOut (l := l) (hs.toYields.tied ht) ?_ fun hn => ?_)
      · rw [hl]
        exact hr
      · have hk : (s.watchTold l k w w.skips w.action.code 1 (s.actionEnds w.action)).watch l k = some (w.fired w.skips) := by
          rw [hl]
          exact (s.setWatch_watch l l k k _).trans (if_pos ⟨rfl, rfl⟩)
        have hn' : (w.fired w.skips).action = .none := hn l k _ hk
        change w.action = .none at hn'
        rw [hn'] at hr
        cases hr
    · rw [State.fireWatch_told hw hd rfl hr]
      exact told _ _ _ _
  · rw [State.fireWatch_undue hw hd]
    exact .stands s _ _

theorem State.Stretch.evalWatch (ht : s.Tied) (l : Link) (k : Nat) (p : Port) :
    s.Stretch [] [p] (s.evalWatch l (.port p) k) := by
  have stands : s.Stretch [] [p] s := .stands s _ _
  by_cases hc : ∃ w, s.watch l k = some w ∧ w.chan = .port p
  · obtain ⟨w, hw, hc⟩ := hc
    have sets : ∀ st n, s.Stretch [] [p] (s.watchAt l k w st n) := fun st n => .setWatch hw hc rfl
    have fires : ∀ n, s.Stretch [] [p] ((s.watchAt l k w .pending n).fireWatch l k) := fun n =>
      (sets .pending n).andThen (.fireWatch ((sets .pending n).toYields.tied ht) (s.watchAt_watch l k w .pending n) hc)
    rw [← hc]
    cases hs : w.state with
    | armed =>
      rw [State.evalWatch_armed hw hs]
      split
      exacts [fires _, stands]
    | pending =>
      rw [State.evalWatch_pending hw hs]
      split
      exacts [fires _, sets _ _]
    | fired =>
      rw [State.evalWatch_fired hw hs]
      split
      exacts [sets _ _, stands]
    | disarmed =>
      rw [State.evalWatch_off hw hs]
      exact stands
  · rw [State.evalWatch_absent fun w hw e => hc ⟨w, hw, e⟩]
    exact stands

/-! ### A sample of a port (R65, R81, R86) -/

theorem State.Stretch.tied (h : s.Stretch moved sampled t) (ht : s.Tied) : t.Tied := h.toYields.tied ht

/-- A fold whose steps are stretches of the same ports. -/
theorem State.Stretch.foldl {β : Type} {f : State → β → State} (ht : s.Tied) (xs : List β)
    (hf : ∀ (u : State) (x : β), u.Tied → x ∈ xs → u.Stretch moved sampled (f u x)) :
    s.Stretch moved sampled (xs.foldl f s) := by
  refine (List.foldlRecOn (motive := fun u => s.Stretch moved sampled u ∧ u.Tied) xs f ⟨.stands s _ _, ht⟩
    fun u hu x hx => ?_).1
  have hx := hf u x hu.2 hx
  exact ⟨hu.1.andThen hx, hx.tied hu.2⟩

theorem State.Stretch.setView (s : State) (l : Link) (p : Port) (v : View) :
    s.Stretch [] [p] (s.setView l (.port p) v) := by
  refine { State.Stretch.refl s with samples := fun _ _ => rfl, views := fun c hc j => ?_, watches := fun _ _ _ => rfl }
  rw [State.setView_view, if_neg fun e => hc p List.mem_cons_self e.2]

theorem State.Stretch.setSample (s : State) (p : Port) (x : Sample) : s.Stretch [] [p] (s.setSample (.port p) x) := by
  refine { State.Stretch.refl s with samples := fun c hc => ?_, views := fun _ _ _ => rfl, watches := fun _ _ _ => rfl }
  exact PerChan.get_set_ne _ _ (hc p List.mem_cons_self)

theorem State.Stretch.viewTaken (ht : s.Tied) (l : Link) (p : Port) : s.Stretch [] [p] (s.viewTaken l (.port p)) := by
  have hv := fun v => State.Stretch.setView s l p v
  unfold State.viewTaken
  dsimp only
  split
  · exact .stands s _ _
  · split
    · exact (hv _).andThen (.foldl ((hv _).tied ht) _ fun u k hu _ => .evalWatch hu l k p)
    · exact hv _

theorem State.Stretch.sampleTaken (ht : s.Tied) (p : Port) (x : Sample) :
    s.Stretch [] [p] (s.sampleTaken (.port p) x) := by
  have h1 := State.Stretch.setSample s p x
  have h2 := h1.andThen (.viewTaken (h1.tied ht) .pl p)
  exact h2.andThen (.viewTaken (h2.tied ht) .tl p)

theorem State.Stretch.motorSample (ht : s.Tied) (p : Port) : s.Stretch [] [p] (s.motorSample p) := by
  unfold State.motorSample
  rw [State.takeSample_eq]
  exact .sampleTaken ht p _

theorem State.Stretch.motorSamples (ht : s.Tied) (ps : List Port) :
    s.Stretch [] ps (ps.foldl (fun t p => t.motorSample p) s) :=
  .foldl ht ps fun _ p hu hp => (State.Stretch.motorSample hu p).mono (by simp) (by simpa using hp)

/-! ### One group, and several -/

theorem State.Group.period (h : s.Group ps) (ht : s.Tied) : s.Stretch ps ps (s.periodGroup ps) :=
  (h.stretch.trans (.motorSamples (h.stretch.tied ht) ps)).mono (by simp) (by simp)

theorem State.Stretch.groups (ht : s.Tied) {gs : List (List Port)} (hg : ∀ g ∈ gs, s.Group g) :
    s.Stretch gs.flatten gs.flatten (gs.foldl State.periodGroup s) := by
  induction gs generalizing s with
  | nil => exact .refl s
  | cons g rest ih =>
    have h1 := (hg g List.mem_cons_self).period ht
    exact h1.trans (ih (h1.tied ht) fun g' hg' => h1.toYields.group (hg g' (List.mem_cons_of_mem _ hg')))

end Stretches
end Sys2Proof.Machine

/-! SUPPORT. The groups of a control period and their order (R65). -/

namespace Sys2Proof.Machine

section Groups
variable {s t u : State} {p x y : Port} {g : List Port} {k : Nat} {q : Pair}

/-! ### The group of a port -/

/-- The ports whose stages run together with those of `p` (R65). -/
def State.groupOf (s : State) (p : Port) : List Port :=
  match s.runningPair p with
  | none => [p]
  | some (q, _) => [q.first, q.second]

/-- The port of lower letter of this group, with whose letter its turn comes. -/
def State.leaderOf (s : State) (p : Port) : Port :=
  match s.runningPair p with
  | none => p
  | some (q, _) => if portCode q.first < portCode q.second then q.first else q.second

/-- A port of a pair that runs a command, and any other. -/
theorem State.Tied.groupOf_cases (h : s.Tied) (p : Port) : (s.groupOf p = [p] ∧ s.leaderOf p = p ∧ s.Group [p]) ∨
    ∃ k q, s.Bound k q ∧ (p = q.first ∨ p = q.second) ∧ ∀ y, (y = q.first ∨ y = q.second) →
      s.groupOf y = [q.first, q.second] ∧
      s.leaderOf y = if portCode q.first < portCode q.second then q.first else q.second := by
  unfold State.groupOf State.leaderOf
  rcases h.ports p with hu | ⟨k, q, hb, hp⟩
  · have hr : s.runningPair p = none := by simp only [State.runningPair, hu.1, Option.bind_none]
    rw [hr]
    exact .inl ⟨rfl, rfl, .queue (.alone hu)⟩
  · cases hc : (s.motor q.first).active with
    | none =>
      rw [hb.runningPair hp, hc]
      exact .inl ⟨rfl, rfl, .resting hb hp hc⟩
    | some c =>
      refine .inr ⟨k, q, hb, hp, fun y hy => ?_⟩
      rw [hb.runningPair hy, hc]
      exact ⟨rfl, rfl⟩

theorem State.Tied.group (h : s.Tied) (p : Port) : s.Group (s.groupOf p) := by
  rcases h.groupOf_cases p with ⟨hg, -, hs⟩ | ⟨k, q, hb, hp, hg⟩
  · rwa [hg]
  · rw [(hg p hp).1]
    exact .queue (.pair hb)

theorem State.Tied.mem_groupOf (h : s.Tied) (p : Port) : p ∈ s.groupOf p := by
  rcases h.groupOf_cases p with ⟨hg, -, -⟩ | ⟨k, q, -, hp, hg⟩
  · rw [hg]
    exact List.mem_cons_self
  · rw [(hg p hp).1]
    simpa using hp

theorem State.Tied.leaderOf_mem (h : s.Tied) (p : Port) : s.leaderOf p ∈ s.groupOf p := by
  rcases h.groupOf_cases p with ⟨hg, hl, -⟩ | ⟨k, q, -, hp, hg⟩
  · rw [hg, hl]
    exact List.mem_cons_self
  · rw [(hg p hp).1, (hg p hp).2]
    split <;> simp

theorem State.Tied.leaderOf_le (h : s.Tied) (hy : y ∈ s.groupOf p) : portCode (s.leaderOf p) ≤ portCode y := by
  rcases h.groupOf_cases p with ⟨hg, hl, -⟩ | ⟨k, q, -, hp, hg⟩
  · rw [hg] at hy
    rw [hl, List.mem_singleton.mp hy]
  · rw [(hg p hp).1] at hy
    rw [(hg p hp).2]
    rcases List.mem_pair.mp hy with rfl | rfl <;> split <;> omega

/-- Every port of a group has this group. -/
theorem State.Tied.groupOf_eq (h : s.Tied) (hy : y ∈ s.groupOf p) :
    s.groupOf y = s.groupOf p ∧ s.leaderOf y = s.leaderOf p := by
  rcases h.groupOf_cases p with ⟨hg, -, -⟩ | ⟨k, q, hb, hp, hg⟩
  · rw [hg] at hy
    rw [List.mem_singleton.mp hy]
    exact ⟨rfl, rfl⟩
  · rw [(hg p hp).1] at hy ⊢
    rw [(hg p hp).2]
    exact hg y (List.mem_pair.mp hy)

/-! ### The groups in their order -/

theorem State.periodGroups_eq (s : State) : s.periodGroups =
    allPorts.filterMap fun x => if s.leaderOf x = x then some (s.groupOf x) else none := by
  unfold State.periodGroups
  refine List.filterMap_congr fun x _ => ?_
  unfold State.leaderOf State.groupOf
  cases s.runningPair x with
  | none => exact (if_pos rfl).symm
  | some r => exact if_congr eq_comm rfl rfl

/-- The groups that a control period takes, in their order. -/
def State.turns (s : State) : List (List Port) := s.periodGroups.filter fun ps => ps.all s.driven

theorem State.mem_turns : g ∈ s.turns ↔ (∃ x, s.leaderOf x = x ∧ s.groupOf x = g) ∧ ∀ y ∈ g, s.driven y = true := by
  unfold State.turns
  rw [State.periodGroups_eq, List.mem_filter, List.mem_filterMap, List.all_eq_true]
  refine and_congr_left fun _ => exists_congr fun x => ?_
  rw [Option.ite_none_right_eq_some, Option.some_inj]
  exact and_iff_right (mem_allPorts x)

theorem State.Tied.turn (h : s.Tied) (hp : ∀ y ∈ s.groupOf p, s.driven y = true) : s.groupOf p ∈ s.turns := by
  obtain ⟨hg, hl⟩ := h.groupOf_eq (h.leaderOf_mem p)
  exact State.mem_turns.mpr ⟨⟨_, hl, hg⟩, hp⟩

theorem State.Tied.turns_groups (h : s.Tied) : ∀ g ∈ s.turns, s.Group g := fun g hg => by
  obtain ⟨⟨x, -, rfl⟩, -⟩ := State.mem_turns.mp hg
  exact h.group x

/-- Of two groups the first has a port of lower letter than any of the second, and none of it. -/
theorem State.Tied.turns_pairwise (h : s.Tied) :
    s.turns.Pairwise fun g g' => (∃ x ∈ g, ∀ y ∈ g', portCode x < portCode y) ∧ ∀ y ∈ g, y ∉ g' := by
  have hall : allPorts.Pairwise fun x y => portCode x < portCode y := by decide
  unfold State.turns
  rw [State.periodGroups_eq]
  refine List.Pairwise.filter _ (List.pairwise_filterMap.mpr (hall.imp fun {x x'} hx g hg g' hg' => ?_))
  rw [Option.ite_none_right_eq_some, Option.some_inj] at hg hg'
  obtain ⟨hl, rfl⟩ := hg
  obtain ⟨hl', rfl⟩ := hg'
  refine ⟨⟨x, h.mem_groupOf x, fun y hy => ?_⟩, fun y hy hy' => ?_⟩
  · have := h.leaderOf_le hy
    rw [hl'] at this
    omega
  · have he := (h.groupOf_eq hy).2.symm.trans (h.groupOf_eq hy').2
    rw [hl, hl'] at he
    rw [he] at hx
    omega

/-- The turn of the group of a driven port, with what comes before and after it. -/
theorem State.Tied.turns_split (h : s.Tied) (hp : ∀ y ∈ s.groupOf p, s.driven y = true) :
    ∃ gs hs, s.turns = gs ++ s.groupOf p :: hs ∧
      (∀ y ∈ s.groupOf p, y ∉ gs.flatten ∧ y ∉ hs.flatten) ∧
      (∀ y ∈ gs.flatten, s.groupOf y = [y] → portCode y < portCode p) ∧
      (s.groupOf p = [p] → ∀ y ∈ hs.flatten, portCode p < portCode y) := by
  obtain ⟨gs, hs, he⟩ := List.append_of_mem (h.turn hp)
  have hw := h.turns_pairwise
  rw [he, List.pairwise_append] at hw
  obtain ⟨-, hw, hb⟩ := hw
  obtain ⟨ha, -⟩ := List.pairwise_cons.mp hw
  refine ⟨gs, hs, he, fun y hy => ⟨fun hm => ?_, fun hm => ?_⟩, fun y hm hy => ?_, fun hg y hm => ?_⟩ <;>
    obtain ⟨g, hgm, hyg⟩ := List.mem_flatten.mp hm
  · exact (hb g hgm _ List.mem_cons_self).2 y hyg hy
  · exact (ha g hgm).2 y hy hyg
  · obtain ⟨⟨x, hx, hlt⟩, -⟩ := hb g hgm _ List.mem_cons_self
    have hgy : g = [y] := by
      have hgt : g ∈ s.turns := by
        rw [he]
        exact List.mem_append_left _ hgm
      obtain ⟨⟨z, -, rfl⟩, -⟩ := State.mem_turns.mp hgt
      exact (h.groupOf_eq hyg).1.symm.trans hy
    rw [hgy] at hx
    obtain rfl := List.mem_singleton.mp hx
    exact hlt p (h.mem_groupOf p)
  · obtain ⟨⟨x, hx, hlt⟩, -⟩ := ha g hgm
    rw [hg] at hx
    obtain rfl := List.mem_singleton.mp hx
    exact hlt y hyg

end Groups
end Sys2Proof.Machine

/-! SUPPORT. A control period about the sample of one port (R65, R81): what came before, the stages of its group, and what
comes after. -/

namespace Sys2Proof.Machine

section Around
variable {s r u : State} {p y : Port} {earlier left right later : List Port}

/-- In the control period of `s` the group of `p` finds the state `r` after the groups of the ports `earlier`; the sample of
`p` is taken in `u`, after the samples `left` of its group, before the samples `right` and the groups of `later`. -/
structure State.Around (s : State) (p : Port) (r u : State) (earlier left right later : List Port) : Prop where
  found : s.Stretch earlier earlier r
  group : r.Group (s.groupOf p)
  taken : (r.periodStages (s.groupOf p)).Stretch [] left u
  rest : (u.motorSample p).Stretch later (right ++ later) s.controlPeriod
  once : p ∉ left ∧ p ∉ right
  apart : ∀ y ∈ s.groupOf p, y ∉ earlier ∧ y ∉ later
  before : ∀ y ∈ earlier, s.groupOf y = [y] → portCode y < portCode p
  after : s.groupOf p = [p] → ∀ y ∈ later, portCode p < portCode y
  tied : u.Tied

theorem State.Tied.around (h : s.Tied) (hp : ∀ y ∈ s.groupOf p, s.driven y = true) :
    ∃ r u earlier left right later, s.Around p r u earlier left right later := by
  obtain ⟨gs, hs, he, hapart, hbefore, hafter⟩ := h.turns_split hp
  obtain ⟨left, right, hg⟩ := List.append_of_mem (h.mem_groupOf p)
  have hgroups : ∀ g ∈ gs ++ s.groupOf p :: hs, s.Group g := he ▸ h.turns_groups
  have h1 : s.Stretch gs.flatten gs.flatten (gs.foldl State.periodGroup s) :=
    .groups h fun g hg => hgroups g (List.mem_append_left _ hg)
  have hr := h1.toYields.group (h.group p)
  have h2 := hr.stretch
  have t2 := h2.tied (h1.tied h)
  have h3 := State.Stretch.motorSamples t2 left
  have t3 := h3.tied t2
  have h4 := State.Stretch.motorSample t3 p
  have t4 := h4.tied t3
  have h5 := State.Stretch.motorSamples t4 right
  have t5 := h5.tied t4
  have hy := (((h1.toYields.trans h2.toYields).trans h3.toYields).trans h4.toYields).trans h5.toYields
  have h6 : State.Stretch hs.flatten hs.flatten _ (hs.foldl State.periodGroup _) := .groups t5 fun g hg =>
    hy.group (hgroups g (List.mem_append_right _ (List.mem_cons_of_mem _ hg)))
  have hn := hr.nodup
  rw [hg, List.nodup_append] at hn
  have honce : p ∉ left ∧ p ∉ right := ⟨fun e => hn.2.2 _ e _ List.mem_cons_self rfl, (List.nodup_cons.mp hn.2.1).1⟩
  refine ⟨_, _, _, left, right, _, h1, hr, h3, ?_, honce, hapart, hbefore, hafter, t3⟩
  have hc : s.controlPeriod = hs.foldl State.periodGroup (right.foldl (fun t p => t.motorSample p)
      ((left.foldl (fun t p => t.motorSample p)
        ((gs.foldl State.periodGroup s).periodStages (s.groupOf p))).motorSample p)) := by
    rw [State.controlPeriod, ← State.turns, he, List.foldl_append, List.foldl_cons]
    unfold State.periodGroup
    rw [hg, List.foldl_append, List.foldl_cons, ← hg]
  rw [hc]
  exact h5.trans h6

/-! ### The channel at its sample and after the period -/

theorem Motor.takePosition_measured {m m' : Motor} (h : m'.measured = m.measured) :
    m'.takePosition.measured = m.takePosition.measured := by
  simp only [Motor.measured, Prod.mk.injEq] at h
  obtain ⟨h1, h2, h3, h4, -, h6, h7⟩ := h
  simp only [Motor.measured, Motor.takePosition, h1, h2, h3, h4, h6, h7]

/-- The channel keeps what the stages of its group have left. -/
theorem State.Around.keeps (h : s.Around p r u earlier left right later) (hs : s.Tied) :
    ((r.periodStages (s.groupOf p)).motor p).Keeps (u.motor p) ∧ (u.motor p).Keeps (s.controlPeriod.motor p) := by
  have hlater := (h.apart p (hs.mem_groupOf p)).2
  exact ⟨h.taken.keeps p List.not_mem_nil,
    ((State.Stretch.motorSample h.tied p).keeps p List.not_mem_nil).trans (h.rest.keeps p hlater)⟩

theorem State.Around.measured (h : s.Around p r u earlier left right later) (hs : s.Tied) :
    (u.motor p).measured = (s.motor p).takePosition.measured ∧
    (s.controlPeriod.motor p).measured = (s.motor p).takePosition.measured := by
  have hp := hs.mem_groupOf p
  obtain ⟨h1, h2⟩ := h.keeps hs
  have hu : (u.motor p).measured = (s.motor p).takePosition.measured :=
    (h1.measured.trans (h.group.stages_motor hp).1).trans
      (Motor.takePosition_measured (h.found.keeps p (h.apart p hp).1).measured)
  exact ⟨hu, h2.measured.trans hu⟩

/-- The applied duty is within its cap, or 0 after a halt (R73). -/
theorem State.Around.duty (h : s.Around p r u earlier left right later) (hs : s.Tied) :
    (s.controlPeriod.motor p).duty.natAbs ≤ 10000 ∧
    (s.supply.state = some .low → (s.controlPeriod.motor p).duty.natAbs ≤ 7500) := by
  obtain ⟨h1, h2⟩ := h.keeps hs
  obtain ⟨-, hd, hl⟩ := h.group.stages_motor (hs.mem_groupOf p)
  rw [h.found.supply] at hl
  rcases (h1.trans h2).duty with e | e
  · rw [e]
    exact ⟨hd, hl⟩
  · rw [e]
    exact ⟨by decide, fun _ => by decide⟩

/-- Where no watch halts, a group finds its channels as they were, and its stages leave them for good. -/
theorem State.Around.haltless (h : s.Around p r u earlier left right later) (hs : s.Tied) (hq : s.Haltless) :
    (∀ y ∈ s.groupOf p, r.motor y = s.motor y ∧
      s.controlPeriod.motor y = (r.periodStages (s.groupOf p)).motor y) ∧ u.motor p = s.controlPeriod.motor p := by
  have q1 := h.group.stretch.stillHaltless (h.found.stillHaltless hq)
  have q2 := h.taken.stillHaltless q1
  have hm := State.Stretch.motorSample h.tied p
  have after : ∀ y ∈ s.groupOf p, s.controlPeriod.motor y = u.motor y := fun y hy =>
    (h.rest.quiet (hm.stillHaltless q2) y (h.apart y hy).2).trans (hm.quiet q2 y List.not_mem_nil)
  refine ⟨fun y hy => ⟨h.found.quiet hq y (h.apart y hy).1, (after y hy).trans (h.taken.quiet q1 y List.not_mem_nil)⟩, ?_⟩
  exact (after p (hs.mem_groupOf p)).symm

/-- What comes before the sample of `p` in one stretch. -/
theorem State.Around.until (h : s.Around p r u earlier left right later) :
    s.Stretch (earlier ++ s.groupOf p) (earlier ++ left) u :=
  (h.found.trans (h.group.stretch.trans h.taken)).mono (by simp) (by simp)

theorem State.Around.notYet (h : s.Around p r u earlier left right later) (hs : s.Tied) : p ∉ earlier ++ left :=
  List.mem_append.not.mpr (not_or.mpr ⟨(h.apart p (hs.mem_groupOf p)).1, h.once.1⟩)

theorem State.Around.notAgain (h : s.Around p r u earlier left right later) (hs : s.Tied) : p ∉ right ++ later :=
  List.mem_append.not.mpr (not_or.mpr ⟨h.once.2, (h.apart p (hs.mem_groupOf p)).2⟩)

/-- The four values of R81 on the measured channel. -/
theorem State.Around.sample (h : s.Around p r u earlier left right later) (hs : s.Tied) : u.motorSample p =
    u.sampleTaken (.port p) ⟨none, nextNumber (s.sample (.port p)).sequence, s.hub.time,
      [((s.motor p).takePosition.position * 360).tdiv (s.cpr p), ((s.motor p).takePosition.speed * 360).tdiv (s.cpr p),
        (u.motor p).duty, phaseCode (u.motor p).profile.phase], [false, false, false, false], 5000⟩ := by
  have hm := (h.measured hs).1
  simp only [Motor.measured, Prod.mk.injEq] at hm
  obtain ⟨hpos, -, -, -, hspeed, -⟩ := hm
  have hu := h.until
  have hcpr : u.cpr p = s.cpr p := by
    unfold State.cpr State.motorPart State.port
    rw [hu.ports]
  have hold : u.sample (.port p) = s.sample (.port p) := hu.samples _ fun y hy e => h.notYet hs (by cases e; exact hy)
  unfold State.motorSample State.motorValues State.degrees State.degSpeed
  rw [State.takeSample_eq, hcpr, hold, hpos, hspeed]
  unfold State.now towardZero
  rw [hu.hub]

/-- The record, the views and the watches of the port stand from its sample on. -/
theorem State.Around.stands (h : s.Around p r u earlier left right later) (hs : s.Tied) :
    s.controlPeriod.sample (.port p) = (u.motorSample p).sample (.port p) ∧
    (∀ l, s.controlPeriod.view l (.port p) = (u.motorSample p).view l (.port p)) ∧
    ∀ l k, (∀ w, s.watch l k = some w → w.chan = .port p) → s.controlPeriod.watch l k = (u.motorSample p).watch l k := by
  have hn : ∀ y ∈ right ++ later, Chan.port p ≠ .port y := fun y hy e => h.notAgain hs (by cases e; exact hy)
  refine ⟨h.rest.samples _ hn, h.rest.views _ hn, fun l k hk => h.rest.watches l k fun w hw y hy => ?_⟩
  obtain ⟨w0, h0, hc, -⟩ := (h.until.trans (State.Stretch.motorSample h.tied p)).planOf hw
  rw [← hc, hk w0 h0]
  exact hn y hy

/-- The channels of their own at the moment of a sample, where no watch halts: those of a lower letter have had their turn
and those of a higher one have not (notes/assumptions/14). -/
theorem State.Around.order (h : s.Around p r u earlier left right later) (hs : s.Tied) (hq : s.Haltless)
    (hy : s.groupOf y = [y]) :
    (s.groupOf p = [p] → portCode y ≤ portCode p → u.motor y = s.controlPeriod.motor y) ∧
    (portCode p < portCode y → u.motor y = s.motor y) := by
  have hu := h.until
  have q2 := hu.stillHaltless hq
  have hm := State.Stretch.motorSample h.tied p
  refine ⟨fun hg hle => ?_, fun hlt => hu.quiet hq y fun e => ?_⟩
  · refine ((h.rest.quiet (hm.stillHaltless q2) y fun e => ?_).trans (hm.quiet q2 y List.not_mem_nil)).symm
    have := h.after hg y e
    omega
  · rcases List.mem_append.mp e with e | e
    · have := h.before y e hy
      omega
    · have hp := hs.mem_groupOf p
      rw [← (hs.groupOf_eq e).1, hy] at hp
      rw [List.mem_singleton.mp hp] at hlt
      omega

end Around
end Sys2Proof.Machine

/-! SUPPORT. The stages of a channel of its own, as one function of the channel (R65, R70 to R75). -/

namespace Sys2Proof.Machine

section Alone
variable {s t u : State} {p : Port} {c : Command} {m : Motor} {part : Option MotorPart}

/-- The profile of a TIME command after one more period, in its ramp-down once the amount has passed (R70). -/
def Profile.timed (q : Profile) (c : Command) : Profile :=
  if c.kind = .time then { q with
    elapsed := q.elapsed + 1
    rampDown := q.rampDown || decide ((c.amount.toNat + 4) / 5 < q.elapsed + 1) }
  else q

/-- One step of the profile of an encoder command (R67, R69, R70). -/
def Profile.step (q : Profile) (c : Command) : Profile :=
  if c.kind = .degrees ∨ c.kind = .position then q.boundedAdvance
  else if c.kind = .time ∧ q.rampDown = true then q.rampDownAdvance
  else q.speedAdvance

/-- Stage 2 of a channel RUNNING the command `c` (R65, R70, R71). -/
def Motor.serves (m : Motor) (part : Option MotorPart) (c : Command) : Motor :=
  if c.kind = .duty then m.idleReference
  else if m.profile.settling = true then
    let m' := m.settleTest false
    if (c.kind = .degrees ∨ c.kind = .position) ∧ (3 ≤ m'.profile.inTol ∨ 80 ≤ m'.profile.settleTimer)
    then m'.next part c m.profile.target .afterDone else m'
  else
    let m' := { m with profile := (m.profile.timed c).step c }
    if c.kind = .time ∧ m'.profile.rampDown = true ∧ m'.profile.v = 0 then m'.next part c m.position .afterDone else m'

/-- Stage 2 of a channel (R65). -/
def Motor.reference (m : Motor) (part : Option MotorPart) : Motor :=
  match m.state, m.active with
  | .running, some c => m.serves part c
  | .running, none => m
  | _, _ => m.idleReference

/-- Stages 3 and 4 of a channel (R65, R72, R75). -/
def Motor.loop (m : Motor) (part : Option MotorPart) : Motor :=
  let m' := m.control.stallTest
  match m'.active with
  | some c => if c.kind ≠ .duty ∧ 100 ≤ m'.stallTimer then
      (match c.stall with
        | .fail => m'.ended .coast 0
        | .finish => m'.next part c m'.position .afterStall).control
    else m'
  | none => m'

/-! ### Stage 2 -/

theorem State.settleTimeout_undue (hq : s.queuePort p = p) (h : (s.motor p).profile.settleTimer < 80) :
    s.settleTimeout p = s := by
  cases hc : (s.motor p).active with
  | none => exact (State.ownEnds_idle (by rwa [hq])).2.2.1
  | some c =>
    rw [State.settleTimeout_eq hq hc, if_neg]
    rintro ⟨-, -, h80⟩
    omega

/-- The channel that the end of its command leaves has no settle to time out: it has no command, or one that starts. -/
theorem Motor.next_calm (m : Motor) (part : Option MotorPart) (c : Command) (x : Int) :
    (m.next part c x .afterDone).active = none ∨ (m.next part c x .afterDone).profile.settleTimer = 0 := by
  cases hw : m.waiting with
  | nil =>
    rw [Motor.next_stops hw]
    exact .inl (m.ended_idle _ _).active
  | cons next rest =>
    rw [Motor.next_goesOn hw]
    exact .inr (Motor.start_fromRest m.fromRest_afterDone part next).2.2.2.2.2.2.2.2.1

theorem State.Acts.motorPart {ps : List Port} (h : s.Acts ps t) (x : Port) : t.motorPart x = s.motorPart x := by
  rw [h.motion]
  rfl

theorem State.Unpaired.setMotor (h : s.Unpaired p) (hm : (s.motor p).Yields m) : (s.setMotor p m).Unpaired p := by
  refine State.Yields.unpaired (s := s) ⟨rfl, fun y => ?_⟩ h
  rw [State.setMotor_motor]
  split
  · rename_i hy
    rwa [hy]
  · exact ⟨rfl, id, fun _ => id⟩

/-- The end of the active command, seen from its channel. -/
theorem State.Unpaired.finish_motor (h : s.Unpaired p) (hc : (s.motor p).active = some c) (o : EndOutcome) (f : StartFrom) :
    (s.finish p o f).motor p = (s.motor p).next (s.motorPart p) c ((s.motor p).restsAt c o) f := by
  rw [h.finish hc, State.setMotor_motor_self]

/-- The settle test of a channel of its own with what it ends (R71). -/
theorem State.Unpaired.settles (h : s.Unpaired p) (hc : (s.motor p).active = some c)
    (hset : (s.motor p).profile.settling = true) : ((s.settleDone p).settleTimeout p).motor p =
      if (c.kind = .degrees ∨ c.kind = .position) ∧
        (3 ≤ (s.motor p).profile.inTol ∨ 80 ≤ (s.motor p).profile.settleTimer)
      then (s.motor p).next (s.motorPart p) c (s.motor p).profile.target .afterDone else s.motor p := by
  have hq : s.queuePort p = p := State.queuePort_unpaired h.1
  have hports : s.portsOf p c = [p] := State.portsOf_single s p (h.2.1 c hc)
  have hend := h.finish_motor hc .done .afterDone
  rw [State.settleDone_eq hq hc, hports]
  simp only [List.forall_mem_singleton, hset, true_and]
  by_cases hb : c.kind = .degrees ∨ c.kind = .position
  · rw [Motor.restsAt_done _ hb] at hend
    by_cases h3 : 3 ≤ (s.motor p).profile.inTol
    · have hu := ((State.Queue.alone h).finish .done .afterDone).yields.unpaired h
      have hq' := State.queuePort_unpaired hu.1
      have hstay : (s.finish p .done .afterDone).settleTimeout p = s.finish p .done .afterDone := by
        rcases (s.motor p).next_calm (s.motorPart p) c (s.motor p).profile.target with e | e
        · exact (State.ownEnds_idle (by rw [hq', hend, e])).2.2.1
        · exact State.settleTimeout_undue hq' (by rw [hend, e]; decide)
      rw [if_pos ⟨hb, h3⟩, if_pos ⟨hb, .inl h3⟩, hstay, hend]
    · rw [if_neg fun e => h3 e.2, State.settleTimeout_eq hq hc]
      simp only [hb, h3, hset, true_and, false_or]
      split
      · exact hend
      · rfl
  · rw [if_neg fun e => hb e.1, State.settleTimeout_eq hq hc, if_neg fun e => hb e.1, if_neg fun e => hb e.1]

/-- A step reads all of the profile but the phase. -/
theorem Motor.profileStep_eq (hk : c.kind ≠ .duty) (m : Motor) (q : Profile) (ph : Phase) :
    ({ m with profile := { q with phase := ph } } : Motor).profileStep c = { m with profile := q.step c } := by
  unfold Motor.profileStep Profile.step
  cases h : c.kind with
  | duty => exact absurd h hk
  | time =>
    refine congrArg (fun x => ({ m with profile := x } : Motor)) ?_
    show (if q.rampDown = true then q.rampDownAdvance else q.speedAdvance) = _
    simp only [reduceCtorEq, or_self, if_false, true_and]
  | speed => rfl
  | degrees => rfl
  | position => rfl

theorem Motor.elapse_active (m : Motor) (c : Command) : (m.elapse c).active = m.active := by
  unfold Motor.elapse
  split <;> rfl

/-- The period that a TIME command counts, with the turn to its ramp-down, on the channel that runs its profile (R70). -/
theorem State.Queue.timed {ps : List Port} {qp : Port} (h : s.Queue ps qp) (hc : (s.motor qp).active = some c) :
    ∃ ph, (s.setMotor (s.profilePort qp c) ((s.motor (s.profilePort qp c)).elapse c)).timeRunEnd qp =
      s.setMotor (s.profilePort qp c) { s.motor (s.profilePort qp c) with
        profile := { (s.motor (s.profilePort qp c)).profile.timed c with phase := ph } } := by
  have hx := h.profilePort hc
  generalize hp : s.profilePort qp c = x at hx ⊢
  have hy : s.Yields (s.setMotor x ((s.motor x).elapse c)) :=
    (State.Acts.setMotor hx (Motor.Keeps.elapse (s.motor x) c)).yields
  have hc' : ((s.setMotor x ((s.motor x).elapse c)).motor qp).active = some c := by
    rw [State.setMotor_motor]
    split
    · rename_i e
      rw [Motor.elapse_active, ← e, hc]
    · exact hc
  have hp' : (s.setMotor x ((s.motor x).elapse c)).profilePort qp c = x := hp
  rw [State.timeRunEnd_eq (hy.queue h).queuePort hc', hp', State.setMotor_motor_self, State.setMotor_setMotor]
  unfold Profile.timed Motor.elapse
  by_cases hk : c.kind = .time
  · simp only [hk, if_true, true_and]
    by_cases hr : (c.amount.toNat + 4) / 5 < (s.motor x).profile.elapsed + 1 ∧ (s.motor x).profile.rampDown = false
    · refine ⟨.decel, (if_pos hr).trans ?_⟩
      simp only [Motor.runDown, hr.1, decide_true, Bool.or_true]
    · refine ⟨(s.motor x).profile.phase, (if_neg hr).trans ?_⟩
      have he : ((s.motor x).profile.rampDown ||
          decide ((c.amount.toNat + 4) / 5 < (s.motor x).profile.elapsed + 1)) = (s.motor x).profile.rampDown := by
        cases hb : (s.motor x).profile.rampDown with
        | true => rfl
        | false => simpa [hb] using hr
      rw [he]
  · simp only [hk, if_false, false_and]
    exact ⟨_, rfl⟩

theorem State.Unpaired.serves (h : s.Unpaired p) (hs : (s.motor p).state = .running) (hc : (s.motor p).active = some c) :
    (s.singleReference p).motor p = (s.motor p).serves (s.motorPart p) c := by
  rw [State.singleReference_runs hs hc]
  unfold Motor.serves
  by_cases hk : c.kind = .duty
  · rw [if_pos hk, if_pos hk, State.setMotor_motor_self]
  rw [if_neg hk, if_neg hk]
  by_cases hset : (s.motor p).profile.settling = true
  · have hm := State.setMotor_motor_self s p ((s.motor p).settleTest false)
    have hd := (h.setMotor (Motor.Keeps.settleTest (s.motor p) false).toYields).settles (by rw [hm]; exact hc)
      (by rw [hm]; exact hset)
    rw [if_pos hset, if_pos hset, hd, hm]
    rfl
  · rw [if_neg hset, if_neg hset]
    obtain ⟨ph, ht⟩ := (State.Queue.alone h).timed hc
    rw [State.profilePort_single s p (h.2.1 c hc)] at ht
    simp only [ht, State.setMotor_motor_self, State.setMotor_setMotor, Motor.profileStep_eq hk]
    have hu : (s.setMotor p { s.motor p with profile := ((s.motor p).profile.timed c).step c }).Unpaired p :=
      h.setMotor (Motor.Keeps.withProfile _ _).toYields
    have hm := State.setMotor_motor_self s p { s.motor p with profile := ((s.motor p).profile.timed c).step c }
    unfold State.timeDone
    rw [State.profilePort_single _ p (h.2.1 c hc), hm]
    simp only [Bool.and_eq_true, decide_eq_true_eq, and_assoc]
    split
    · rename_i ht
      rw [hu.finish_motor (by rw [hm]; exact hc), hm, Motor.restsAt, if_neg (by simp [ht.1])]
      rfl
    · exact hm

/-- Stage 2 of one channel. -/
theorem State.Group.reference (h : s.Group [p]) :
    (s.singleReference p).motor p = (s.motor p).reference (s.motorPart p) := by
  unfold Motor.reference
  cases hs : (s.motor p).state with
  | running =>
    cases hc : (s.motor p).active with
    | none => rw [State.singleReference_idle hs hc]
    | some c =>
      rcases h.single with hu | ⟨hn, -⟩
      · exact hu.serves hs hc
      · rw [hn] at hc
        cases hc
  | free | braked | holding =>
    rw [State.singleReference_still (by rw [hs]; decide), State.setMotor_motor_self]

/-! ### Stages 3 and 4 -/

theorem State.controlAndStall_one (s : State) (p : Port) : s.controlAndStall [p] p =
    if (s.setMotor p (s.motor p).control.stallTest).stallDue p = true then
      ((s.setMotor p (s.motor p).control.stallTest).recogniseStall p).setMotor p
        (((s.setMotor p (s.motor p).control.stallTest).recogniseStall p).motor p).control
    else s.setMotor p (s.motor p).control.stallTest := rfl

theorem State.stallDue_iff {qp : Port} (hq : s.queuePort p = qp) (hc : (s.motor qp).active = some c) :
    s.stallDue p = true ↔ s.Stalled qp c := by
  simp only [State.stallDue, hq, hc, Bool.and_eq_true, decide_eq_true_eq, List.any_eq_true, State.Stalled]

theorem Motor.loop_idle (h : m.control.stallTest.active = none) : m.loop part = m.control.stallTest := by
  simp only [Motor.loop, h]

theorem Motor.loop_runs (h : m.control.stallTest.active = some c) : m.loop part =
    if c.kind ≠ .duty ∧ 100 ≤ m.control.stallTest.stallTimer then
      (match c.stall with
        | .fail => m.control.stallTest.ended .coast 0
        | .finish => m.control.stallTest.next part c m.control.stallTest.position .afterStall).control
    else m.control.stallTest := by
  simp only [Motor.loop, h]

theorem State.Unpaired.loop (h : s.Unpaired p) :
    (s.controlAndStall [p] p).motor p = (s.motor p).loop (s.motorPart p) := by
  have hk := (Motor.Keeps.control (s.motor p)).trans (.stallTest _)
  have hu := h.setMotor hk.toYields
  have hm := State.setMotor_motor_self s p (s.motor p).control.stallTest
  have hq := State.queuePort_unpaired hu.1
  rw [State.controlAndStall_one]
  cases hc : (s.motor p).control.stallTest.active with
  | none =>
    rw [State.stallDue_idle (by rw [hq, hm, hc]), Motor.loop_idle hc]
    exact hm
  | some c =>
    have hc' := hm ▸ hc
    have hst := hu.stalled_iff hc'
    rw [hm] at hst
    rw [Motor.loop_runs hc]
    simp only [State.stallDue_iff hq hc', hst]
    split
    · rename_i hs
      rw [State.setMotor_motor_self]
      refine congrArg Motor.control ?_
      cases hp : c.stall with
      | fail =>
        rw [State.recogniseStall_fail hq hc' (hst.mpr hs) hp, State.portsOf_single _ p (hu.2.1 c hc'), hu.endEnter,
          State.setMotor_motor_self, hm]
        rfl
      | finish =>
        rw [State.recogniseStall_finish hq hc' (hst.mpr hs) hp, hu.finish_motor hc', Motor.restsAt_stallEnd, hm]
        rfl
    · exact hm

/-- Stages 3 and 4 of one channel. -/
theorem State.Group.loop (h : s.Group [p]) : (s.controlAndStall [p] p).motor p = (s.motor p).loop (s.motorPart p) := by
  rcases h.single with hu | ⟨hn, hq⟩
  · exact hu.loop
  · have hk := (Motor.Keeps.control (s.motor p)).trans (.stallTest _)
    have hs : s.Acts [p] (s.setMotor p (s.motor p).control.stallTest) := .setMotor List.mem_cons_self hk
    have hd : ((s.setMotor p (s.motor p).control.stallTest).motor
        ((s.setMotor p (s.motor p).control.stallTest).queuePort p)).active = none := by
      rcases (hs.yields.group h).single with hu | ⟨-, e⟩
      · rw [State.queuePort_unpaired hu.1, State.setMotor_motor_self]
        exact hk.idle hn
      · exact e
    rw [State.controlAndStall_one, State.stallDue_idle hd, Motor.loop_idle (hk.idle hn)]
    exact State.setMotor_motor_self _ _ _

/-- The stages of one channel. -/
theorem State.Group.stages_one (h : s.Group [p]) : (s.periodStages [p]).motor p =
    s.drive (((s.motor p).takePosition.reference (s.motorPart p)).loop (s.motorPart p)) := by
  have hy := s.measure_yields (ps := [p]) (List.nodup_singleton p)
  have hm := hy.group h
  have hr := hm.singleReference
  have hp := s.measure_motor (ps := [p]) (List.nodup_singleton p) p
  rw [if_pos List.mem_cons_self] at hp
  have hpart : (s.measure [p]).motorPart p = s.motorPart p := by
    rw [State.measure_motion]
    rfl
  have he : s.periodStages [p] = (((s.measure [p]).singleReference p).controlAndStall [p] p).output p := rfl
  have ha := hr.trans (hr.yields.group hm).controlAndStall
  rw [List.headD_cons] at ha
  have hsup : (((s.measure [p]).singleReference p).controlAndStall [p] p).supply = s.supply := by
    rw [ha.motion]
    exact s.measure_supply [p]
  rw [he, State.output, State.setMotor_motor_self]
  refine (State.drive_congr hsup _).trans (congrArg s.drive ?_)
  rw [(hr.yields.group hm).loop, hm.reference, hr.motorPart, hp, hpart]

end Alone
end Sys2Proof.Machine

/-! SUPPORT. The stages of a pair that runs a command, as one function of its two channels (R65, R71, R75 to R78). -/

namespace Sys2Proof.Machine

section Paired
variable {s t u : State} {k : Nat} {q : Pair} {c : Command} {part : MotorPart} {x y : Motor}

/-! ### Stage 2 on the lead and the follower -/

theorem Motor.settleTest_stays (m : Motor) : m.settleTest true = m.settles := by
  simp [Motor.settleTest, Motor.settles]

theorem Motor.Keeps.settles (m : Motor) : m.Keeps m.settles := .same rfl rfl

theorem Command.pairStage_settling (h : x.profile.settling = true) (c : Command) (q : Pair) (y : Motor) :
    c.pairStage q x y = (x.settles, y.settles, decide ((c.kind = .degrees ∨ c.kind = .position) ∧
      ((3 ≤ x.settles.profile.inTol ∧ 3 ≤ y.settles.profile.inTol) ∨ 80 ≤ x.settles.profile.settleTimer))) :=
  if_pos h

/-- The lag hold test of R77. -/
def Command.lags (c : Command) (q : Pair) (x y : Motor) : Prop :=
  (q.lagLimit < (x.profile.pRef.tdiv 1000 - x.position).natAbs ∨
    q.lagLimit < (y.profile.pRef.tdiv 1000 - y.position).natAbs) ∧
  ((c.kind = .degrees ∨ c.kind = .position) ∨ x.profile.v ≠ 0)

theorem Command.pairStage_held (h : ¬ x.profile.settling = true) (hl : c.lags q x y) :
    c.pairStage q x y = ({ x with profile := x.profile.timed c }, y, false) :=
  (if_neg h).trans (if_pos hl)

/-- The follower's reference, scaled from the lead's (R76, R78). -/
theorem Motor.follow_eq (hc : c.pair = some k) (m lead : Motor) :
    let sl := if c.speedB.natAbs ≤ c.speed.natAbs then c.speed else c.speedB
    let sf := if c.speedB.natAbs ≤ c.speed.natAbs then c.speedB else c.speed
    let reference := max (-2000000000000) (min 2000000000000 (m.profile.start +
      (if sl = 0 then 0 else ((lead.profile.pRef - lead.profile.start) * sf).tdiv sl)))
    m.follow c lead = { m with profile := if lead.profile.settling = true then { m.profile with
        pRef := reference.tdiv 1000 * 1000, target := reference.tdiv 1000, v := 0, phase := .settle, settling := true
        inTol := 0, settleTimer := 0 }
      else { m.profile with
        pRef := reference, v := if sl = 0 then 0 else (lead.profile.v * sf).tdiv sl, phase := lead.profile.phase } } := by
  intro sl sf reference
  have hs : leadSpeed c = sl := by simp [leadSpeed, hc, sl]
  have hf : followSpeed c = sf := by simp [followSpeed, sf]
  have hr : clamp (-maxMilli) maxMilli (if sl = 0 then m.profile.start
      else m.profile.start + towardZero ((lead.profile.pRef - lead.profile.start) * sf) sl) = reference := by
    simp only [reference]
    by_cases h0 : sl = 0
    · rw [if_pos h0, if_pos h0, Int.add_zero]
      rfl
    · rw [if_neg h0, if_neg h0]
      rfl
  unfold Motor.follow
  dsimp only
  rw [hs, hf, hr]
  by_cases hset : lead.profile.settling = true
  · rw [if_pos hset, if_pos hset]
    rfl
  · rw [if_neg hset, if_neg hset]
    rfl

theorem Command.pairStage_moves (h : ¬ x.profile.settling = true) (hl : ¬ c.lags q x y) (hc : c.pair = some k) :
    let lead : Motor := { x with profile := (x.profile.timed c).step c }
    c.pairStage q x y = (lead, y.follow c lead,
      decide (c.kind = .time ∧ lead.profile.rampDown = true ∧ lead.profile.v = 0)) := by
  intro lead
  refine ((if_neg h).trans (if_neg hl)).trans ?_
  exact congrArg (fun z => (lead, z, decide (c.kind = .time ∧ lead.profile.rampDown = true ∧ lead.profile.v = 0)))
    (Motor.follow_eq hc y lead).symm

/-! ### The end of the pair's command (R49, R51, R57) -/

theorem Command.pairNext_goesOn {next : Command} {rest : List Command} (hw : x.waiting = next :: rest) (c : Command)
    (part : MotorPart) (f : StartFrom) (y : Motor) (one two : Int) : c.pairNext part f x y one two =
      ({ (next.pairStart part f x y).1 with waiting := rest }, (next.pairStart part f x y).2) := by
  rw [← Command.pairStart_waiting]
  simp only [Command.pairNext, hw]
  rfl

/-- The channels of a pair once its command has ended. -/
theorem State.Bound.finish_motors (h : s.Bound k q) (hc : (s.motor q.first).active = some c)
    (hp : s.motorPart q.first = some part) (o : EndOutcome) (f : StartFrom) :
    ((s.finish q.first o f).motor q.first, (s.finish q.first o f).motor q.second) =
      c.pairNext part f (s.motor q.first) (s.motor q.second) ((s.motor q.first).restsAt c o)
        ((s.motor q.second).restsAt c o) := by
  cases hw : (s.motor q.first).waiting with
  | nil =>
    rw [h.finish_stops hc hw]
    simp only [State.setMotor_motor, if_pos, if_neg h.ports, Command.pairNext, hw]
  | cons next rest =>
    rw [h.finish_goesOn hc hw hp, Command.pairNext_goesOn hw]
    simp only [State.setMotor_motor, if_pos, if_neg h.ports]

/-- What the end of a pair's command leaves has neither a settle nor a stall to time out. -/
theorem Command.pairNext_calm (c : Command) (part : MotorPart) (f : StartFrom) (x y : Motor) (one two : Int) :
    ((c.pairNext part f x y one two).1.active = none ∨ (c.pairNext part f x y one two).1.profile.settleTimer = 0) ∧
    (c.pairNext part f x y one two).1.stallTimer = 0 ∧ (c.pairNext part f x y one two).2.stallTimer = 0 := by
  have hended : ∀ (m : Motor) e z, (m.ended e z).stallTimer = 0 := fun m e z => by cases e <;> rfl
  unfold Command.pairNext
  cases x.waiting with
  | nil => exact ⟨.inl (x.ended_idle _ _).active, hended _ _ _, hended _ _ _⟩
  | cons next rest =>
    have hlead : ∀ m : Motor, (m.startEncoder part next f).profile.settleTimer = 0 := fun m =>
      (startProfile_fields part next m.position (startRefs m f (vMaxOf part))).2.2.2.2.2.2.2.2.1
    by_cases hl : next.speedB.natAbs ≤ next.speed.natAbs
    · simp only [hl, if_true]
      exact ⟨.inr (hlead _), rfl, rfl⟩
    · simp only [hl, if_false]
      exact ⟨.inr (hlead y), rfl, rfl⟩

theorem State.Bound.settleTimeout_undue (h : s.Bound k q)
    (hn : (s.motor q.first).active = none ∨ (s.motor q.first).profile.settleTimer = 0) : s.settleTimeout q.first = s := by
  have hq : s.queuePort q.first = q.first := (State.Queue.pair h).queuePort
  rcases hn with e | e
  · exact (State.ownEnds_idle (by rw [hq, e])).2.2.1
  · exact State.settleTimeout_undue hq (by rw [e]; decide)

/-- The settle test of a pair with what it ends (R71, R78). -/
theorem State.Bound.settles (h : s.Bound k q) (hc : (s.motor q.first).active = some c)
    (hp : s.motorPart q.first = some part)
    (hset : (s.motor q.first).profile.settling = true ∧ (s.motor q.second).profile.settling = true) :
    (s.settleDone q.first).settleTimeout q.first =
      if (c.kind = .degrees ∨ c.kind = .position) ∧
        ((3 ≤ (s.motor q.first).profile.inTol ∧ 3 ≤ (s.motor q.second).profile.inTol) ∨
          80 ≤ (s.motor q.first).profile.settleTimer)
      then s.finish q.first .done .afterDone else s := by
  have hqueue := State.Queue.pair h
  have hstay : (s.finish q.first .done .afterDone).settleTimeout q.first = s.finish q.first .done .afterDone := by
    refine ((hqueue.finish .done .afterDone).yields.bound h).settleTimeout_undue ?_
    have hm := congrArg Prod.fst (h.finish_motors hc hp .done .afterDone)
    dsimp only at hm
    rw [hm]
    exact (c.pairNext_calm ..).1
  have hall : (∀ x ∈ [q.first, q.second], (s.motor x).profile.settling = true ∧ 3 ≤ (s.motor x).profile.inTol) ↔
      3 ≤ (s.motor q.first).profile.inTol ∧ 3 ≤ (s.motor q.second).profile.inTol := by
    simp [hset]
  rw [State.settleDone_eq hqueue.queuePort hc, hqueue.portsOf hc]
  simp only [hall]
  by_cases h3 : (c.kind = .degrees ∨ c.kind = .position) ∧
      3 ≤ (s.motor q.first).profile.inTol ∧ 3 ≤ (s.motor q.second).profile.inTol
  · rw [if_pos h3, if_pos ⟨h3.1, .inl h3.2⟩, hstay]
  · rw [if_neg h3, State.settleTimeout_eq hqueue.queuePort hc]
    refine if_congr ⟨fun e => ⟨e.1, .inr e.2.2⟩, fun e => ⟨e.1, hset.1, ?_⟩⟩ rfl rfl
    exact e.2.resolve_left fun e3 => h3 ⟨e.1, e3⟩

/-! ### Stage 2 of the pair -/

/-- Which port leads and which follows (R76). -/
theorem leadPort_cases (c : Command) (q : Pair) :
    (c.speedB.natAbs ≤ c.speed.natAbs ∧ leadPort c q = q.first ∧ followPort c q = q.second) ∨
    (¬ c.speedB.natAbs ≤ c.speed.natAbs ∧ leadPort c q = q.second ∧ followPort c q = q.first) := by
  by_cases h : c.speedB.natAbs ≤ c.speed.natAbs
  · exact .inl ⟨h, by simp [leadPort, h], by simp [followPort, h]⟩
  · exact .inr ⟨h, by simp [leadPort, h], by simp [followPort, h]⟩

theorem State.Bound.lead_ne_follow (h : s.Bound k q) (c : Command) : followPort c q ≠ leadPort c q := by
  rcases leadPort_cases c q with ⟨-, hl, hf⟩ | ⟨-, hl, hf⟩ <;> rw [hl, hf]
  · exact Ne.symm h.ports
  · exact h.ports

/-- The two channels of a pair changed, by the ports that lead and follow. -/
def State.setPairMotors (s : State) (c : Command) (q : Pair) (x y : Motor) : State :=
  (s.setMotor (leadPort c q) x).setMotor (followPort c q) y

theorem State.Bound.setPairMotors_motor (h : s.Bound k q) (c : Command) (x y : Motor) :
    (s.setPairMotors c q x y).motor q.first = (if c.speedB.natAbs ≤ c.speed.natAbs then x else y) ∧
    (s.setPairMotors c q x y).motor q.second = (if c.speedB.natAbs ≤ c.speed.natAbs then y else x) := by
  unfold State.setPairMotors
  rcases leadPort_cases c q with ⟨hs, hl, hf⟩ | ⟨hs, hl, hf⟩ <;> rw [hl, hf] <;>
    simp [State.setMotor_motor, hs, h.ports, Ne.symm h.ports]

theorem State.Bound.setPairMotors (h : s.Bound k q) {c : Command} {x y : Motor} (hx : (s.motor (leadPort c q)).Keeps x)
    (hy : (s.motor (followPort c q)).Keeps y) : s.Acts [q.first, q.second] (s.setPairMotors c q x y) :=
  (State.Acts.setMotor (leadPort_mem c q) hx).trans (.setMotor (followPort_mem c q) (by
    rwa [State.setMotor_motor, if_neg (h.lead_ne_follow c)]))

/-- The period of the lead's TIME command leaves reference and speed (R70). -/
theorem Profile.timed_fields (q : Profile) (c : Command) : (q.timed c).pRef = q.pRef ∧ (q.timed c).v = q.v := by
  unfold Profile.timed
  split <;> exact ⟨rfl, rfl⟩

theorem Profile.timed_phase (q : Profile) (c : Command) : { q.timed c with phase := q.phase } = q.timed c := by
  unfold Profile.timed
  split <;> rfl

theorem State.setMotor_stands {p : Port} {m : Motor} (h : s.motor p = m) : s.setMotor p m = s := by
  rw [← h, State.setMotor_same]

theorem lagHeld_iff (c : Command) (q : Pair) (x y : Motor) (ph : Phase) :
    lagHeld c q { x with profile := { x.profile.timed c with phase := ph } } y = true ↔ c.lags q x y := by
  obtain ⟨hp, hv⟩ := x.profile.timed_fields c
  unfold lagHeld Command.lags
  simp only [Bool.and_eq_true, Bool.or_eq_true, decide_eq_true_eq, MoveKind.bounded_iff, hv]
  unfold Motor.error towardZero
  rw [hp]

/-- Stage 2 of a pair in SETTLE (R71, R78). -/
theorem State.Bound.pairReference_settling (h : s.Bound k q) (hc : (s.motor q.first).active = some c)
    (hp : s.motorPart q.first = some part) (hx : (s.motor (leadPort c q)).profile.settling = true)
    (hset : (s.motor q.first).profile.settling = (s.motor q.second).profile.settling ∧
      (s.motor q.first).profile.settleTimer = (s.motor q.second).profile.settleTimer) :
    let z := c.pairStage q (s.motor (leadPort c q)) (s.motor (followPort c q))
    let u := s.setPairMotors c q z.1 z.2.1
    s.pairReference q c = if z.2.2 = true then u.finish q.first .done .afterDone else u := by
  intro z u
  have hz : z = _ := c.pairStage_settling hx q _
  have ha : s.Acts [q.first, q.second] u := by
    simp only [u, hz]
    exact h.setPairMotors (.settles _) (.settles _)
  have hb := ha.yields.bound h
  have hu : s.pairReference q c = (u.settleDone q.first).settleTimeout q.first := by
    unfold State.pairReference
    rw [if_pos hx]
    simp only [Motor.settleTest_stays, State.setMotor_motor, if_neg (h.lead_ne_follow c)]
    simp only [u, hz, State.setPairMotors]
  have hm : u.motor q.first = (s.motor q.first).settles ∧ u.motor q.second = (s.motor q.second).settles := by
    obtain ⟨hm1, hm2⟩ := h.setPairMotors_motor c z.1 z.2.1
    rw [hm1, hm2, hz]
    rcases leadPort_cases c q with ⟨hs, hl, hf⟩ | ⟨hs, hl, hf⟩ <;> simp only [hs, if_true, if_false, hl, hf, and_self]
  obtain ⟨hset1, hset2⟩ := hset
  have hboth : (s.motor q.first).profile.settling = true ∧ (s.motor q.second).profile.settling = true := by
    rcases leadPort_cases c q with ⟨-, hl, -⟩ | ⟨-, hl, -⟩ <;> rw [hl] at hx
    · exact ⟨hx, hset1 ▸ hx⟩
    · exact ⟨hset1 ▸ hx, hx⟩
  have htimer : (s.motor q.first).settles.profile.settleTimer = (s.motor q.second).settles.profile.settleTimer :=
    congrArg (· + 1) hset2
  rw [hu, hb.settles (c := c) (by rw [hm.1]; exact hc) ((ha.motorPart _).trans hp) (by rw [hm.1, hm.2]; exact hboth),
    hm.1, hm.2]
  refine if_congr ?_ rfl rfl
  rw [hz, decide_eq_true_eq]
  rcases leadPort_cases c q with ⟨-, hl, hf⟩ | ⟨-, hl, hf⟩ <;> rw [hl, hf]
  rw [htimer, and_comm (a := 3 ≤ (s.motor q.first).settles.profile.inTol)]

/-- Stage 2 of a pair before SETTLE (R76, R77). -/
theorem State.Bound.pairReference_moving (h : s.Bound k q) (hc : (s.motor q.first).active = some c) (hk : c.kind ≠ .duty)
    (hx : ¬ (s.motor (leadPort c q)).profile.settling = true) :
    let z := c.pairStage q (s.motor (leadPort c q)) (s.motor (followPort c q))
    let u := s.setPairMotors c q z.1 z.2.1
    s.pairReference q c = if z.2.2 = true then u.finish q.first .done .afterDone else u := by
  intro z u
  have hpair : c.pair = some k := h.commands c (by simp [hc])
  obtain ⟨ph, ht⟩ := (State.Queue.pair h).timed hc
  rw [State.profilePort_double _ hpair h.entry] at ht
  unfold State.pairReference
  rw [if_neg hx]
  dsimp only
  rw [ht, State.setMotor_motor_self, State.setMotor_motor, if_neg (h.lead_ne_follow c)]
  by_cases hl : c.lags q (s.motor (leadPort c q)) (s.motor (followPort c q))
  · have hz : z = _ := Command.pairStage_held hx hl
    rw [if_pos ((lagHeld_iff c q _ _ ph).mpr hl)]
    have hu : u = s.setMotor (leadPort c q) { s.motor (leadPort c q) with
        profile := (s.motor (leadPort c q)).profile.timed c } := by
      simp only [u, hz, State.setPairMotors]
      exact State.setMotor_stands ((State.setMotor_motor ..).trans (if_neg (h.lead_ne_follow c)))
    rw [State.setMotor_setMotor, hu, hz]
    exact congrArg (fun p => s.setMotor (leadPort c q) { s.motor (leadPort c q) with profile := p })
      ((s.motor (leadPort c q)).profile.timed_phase c)
  · have hz : z = _ := Command.pairStage_moves hx hl hpair
    have hu : u.motor (leadPort c q) = z.1 := by
      simp only [u, State.setPairMotors]
      rw [State.setMotor_motor, if_neg (Ne.symm (h.lead_ne_follow c)), State.setMotor_motor_self]
    rw [if_neg fun e => hl ((lagHeld_iff c q _ _ ph).mp e), State.setMotor_setMotor, Motor.profileStep_eq hk,
      State.setMotor_motor_self, State.setMotor_motor, if_neg (h.lead_ne_follow c)]
    have hmodel : (s.setMotor (leadPort c q) { s.motor (leadPort c q) with
        profile := ((s.motor (leadPort c q)).profile.timed c).step c }).setMotor (followPort c q)
          ((s.motor (followPort c q)).follow c { s.motor (leadPort c q) with
            profile := ((s.motor (leadPort c q)).profile.timed c).step c }) = u := by
      simp only [u, hz, State.setPairMotors]
    rw [hmodel]
    unfold State.timeDone
    rw [State.profilePort_double (s := u) (k := k) (q := q) _ hpair h.entry, hu]
    refine if_congr ?_ rfl rfl
    rw [hz]
    simp only [Bool.and_eq_true, decide_eq_true_eq, and_assoc]

/-! ### The stages of the pair together -/

/-- Stage 2 of a pair on the channels of its first and second port, and whether the command has ended in it (R65, R71,
R76 to R78). -/
def Command.pairServes (c : Command) (q : Pair) (part : MotorPart) (m n : Motor) : (Motor × Motor) × Bool :=
  let leads := c.speedB.natAbs ≤ c.speed.natAbs
  let z := c.pairStage q (if leads then m else n) (if leads then n else m)
  let one := if leads then z.1 else z.2.1
  let two := if leads then z.2.1 else z.1
  (if z.2.2 = true then c.pairNext part .afterDone one two (one.restsAt c .done) (two.restsAt c .done) else (one, two), z.2.2)

/-- Stages 3 and 4 of a pair whose command stands (R65, R72, R75). -/
def Command.pairLoop (c : Command) (part : MotorPart) (m n : Motor) : Motor × Motor :=
  let x := m.control.stallTest
  let y := n.control.stallTest
  if 100 ≤ x.stallTimer ∨ 100 ≤ y.stallTimer then
    (match c.stall with
      | .fail => ((x.ended .coast 0).control, (y.ended .coast 0).control)
      | .finish =>
        let w := c.pairNext part .afterStall x y x.position y.position
        (w.1.control, w.2.control))
  else (x, y)

theorem Command.pairStage_keeps (c : Command) (q : Pair) (hc : c.pair = some k) (x y : Motor) :
    (x.Keeps (c.pairStage q x y).1 ∧ y.Keeps (c.pairStage q x y).2.1) ∧
    (c.pairStage q x y).1.active = x.active ∧ (c.pairStage q x y).2.1.active = y.active := by
  by_cases h : x.profile.settling = true
  · rw [c.pairStage_settling h]
    exact ⟨⟨.settles x, .settles y⟩, rfl, rfl⟩
  · by_cases hl : c.lags q x y
    · rw [Command.pairStage_held h hl]
      exact ⟨⟨.withProfile x _, .refl y⟩, rfl, rfl⟩
    · rw [Command.pairStage_moves h hl hc]
      refine ⟨⟨.withProfile x _, .follow y c _⟩, rfl, ?_⟩
      rw [Motor.follow_eq hc]

/-- Stage 2 leaves the pair's channels as `pairServes` says, and the command of one that has not ended. -/
theorem State.Bound.serves (h : s.Bound k q) (hc : (s.motor q.first).active = some c) (hk : c.kind ≠ .duty)
    (hp : s.motorPart q.first = some part)
    (hset : (s.motor q.first).profile.settling = (s.motor q.second).profile.settling ∧
      (s.motor q.first).profile.settleTimer = (s.motor q.second).profile.settleTimer) :
    let z := c.pairServes q part (s.motor q.first) (s.motor q.second)
    ((s.pairReference q c).motor q.first, (s.pairReference q c).motor q.second) = z.1 ∧
    (z.2 = false → z.1.1.active = some c) := by
  have hpair : c.pair = some k := h.commands c (by simp [hc])
  have he : let z := c.pairStage q (s.motor (leadPort c q)) (s.motor (followPort c q))
      let u := s.setPairMotors c q z.1 z.2.1
      s.pairReference q c = if z.2.2 = true then u.finish q.first .done .afterDone else u := by
    by_cases hx : (s.motor (leadPort c q)).profile.settling = true
    · exact h.pairReference_settling hc hp hx hset
    · exact h.pairReference_moving hc hk hx
  have hlead : (if c.speedB.natAbs ≤ c.speed.natAbs then s.motor q.first else s.motor q.second) = s.motor (leadPort c q) ∧
      (if c.speedB.natAbs ≤ c.speed.natAbs then s.motor q.second else s.motor q.first) = s.motor (followPort c q) := by
    rcases leadPort_cases c q with ⟨hs, hl, hf⟩ | ⟨hs, hl, hf⟩ <;> simp only [hs, if_true, if_false, hl, hf, and_self]
  unfold Command.pairServes
  dsimp only
  rw [hlead.1, hlead.2]
  obtain ⟨⟨hx, hy⟩, hax, hay⟩ :=
    c.pairStage_keeps q hpair (s.motor (leadPort c q)) (s.motor (followPort c q))
  generalize c.pairStage q (s.motor (leadPort c q)) (s.motor (followPort c q)) = z at he hx hy hax hay ⊢
  have ha := h.setPairMotors (c := c) hx hy
  have hb := ha.yields.bound h
  obtain ⟨h1, h2⟩ := h.setPairMotors_motor c z.1 z.2.1
  have hactive : (if c.speedB.natAbs ≤ c.speed.natAbs then z.1 else z.2.1).active = some c := by
    rcases leadPort_cases c q with ⟨hs, hl, hf⟩ | ⟨hs, hl, hf⟩
    · rw [if_pos hs, hax, hl, hc]
    · rw [if_neg hs, hay, hf, hc]
  dsimp only at he
  rw [he]
  by_cases hz : z.2.2 = true
  · rw [if_pos hz, if_pos hz, hb.finish_motors (by rw [h1]; exact hactive) ((ha.motorPart _).trans hp), h1, h2]
    exact ⟨rfl, fun e => by rw [hz] at e; cases e⟩
  · rw [if_neg hz, if_neg hz, h1, h2]
    exact ⟨rfl, fun _ => hactive⟩

/-- Stages 3 and 4 of a pair, before its stalls are looked at. -/
def State.looped (s : State) (q : Pair) : State :=
  (s.setMotor q.first (s.motor q.first).control.stallTest).setMotor q.second (s.motor q.second).control.stallTest

theorem State.Bound.looped (h : s.Bound k q) : s.Acts [q.first, q.second] (s.looped q) ∧
    (s.looped q).motor q.first = (s.motor q.first).control.stallTest ∧
    (s.looped q).motor q.second = (s.motor q.second).control.stallTest := by
  have hk := fun m : Motor => (Motor.Keeps.control m).trans (.stallTest _)
  refine ⟨(State.Acts.setMotor List.mem_cons_self (hk _)).trans
    (.setMotor (List.mem_cons_of_mem _ List.mem_cons_self) ?_), ?_, ?_⟩
  · rw [State.setMotor_motor, if_neg (Ne.symm h.ports)]
    exact hk _
  · rw [State.looped, State.setMotor_motor, if_neg h.ports, State.setMotor_motor_self]
  · exact State.setMotor_motor_self _ _ _

theorem State.Bound.controlAndStall_eq (h : s.Bound k q) : s.controlAndStall [q.first, q.second] q.first =
    if (s.looped q).stallDue q.first = true then
      [q.first, q.second].foldl (fun t x => t.setMotor x (t.motor x).control) ((s.looped q).recogniseStall q.first)
    else s.looped q := by
  unfold State.controlAndStall
  simp only [List.foldl_cons, List.foldl_nil, State.setMotor_motor, if_neg (Ne.symm h.ports), State.looped]

/-- A pair whose stall timers are short of 100 periods. -/
theorem State.Bound.loop_calm (h : s.Bound k q) (hx : (s.motor q.first).control.stallTest.stallTimer < 100)
    (hy : (s.motor q.second).control.stallTest.stallTimer < 100) :
    s.controlAndStall [q.first, q.second] q.first = s.looped q := by
  obtain ⟨ha, h1, h2⟩ := h.looped
  have hb := ha.yields.bound h
  have hq := (State.Queue.pair hb).queuePort
  rw [h.controlAndStall_eq, if_neg]
  cases hc : ((s.looped q).motor q.first).active with
  | none => rw [State.stallDue_idle (by rw [hq, hc])]; decide
  | some c =>
    rw [State.stallDue_iff hq hc, hb.stalled_iff hc, h1, h2]
    omega

/-- A pair whose command stands. -/
theorem State.Bound.loop (h : s.Bound k q) (hc : (s.motor q.first).active = some c) (hk : c.kind ≠ .duty)
    (hp : s.motorPart q.first = some part) :
    ((s.controlAndStall [q.first, q.second] q.first).motor q.first,
      (s.controlAndStall [q.first, q.second] q.first).motor q.second) =
      c.pairLoop part (s.motor q.first) (s.motor q.second) := by
  obtain ⟨ha, h1, h2⟩ := h.looped
  have hb := ha.yields.bound h
  have hq := (State.Queue.pair hb).queuePort
  have hstands : ∀ m : Motor, m.control.stallTest.active = m.active := fun m =>
    congrArg (fun x => x.2.1) ((m.control.stallTest_claim).trans m.control_claim)
  have hc' : ((s.looped q).motor q.first).active = some c := by
    rw [h1, hstands, hc]
  have hst := hb.stalled_iff hc'
  rw [h1, h2] at hst
  have hctl : ∀ u : State, ([q.first, q.second].foldl (fun t x => t.setMotor x (t.motor x).control) u).motor q.first =
      (u.motor q.first).control ∧
      ([q.first, q.second].foldl (fun t x => t.setMotor x (t.motor x).control) u).motor q.second =
      (u.motor q.second).control := fun u => by
    have hn := (State.Group.queue (State.Queue.pair h)).nodup
    rw [State.foldl_setMotor_motor u hn, State.foldl_setMotor_motor u hn]
    simp
  unfold Command.pairLoop
  dsimp only
  rw [h.controlAndStall_eq]
  by_cases hd : 100 ≤ (s.motor q.first).control.stallTest.stallTimer ∨ 100 ≤ (s.motor q.second).control.stallTest.stallTimer
  · rw [if_pos ((State.stallDue_iff hq hc').mpr (hst.mpr ⟨hk, hd⟩)), if_pos hd, (hctl _).1, (hctl _).2]
    cases hf : c.stall with
    | fail =>
      rw [State.recogniseStall_fail hq hc' (hst.mpr ⟨hk, hd⟩) hf, (State.Queue.pair hb).portsOf hc', hb.endEnter,
        State.pairStopped_told]
      simp only [State.setMotor_motor, if_pos, if_neg h.ports, h1, h2]
      rfl
    | finish =>
      have hm := hb.finish_motors hc' ((ha.motorPart _).trans hp) .stallEnd .afterStall
      rw [Motor.restsAt_stallEnd, Motor.restsAt_stallEnd, h1, h2] at hm
      rw [State.recogniseStall_finish hq hc' (hst.mpr ⟨hk, hd⟩) hf, ← hm]
  · rw [if_neg fun e => hd (hst.mp ((State.stallDue_iff hq hc').mp e)).2, if_neg hd, h1, h2]

/-- What stages 2 to 4 leave of a pair's channels (R65). -/
def Command.pairPeriod (c : Command) (q : Pair) (part : MotorPart) (m n : Motor) : Motor × Motor :=
  let z := c.pairServes q part m n
  if z.2 = true then (z.1.1.control.stallTest, z.1.2.control.stallTest) else c.pairLoop part z.1.1 z.1.2

theorem Motor.stallTimer_calm {m : Motor} (h : m.stallTimer = 0) : m.control.stallTest.stallTimer < 100 := by
  have hc : m.control.stallTimer = m.stallTimer := by
    unfold Motor.control
    split
    · split <;> rfl
    · rfl
  unfold Motor.stallTest
  rw [hc, h]
  split
  · exact Nat.one_lt_ofNat
  · exact Nat.ofNat_pos

/-- A command that has ended in stage 2 leaves no stall to time out. -/
theorem Command.pairServes_calm {m n : Motor} (h : (c.pairServes q part m n).2 = true) :
    (c.pairServes q part m n).1.1.stallTimer = 0 ∧ (c.pairServes q part m n).1.2.stallTimer = 0 := by
  unfold Command.pairServes at h ⊢
  dsimp only at h ⊢
  rw [if_pos h]
  exact (c.pairNext_calm ..).2

/-- The stages of a pair that runs the command `c`. -/
theorem State.Bound.stages_two (h : s.Bound k q) (hc : (s.motor q.first).active = some c) (hk : c.kind ≠ .duty)
    (hp : s.motorPart q.first = some part)
    (hset : (s.motor q.first).profile.settling = (s.motor q.second).profile.settling ∧
      (s.motor q.first).profile.settleTimer = (s.motor q.second).profile.settleTimer) :
    let z := c.pairPeriod q part (s.motor q.first).takePosition (s.motor q.second).takePosition
    (s.periodStages [q.first, q.second]).motor q.first = s.drive z.1 ∧
    (s.periodStages [q.first, q.second]).motor q.second = s.drive z.2 := by
  have hg : s.Group [q.first, q.second] := .queue (.pair h)
  have hn := hg.nodup
  have hy := s.measure_yields hn
  have hb := hy.bound h
  have hm1 := s.measure_motor hn q.first
  have hm2 := s.measure_motor hn q.second
  rw [if_pos (by simp)] at hm1 hm2
  have hc1 : ((s.measure [q.first, q.second]).motor q.first).active = some c := by
    rw [hm1]
    exact hc
  have hpart : (s.measure [q.first, q.second]).motorPart q.first = some part := by
    rw [State.measure_motion]
    exact hp
  have hr := hb.pairReference c
  have hb2 := hr.yields.bound hb
  obtain ⟨hs, hstands⟩ := hb.serves hc1 hk hpart (by rw [hm1, hm2]; exact hset)
  rw [hm1, hm2] at hs hstands
  have hl : ((s.measure [q.first, q.second]).pairReference q c).Acts [q.first, q.second] _ :=
    (State.Queue.pair hb2).controlAndStall
  have hsup : (((s.measure [q.first, q.second]).pairReference q c).controlAndStall [q.first, q.second] q.first).supply =
      s.supply := by
    rw [(hr.trans hl).motion]
    exact s.measure_supply _
  have hmotors : ((((s.measure [q.first, q.second]).pairReference q c).controlAndStall [q.first, q.second] q.first).motor
      q.first, (((s.measure [q.first, q.second]).pairReference q c).controlAndStall [q.first, q.second] q.first).motor
      q.second) = c.pairPeriod q part (s.motor q.first).takePosition (s.motor q.second).takePosition := by
    obtain ⟨hs1, hs2⟩ := Prod.ext_iff.mp hs
    dsimp only at hs1 hs2
    unfold Command.pairPeriod
    dsimp only
    by_cases hz : (c.pairServes q part (s.motor q.first).takePosition (s.motor q.second).takePosition).2 = true
    · obtain ⟨hx, hy⟩ := Command.pairServes_calm hz
      obtain ⟨-, h1, h2⟩ := hb2.looped
      rw [if_pos hz, hb2.loop_calm (by rw [hs1]; exact Motor.stallTimer_calm hx)
        (by rw [hs2]; exact Motor.stallTimer_calm hy), h1, h2, hs1, hs2]
    · rw [if_neg hz, ← hs1, ← hs2]
      refine hb2.loop ?_ hk ((hr.motorPart _).trans hpart)
      rw [hs1]
      exact hstands (by simpa using hz)
  obtain ⟨h1, h2⟩ := Prod.ext_iff.mp hmotors
  dsimp only at h1 h2
  rw [State.periodStages_running (q := q) (c := c) (by rw [hb.runningPair (.inl rfl), hc1]; rfl),
    State.foldl_output _ hsup, State.foldl_setMotor_motor _ hn, State.foldl_setMotor_motor _ hn, if_pos (by simp),
    if_pos (by simp), h1, h2]
  exact ⟨rfl, rfl⟩

end Paired
end Sys2Proof.Machine

/-! PROOF of O28: CONTROL PERIOD and ENCODER EDGE (R42, R30, R51, R63 to R65, R70 to R78, R81, R86). -/

namespace Sys2Proof.Machine

section Law
variable {s : State} {p : Port} {k : Nat} {q : Pair} {c : Command} {m : Motor}

/-! ### The stages as the claim spells them -/

theorem State.drive_eq (s : State) (m : Motor) : s.drive m =
    { m with duty := if m.state = .holding then s.outputDuty m.profile.prevU
      else if m.state = .running then (match m.active with
        | some c => if c.kind = .duty then s.outputDuty c.amount else s.outputDuty m.profile.prevU
        | none => s.outputDuty m.profile.prevU)
      else 0 } := by
  refine congrArg (fun d => { m with duty := d }) ?_
  unfold Motor.loops
  cases m.state with
  | running =>
    cases m.active with
    | none => rfl
    | some c => by_cases hk : c.kind = .duty <;> simp [hk]
  | free | braked | holding => rfl

theorem Motor.next_eq (m : Motor) (part : Option MotorPart) (c : Command) (target : Int) (f : StartFrom) :
    m.next part c target f = match m.waiting with
      | [] => m.ended c.endAction target
      | next :: rest => match part with
        | some x => if next.kind = .duty then { m.startDuty next with waiting := rest }
          else { m.startEncoder x next f with waiting := rest }
        | none => { m.startDuty next with waiting := rest } := by
  unfold Motor.next
  cases m.waiting with
  | nil => rfl
  | cons next rest =>
    cases part with
    | none => rfl
    | some x => by_cases hk : next.kind = .duty <;> simp [Motor.start, hk]

theorem Motor.idleReference_eq (m : Motor) : m.idleReference = { m with profile := { m.profile with
    pRef := (if m.state = .holding then m.holdTarget.getD m.position else m.position) * 1000, v := 0 } } := by
  unfold Motor.idleReference
  cases m.state <;> rfl

/-- One step of the profile of a TIME command after its period (R70). -/
theorem Profile.timed_step (hk : c.kind = .time) (q : Profile) : (q.timed c).step c =
    if q.rampDown = true ∨ (c.amount.toNat + 4) / 5 < q.elapsed + 1
    then ({ q with elapsed := q.elapsed + 1, rampDown := true } : Profile).rampDownAdvance
    else ({ q with elapsed := q.elapsed + 1 } : Profile).speedAdvance := by
  have ht : q.timed c = { q with
      elapsed := q.elapsed + 1, rampDown := q.rampDown || decide ((c.amount.toNat + 4) / 5 < q.elapsed + 1) } := if_pos hk
  rw [ht]
  unfold Profile.step
  simp only [hk, reduceCtorEq, or_self, if_false, true_and, Bool.or_eq_true, decide_eq_true_eq]
  by_cases hr : q.rampDown = true ∨ (c.amount.toNat + 4) / 5 < q.elapsed + 1
  · have hb : (q.rampDown || decide ((c.amount.toNat + 4) / 5 < q.elapsed + 1)) = true := by
      simpa using hr
    rw [if_pos hr, if_pos hr, hb]
  · have hb : (q.rampDown || decide ((c.amount.toNat + 4) / 5 < q.elapsed + 1)) = q.rampDown := by
      obtain ⟨h1, h2⟩ := not_or.mp hr
      simp [h2]
    rw [if_neg hr, if_neg hr, hb]

/-- Stage 2 of a channel RUNNING a command, with its TIME command apart (R65, R70, R71). -/
theorem Motor.serves_eq (m : Motor) (part : Option MotorPart) (c : Command) : m.serves part c =
    if c.kind = .duty then m.idleReference
    else if m.profile.settling = true then
      let count := if ((m.position - m.profile.target).natAbs : Int) ≤ m.profile.tol then m.profile.inTol + 1 else 0
      let m' := { m with profile := { m.profile with inTol := count, settleTimer := m.profile.settleTimer + 1 } }
      if (c.kind = .degrees ∨ c.kind = .position) ∧ (3 ≤ count ∨ 80 ≤ m.profile.settleTimer + 1)
      then m'.next part c m.profile.target .afterDone else m'
    else if c.kind = .time then
      let q' : Profile := { m.profile with elapsed := m.profile.elapsed + 1 }
      let q1 : Profile := if m.profile.rampDown = true ∨ (c.amount.toNat + 4) / 5 < m.profile.elapsed + 1
        then ({ q' with rampDown := true } : Profile).rampDownAdvance else q'.speedAdvance
      if q1.rampDown = true ∧ q1.v = 0 then ({ m with profile := q1 } : Motor).next part c m.position .afterDone
      else { m with profile := q1 }
    else { m with profile := if c.kind = .degrees ∨ c.kind = .position then m.profile.boundedAdvance
      else m.profile.speedAdvance } := by
  unfold Motor.serves
  by_cases hk : c.kind = .duty
  · rw [if_pos hk, if_pos hk]
  rw [if_neg hk, if_neg hk]
  by_cases hset : m.profile.settling = true
  · rw [if_pos hset, if_pos hset]
    simp [Motor.settleTest]
  rw [if_neg hset, if_neg hset]
  by_cases ht : c.kind = .time
  · rw [if_pos ht, Profile.timed_step ht]
    simp only [ht, true_and]
  · rw [if_neg ht]
    simp only [ht, false_and, if_false, Profile.timed, Profile.step]

/-! ### Ports and groups -/

theorem State.Tied.period (h : s.Tied) : s.Stretch s.turns.flatten s.turns.flatten s.controlPeriod :=
  .groups h h.turns_groups

theorem State.driven_of_turn (h : p ∈ s.turns.flatten) : s.driven p = true := by
  obtain ⟨g, hg, hp⟩ := List.mem_flatten.mp h
  exact (State.mem_turns.mp hg).2 p hp

/-- A channel of its own: outside any pair that runs a command. -/
theorem State.groupOf_alone
    (ha : ∀ k q, (s.motor p).pair = some k → s.pair k = some q → (s.motor q.first).active = none) : s.groupOf p = [p] := by
  unfold State.groupOf State.runningPair
  cases hk : (s.motor p).pair with
  | none => rfl
  | some k =>
    cases hq : s.pair k with
    | none => simp only [Option.bind_some, hq]
    | some q => simp only [Option.bind_some, hq, ha k q hk hq]

theorem State.Bound.groupOf (h : s.Bound k q) (hc : (s.motor q.first).active = some c) (hp : p = q.first ∨ p = q.second) :
    s.groupOf p = [q.first, q.second] := by
  unfold State.groupOf
  rw [h.runningPair hp, hc]
  rfl

/-- The bridge of a port (R30, R42, R169). -/
theorem State.bridge_eq (h : s.hub.held = false) (p : Port) : s.bridge p = if s.driven p = true then
      (match (s.motor p).state with
        | .free => .off
        | .braked => .brake
        | .holding => .drive (s.motor p).duty
        | .running => .drive (s.motor p).duty)
    else .off := by
  unfold State.bridge
  rw [h]
  cases s.driven p with
  | false => rfl
  | true => cases (s.motor p).state <;> rfl

theorem exec_encoderEdge (h : s.hub.held = false) (p : Port) (e : EncoderStep) : exec (.encoderEdge p e) s = .next (
    if (s.port p).state = .active ∧ (s.port p).device.map (fun d => d.kind) = some .motor then
      s.setMotor p { s.motor p with edges := (s.motor p).edges + (match e with | .up => 1 | .down => -1 | .skip => 0) }
    else s) := by
  refine congrArg Host.Outcome.next ((State.unlessHeld_free h _).trans (if_congr ?_ ?_ rfl))
  · simp only [State.active, State.classOf, beq_iff_eq]
  · cases e <;> rfl

/-! ### A channel of its own, and a running pair, after the period -/

theorem State.Stretch.drive {moved sampled : List Port} {t : State} (h : s.Stretch moved sampled t) : t.drive = s.drive :=
  funext (State.drive_congr h.supply)

theorem State.Stretch.motorPart {moved sampled : List Port} {t : State} (h : s.Stretch moved sampled t) (p : Port) :
    t.motorPart p = s.motorPart p := by
  unfold State.motorPart State.port
  rw [h.ports]

theorem State.Tied.period_alone (h : s.Tied) (hq : s.Haltless) (hg : s.groupOf p = [p]) (hd : s.driven p = true) :
    s.controlPeriod.motor p =
      s.drive (((s.motor p).takePosition.reference (s.motorPart p)).loop (s.motorPart p)) := by
  obtain ⟨r, u, earlier, left, right, later, ha⟩ := h.around (p := p) (by simpa [hg] using hd)
  obtain ⟨hr, ht⟩ := (ha.haltless h hq).1 p (h.mem_groupOf p)
  have hgr := ha.group
  rw [hg] at ht hgr
  rw [ht, hgr.stages_one, hr, ha.found.drive, ha.found.motorPart]

theorem State.Tied.period_pair (h : s.Tied) (hq : s.Haltless) (hb : s.Bound k q) (hc : (s.motor q.first).active = some c)
    (hd : s.driven q.first = true ∧ s.driven q.second = true) (hk : c.kind ≠ .duty) {part : MotorPart}
    (hp : s.motorPart q.first = some part)
    (hset : (s.motor q.first).profile.settling = (s.motor q.second).profile.settling ∧
      (s.motor q.first).profile.settleTimer = (s.motor q.second).profile.settleTimer) :
    let z := c.pairPeriod q part (s.motor q.first).takePosition (s.motor q.second).takePosition
    s.controlPeriod.motor q.first = s.drive z.1 ∧ s.controlPeriod.motor q.second = s.drive z.2 := by
  have hg := hb.groupOf hc (.inl rfl)
  obtain ⟨r, u, earlier, left, right, later, ha⟩ := h.around (p := q.first) (by simpa [hg] using hd)
  have hall := (ha.haltless h hq).1
  rw [hg] at hall
  obtain ⟨hr1, ht1⟩ := hall q.first (by simp)
  obtain ⟨hr2, ht2⟩ := hall q.second (by simp)
  have hs := (ha.found.toYields.bound hb).stages_two (c := c) (part := part) (by rw [hr1]; exact hc) hk
    ((ha.found.motorPart _).trans hp) (by rw [hr1, hr2]; exact hset)
  rw [hr1, hr2, ha.found.drive] at hs
  rw [ht1, ht2]
  exact hs

/-- Stages 2 to 4 of a pair in one expression (R65). -/
theorem Command.pairPeriod_eq (c : Command) (q : Pair) (part : MotorPart) (m n : Motor) :
    let leads := c.speedB.natAbs ≤ c.speed.natAbs
    let z := c.pairStage q (if leads then m else n) (if leads then n else m)
    let one := if leads then z.1 else z.2.1
    let two := if leads then z.2.1 else z.1
    let hold := fun (m : Motor) => if c.kind = .degrees ∨ c.kind = .position then m.profile.target else m.position
    let met := if z.2.2 = true then c.pairNext part .afterDone one two (hold one) (hold two) else (one, two)
    let x := met.1.control.stallTest
    let y := met.2.control.stallTest
    c.pairPeriod q part m n = if z.2.2 = false ∧ (100 ≤ x.stallTimer ∨ 100 ≤ y.stallTimer) then
        (match c.stall with
          | .fail => ((x.ended .coast 0).control, (y.ended .coast 0).control)
          | .finish =>
            let w := c.pairNext part .afterStall x y x.position y.position
            (w.1.control, w.2.control))
      else (x, y) := by
  intro leads z one two hold met x y
  have hhold : ∀ m : Motor, m.restsAt c .done = hold m := fun m => by
    simp only [Motor.restsAt, true_and, hold]
  have hz : c.pairServes q part m n = (met, z.2.2) := by
    unfold Command.pairServes
    simp only [hhold]
    rfl
  unfold Command.pairPeriod
  rw [hz]
  cases hd : z.2.2 with
  | true => exact (if_pos rfl).trans (if_neg fun e => Bool.noConfusion e.1).symm
  | false =>
    simp only [true_and]
    rfl

/-- Settles O28, by the stretches of the period about each sample, and by the stages of a channel and of a pair. -/
theorem controlPeriodLaw : Obligations.ControlPeriodLaw := by
  refine ⟨fun s => ⟨⟨_, rfl⟩, fun p e => ⟨_, rfl⟩, fun hh => ⟨congrArg _ (State.unlessHeld_held hh _), fun p =>
    ⟨by simp [State.bridge, hh], fun e => congrArg _ (State.unlessHeld_held hh _)⟩⟩⟩, fun s hh => ?_⟩
  intro driven taken ends stands reference loop output alone runs quiet
  have hdriven : ∀ p, s.driven p = true ↔ driven p := s.driven_iff
  have hends : ∀ p m c x f, ends p m c x f = m.next (s.motorPart p) c x f := fun p m c x f => (m.next_eq _ c x f).symm
  have hreference : ∀ p m, reference p m = m.reference (s.motorPart p) := fun p m => by
    simp only [reference, stands, hends, Motor.reference, Motor.serves_eq, Motor.idleReference_eq]
    cases hs : m.state with
    | running => cases hc : m.active <;> rfl
    | free | braked | holding => rfl
  have hloop : ∀ p m, loop p m = m.loop (s.motorPart p) := fun p m => by
    simp only [loop, hends]
    rfl
  have houtput : ∀ m, output m = s.drive m := fun m => (s.drive_eq m).symm
  refine ⟨fun p => ?_, fun hports hpairs => ?_, exec_encoderEdge hh⟩
  · rw [State.bridge_eq hh]
    refine ⟨fun hd => if_neg fun e => hd ((hdriven p).mp e), fun hf => if_neg fun e => ?_,
      fun hd => if_pos ((hdriven p).mpr hd)⟩
    rw [((hdriven p).mp e).1] at hf
    cases hf
  have ht : s.Tied := ⟨hports, hpairs⟩
  have hperiod := ht.period
  have hidle : ∀ p, ¬ driven p → p ∉ s.turns.flatten := fun p hd e => hd ((hdriven p).mp (State.driven_of_turn e))
  refine ⟨s.controlPeriod, congrArg _ (State.unlessHeld_free hh _), hperiod.ports, hperiod.pairs, hperiod.hub,
    fun p hd hu => ?_, fun c hc => ?_, fun p hd hp => ?_, fun k q c part hq hr hk hpart hset => ?_⟩
  · rcases hu with hu | hq
    · exact hperiod.outside p (hidle p hd) (fun e => hd ((hdriven p).mp e)) hu
    · exact hperiod.quiet hq p (hidle p hd)
  · have hn : ∀ p ∈ s.turns.flatten, c ≠ .port p := fun p hp e => hidle p (hc p e) hp
    refine ⟨hperiod.samples c hn, fun l => hperiod.views c hn l, fun l k w hw hwc => ?_⟩
    rw [hperiod.watches l k fun w' hw' p hp => ?_, hw]
    rw [hw] at hw'
    cases hw'
    rw [hwc]
    exact hn p hp
  · intro m
    have hgroup : ∀ y ∈ s.groupOf p, s.driven y = true := fun y hy => by
      rcases hp with ha | ⟨k, q, c, ⟨hb, hc, h1, h2⟩, hpq⟩
      · rw [State.groupOf_alone ha] at hy
        rw [List.mem_singleton.mp hy]
        exact (hdriven p).mpr hd
      · rw [hb.groupOf hc hpq] at hy
        rcases List.mem_pair.mp hy with rfl | rfl
        · exact (hdriven _).mpr h1
        · exact (hdriven _).mpr h2
    obtain ⟨r, u, earlier, left, right, later, ha⟩ := ht.around hgroup
    have hm := (ha.measured ht).2
    simp only [Motor.measured, Prod.mk.injEq] at hm
    obtain ⟨h1, h2, h3, h4, h5, h6, h7⟩ := hm
    obtain ⟨hd1, hd2⟩ := ha.duty ht
    refine ⟨h1, h2, h3, h4, h5, h6, h7, hd1, hd2, fun hq hal => ?_, u, ?_⟩
    · rw [houtput, hloop, hreference]
      exact ht.period_alone hq (State.groupOf_alone hal) ((hdriven p).mpr hd)
    intro x v
    have hv : u.motorSample p = v := ha.sample ht
    obtain ⟨hs1, hs2, hs3⟩ := ha.stands ht
    rw [hv] at hs1 hs2 hs3
    have hu := ha.until
    have hn : ∀ y ∈ earlier ++ left, Chan.port p ≠ .port y := fun y hy e => ha.notYet ht (by cases e; exact hy)
    refine ⟨?_, hu.ports, hu.pairs, hu.hub, fun l => ⟨hu.views _ hn l, hs2 l⟩, fun l k hk => ⟨?_, hs3 l k hk⟩, fun hq => ?_⟩
    · rw [hs1]
      exact (State.sampleTaken_sample ..).trans (if_pos rfl)
    · exact hu.watches l k fun w hw y hy => by rw [hk w hw]; exact hn y hy
    · refine ⟨(ha.haltless ht hq).2, fun y hy => ?_⟩
      obtain ⟨ho1, ho2⟩ := ha.order ht hq (State.groupOf_alone hy)
      exact ⟨fun hal hle => ho1 (State.groupOf_alone hal) hle, ho2⟩
  · obtain ⟨hb, hc, hd1, hd2⟩ := hr
    have hz := ht.period_pair hq hb hc ⟨(hdriven _).mpr hd1, (hdriven _).mpr hd2⟩ hk hpart hset
    intro leads z one two bounded hold met x y left
    have hlead : taken (if leads then q.first else q.second) = (if leads then taken q.first else taken q.second) ∧
        taken (if leads then q.second else q.first) = (if leads then taken q.second else taken q.first) :=
      ⟨apply_ite taken _ _ _, apply_ite taken _ _ _⟩
    have hleft : left = c.pairPeriod q part (taken q.first) (taken q.second) := by
      rw [Command.pairPeriod_eq]
      simp only [left, x, y, met, one, two, z, hlead.1, hlead.2, hold, bounded]
      rfl
    rw [houtput, houtput, hleft]
    exact hz

end Law
end Sys2Proof.Machine

/-! PROOF of O29: the profile steps and the control law (R67 to R70, R72, R73, R75 to R77). -/

namespace Sys2Proof.Machine

section Steps
variable {q : Profile}

/-! ### The profile steps (R67 to R70) -/

/-- The division that rounds up, as a bound without division. -/
theorem le_ceilDiv_iff {a b : Nat} (hb : 0 < b) (r : Int) : r ≤ (ceilDiv a b : Nat) ↔ (b : Int) * (r - 1) < a := by
  have hc : ((ceilDiv a b : Nat) : Int) = ((a : Int) + b - 1) / b := by
    unfold ceilDiv
    rw [Int.natCast_ediv, Int.natCast_sub (by omega)]
    rfl
  rw [hc, Int.le_ediv_iff_mul_le (by omega), mul_comm, mul_sub, mul_one]
  omega

/-- The remaining distance within the braking distance of R67, in whole numbers. -/
theorem Profile.remaining_le_braking (hdv : 1 ≤ q.dv) :
    q.remaining ≤ q.braking ↔ 2 * q.dv * (q.remaining - 1) < 5 * q.w * q.w := by
  have hb : ((2 * q.dv.toNat : Nat) : Int) = 2 * q.dv := by omega
  have ha : ((5 * (q.w.natAbs * q.w.natAbs) : Nat) : Int) = 5 * q.w * q.w := by
    rw [Int.natCast_mul, Int.natAbs_mul_self, mul_assoc]
    rfl
  unfold Profile.braking
  rw [le_ceilDiv_iff (by omega), hb, ha]

/-- Steps 3 to 5 of R67 in one choice. -/
theorem Profile.boundedSpeed_eq (hdv : 1 ≤ q.dv) : q.boundedSpeed =
    if q.w < 0 then (min 0 (q.w + q.dv), .decel)
    else if 2 * q.dv * (q.remaining - 1) < 5 * q.w * q.w then (max (q.w - q.dv) q.dv, .decel)
    else if q.w = q.vt then (q.w, .cruise)
    else if q.w < q.vt then (min (q.w + q.dv) q.vt, .accel)
    else (max (q.w - q.dv) q.vt, .decel) := by
  unfold Profile.boundedSpeed Profile.speedStep
  simp only [Profile.remaining_le_braking hdv]
  by_cases hw : q.w < 0
  · rw [if_pos hw, if_pos hw, if_pos hw]
  · simp only [if_neg hw]

/-- A profile that does not run away from its target moves toward it. -/
theorem Profile.boundedSpeed_pos (hdv : 1 ≤ q.dv) (hvt : 1 ≤ q.vt) (hw : 0 ≤ q.w) : 1 ≤ q.boundedSpeed.1 := by
  rw [Profile.boundedSpeed_eq hdv, if_neg (by omega)]
  split
  · exact hdv.trans (le_max_right _ _)
  split
  · omega
  split
  · exact le_min (by omega) hvt
  · exact hvt.trans (le_max_right _ _)

theorem Profile.boundedAdvance_moves (h : 0 < (q.advance q.boundedSpeed).remaining) :
    q.boundedAdvance = q.advance q.boundedSpeed := if_neg (by omega)

theorem Profile.boundedAdvance_lands (h : (q.advance q.boundedSpeed).remaining ≤ 0) : q.boundedAdvance =
    { q with pRef := q.target * 1000, v := 0, phase := .settle, settling := true } := if_pos h

/-- What remains after a step, never less than nothing (R67). -/
theorem Profile.boundedAdvance_remaining (q : Profile) :
    (q.target * 1000 - q.boundedAdvance.pRef) * q.d = max 0 (q.advance q.boundedSpeed).remaining := by
  by_cases h : 0 < (q.advance q.boundedSpeed).remaining
  · rw [Profile.boundedAdvance_moves h, max_eq_right h.le]
    rfl
  · rw [Profile.boundedAdvance_lands (by omega), max_eq_left (by omega), sub_self, zero_mul]

/-- With the target ahead and within the limits, a step forward brings the reference nearer, saturation and all. -/
theorem Profile.advance_nearer (hd : q.d = 1 ∨ q.d = -1) (ht : q.target.natAbs ≤ 2000000000)
    (hp : q.pRef.natAbs ≤ 2000000000000) (hr : 0 < q.remaining) {x : Int × Phase} (hx : 1 ≤ x.1) :
    (q.advance x).remaining < q.remaining := by
  unfold Profile.advance Profile.remaining clamp maxMilli at *
  rcases hd with hd | hd <;> simp only [hd] at hr ⊢ <;> omega

/-- One profile step of a SPEED command (R69). -/
theorem Profile.speedAdvance_eq (q : Profile) : q.speedAdvance =
    if q.w < 0 then q.advance (min 0 (q.w + q.dv), .decel)
    else if q.w = q.vt then q.advance (q.w, .cruise)
    else if q.w < q.vt then q.advance (min (q.w + q.dv) q.vt, .accel)
    else q.advance (max (q.w - q.dv) q.vt, .decel) := by
  simp only [Profile.speedAdvance, Profile.speedStep, apply_ite q.advance]

end Steps

/-! ### Stage 2 of a pair before SETTLE (R76, R77) -/

section Pairs
variable {s : State} {k : Nat} {q : Pair} {c : Command}

/-- The pair after a profile step: the lead's, and the follower's reference scaled from it. -/
def State.pairStepped (s : State) (q : Pair) (c : Command) : State :=
  let x := s.motor (leadPort c q)
  let lead : Motor := { x with profile := (x.profile.timed c).step c }
  s.setPairMotors c q lead ((s.motor (followPort c q)).follow c lead)

theorem State.Bound.pairReference_held (h : s.Bound k q) (hc : (s.motor q.first).active = some c) (hk : c.kind ≠ .duty)
    (hx : ¬ (s.motor (leadPort c q)).profile.settling = true)
    (hl : c.lags q (s.motor (leadPort c q)) (s.motor (followPort c q))) :
    s.pairReference q c = s.setMotor (leadPort c q) { s.motor (leadPort c q) with
      profile := (s.motor (leadPort c q)).profile.timed c } := by
  rw [h.pairReference_moving hc hk hx, Command.pairStage_held hx hl, if_neg Bool.false_ne_true]
  exact State.setMotor_stands ((State.setMotor_motor ..).trans (if_neg (h.lead_ne_follow c)))

theorem State.Bound.pairReference_steps (h : s.Bound k q) (hc : (s.motor q.first).active = some c) (hk : c.kind ≠ .duty)
    (hx : ¬ (s.motor (leadPort c q)).profile.settling = true)
    (hl : ¬ c.lags q (s.motor (leadPort c q)) (s.motor (followPort c q))) :
    let stepped := ((s.motor (leadPort c q)).profile.timed c).step c
    s.pairReference q c = if c.kind = .time ∧ stepped.rampDown = true ∧ stepped.v = 0
      then (s.pairStepped q c).finish q.first .done .afterDone else s.pairStepped q c := by
  intro stepped
  rw [h.pairReference_moving hc hk hx, Command.pairStage_moves hx hl (h.commands c (by simp [hc]))]
  exact if_congr decide_eq_true_iff rfl rfl

theorem State.Bound.pairStepped_acts (h : s.Bound k q) (c : Command) : s.Acts [q.first, q.second] (s.pairStepped q c) :=
  h.setPairMotors (.withProfile _ _) (.follow _ c _)

/-- A profile step leaves the commands of the pair. -/
theorem State.Bound.pairStepped_commands (h : s.Bound k q) (c : Command) :
    ((s.pairStepped q c).motor q.first).active = (s.motor q.first).active ∧
    ((s.pairStepped q c).motor q.first).waiting = (s.motor q.first).waiting := by
  have hf := fun lead => (s.motor (followPort c q)).follow_claim c lead
  simp only [Motor.claim, Prod.mk.injEq] at hf
  unfold State.pairStepped
  dsimp only
  rw [(h.setPairMotors_motor c _ _).1]
  rcases leadPort_cases c q with ⟨hs, hl, -⟩ | ⟨hs, -, hl⟩
  · rw [if_pos hs, hl]
    exact ⟨rfl, rfl⟩
  · rw [if_neg hs, ← hl]
    exact ⟨(hf _).2.1, (hf _).2.2.1⟩

/-- A TIME command of a pair ends with its ramp-down where no other waits (R49, R70). -/
theorem State.Bound.pairStepped_ends (h : s.Bound k q) (hc : (s.motor q.first).active = some c) (hk : c.kind = .time)
    (hw : (s.motor q.first).waiting = []) : (s.pairStepped q c).finish q.first .done .afterDone =
      ((s.pairStepped q c).notifyAll [(s.pairStepped q c).pairEnd k q .done c]).pairStopped q c.endAction := by
  obtain ⟨ha, hr⟩ := h.pairStepped_commands c
  have hrests : ∀ m : Motor, m.restsAt c .done = m.position := fun m => if_neg (by simp [hk])
  rw [((h.pairStepped_acts c).yields.bound h).finish_stops (ha.trans hc) (hr.trans hw), State.pairStopped_told, hrests, hrests]

end Pairs

/-! ### The control law, the duty and the stall timer (R72, R73, R75) -/

section Loops
variable {m : Motor}

theorem Motor.encoderRunning_iff (m : Motor) : m.encoderRunning = true ↔
    m.state = .running ∧ ∀ c, m.active = some c → c.kind ≠ .duty := by
  unfold Motor.encoderRunning Motor.loops
  cases m.state with
  | running => cases m.active <;> simp
  | free | braked | holding => simp

theorem Motor.loops_iff (m : Motor) : m.loops = true ↔ m.state = .holding ∨ m.encoderRunning = true := by
  unfold Motor.encoderRunning Motor.loops
  cases m.state <;> simp

/-- The stall timer of R75. -/
theorem Motor.stallTest_eq (m : Motor) : m.stallTest = { m with
    stallTimer := if (m.state = .running ∧ ∀ c, m.active = some c → c.kind ≠ .duty) ∧ 8000 ≤ m.profile.prevU.natAbs ∧
      (m.speed.natAbs : Int) ≤ m.profile.vmax.tdiv 20 then m.stallTimer + 1 else 0 } := by
  unfold Motor.stallTest
  simp only [Bool.and_eq_true, decide_eq_true_eq, Motor.encoderRunning_iff, and_assoc]
  exact Eq.symm (apply_ite (fun n : Nat => ({ m with stallTimer := n } : Motor)) _ _ _)

/-- The control law of R72 on a channel whose loop runs. -/
theorem Motor.control_eq {g : Gains} (hg : m.gains = some g) (hl : m.loops = true) :
    let e := m.profile.pRef.tdiv 1000 - m.position
    let i := if (10000 ≤ m.profile.prevU ∧ 0 < e) ∨ (m.profile.prevU ≤ -10000 ∧ e < 0) then m.integral else m.integral + e
    let ff := if g.feedforward then (m.profile.v * 10000).tdiv m.profile.vmax else 0
    m.control = { m with
      integral := i
      profile := { m.profile with prevU := ff + g.kp * e + max (-10000) (min 10000 ((g.ki * i).tdiv 100)) } } := by
  intro e i ff
  unfold Motor.control
  rw [if_pos hl, hg]
  simp only [Bool.or_eq_true, Bool.and_eq_true, decide_eq_true_eq]
  rfl

/-- The duty of R73, on a supply that is LOW or not. -/
theorem State.outputDuty_eq (s : State) (u : Int) : s.outputDuty u =
    let cap : Int := if s.supply.state = some .low then 7500 else 10000
    max (-cap) (min cap ((u * 7200).tdiv (max (s.supply.mean.getD 0) 5400))) := by
  unfold State.outputDuty State.low
  simp only [beq_iff_eq]
  rfl

end Loops

/-- Settles O29, by the choices of a profile step, the two outcomes of a pair's stage 2, and one equation for each stage
of the loop. -/
theorem profileStepsAndControlLaw : Obligations.ProfileStepsAndControlLaw := by
  refine ⟨fun q hd hdv hvt htarget href hahead => ?_, fun q => ⟨q.speedAdvance_eq, rfl⟩,
    fun s k q c hb hc hk => ?_, fun m g s hg => ?_⟩
  · intro w r braking step next
    have hstep : q.boundedSpeed = step := Profile.boundedSpeed_eq hdv
    have hadvance : q.advance q.boundedSpeed = { q with pRef := next, v := step.1 * q.d, phase := step.2 } := by
      rw [hstep]
      rfl
    have hnext : (q.advance q.boundedSpeed).remaining = (q.target * 1000 - next) * q.d := by
      rw [hadvance]
      rfl
    refine ⟨fun h => ?_, fun h => Profile.boundedAdvance_lands (hnext ▸ h), ?_, fun hw => ?_⟩
    · rw [Profile.boundedAdvance_moves (hnext ▸ h), hadvance]
    · rw [q.boundedAdvance_remaining]
      exact le_max_left _ _
    · rw [q.boundedAdvance_remaining]
      exact max_lt hahead (Profile.advance_nearer hd htarget href hahead (Profile.boundedSpeed_pos hdv hvt hw))
  · intro firstLeads lead follower sl sf x y bounded lags held timed stepped reference scaled next ended hx
    have hports : lead = leadPort c q ∧ follower = followPort c q := by
      rcases leadPort_cases c q with ⟨hs, hl, hf⟩ | ⟨hs, hl, hf⟩ <;> rw [hl, hf]
      · exact ⟨if_pos hs, if_pos hs⟩
      · exact ⟨if_neg hs, if_neg hs⟩
    obtain ⟨hlead, hfollow⟩ := hports
    have hset : ¬ (s.motor (leadPort c q)).profile.settling = true := by
      rw [← hlead]
      exact ne_true_of_eq_false hx
    have hlags : c.lags q (s.motor (leadPort c q)) (s.motor (followPort c q)) ↔ held := by
      rw [← hlead, ← hfollow]
      exact Iff.rfl
    have hnext : s.pairStepped q c = next := by
      unfold State.pairStepped State.setPairMotors
      dsimp only
      rw [← hlead, ← hfollow, Motor.follow_eq (hb.commands c (by simp [hc]))]
      rfl
    have hmoves : ¬ held → s.pairReference q c = if ended then next.finish q.first .done .afterDone else next := fun h => by
      rw [hb.pairReference_steps hc hk hset fun e => h (hlags.mp e), hnext, ← hlead]
      rfl
    refine ⟨fun h => ?_, fun h he => (hmoves h).trans (if_neg he), fun h he hw => (hmoves h).trans ((if_pos he).trans ?_)⟩
    · rw [hb.pairReference_held hc hk hset (hlags.mpr h), ← hlead]
      rfl
    · rw [← hnext]
      exact hb.pairStepped_ends hc he.1 hw
  · intro runs hl
    have hruns : m.encoderRunning = true ↔ runs := m.encoderRunning_iff
    exact ⟨Motor.control_eq hg (m.loops_iff.mpr (hl.imp_right hruns.mpr)), s.outputDuty_eq _, m.stallTest_eq⟩

end Sys2Proof.Machine

/-! SUPPORT. Member blocks: the delivery of a view in the layout of section 1.9 (R91). -/

namespace Sys2Proof.Machine

section Delivery
variable {s : State} {l : Link} {c : Chan}

/-- The flags of a view that is on: fresh, and whether a stamp follows (section 1.9). -/
theorem memberFlags_on (fresh : Bool) (x : Option Stamp) :
    memberFlags fresh x.isSome false = (if fresh then 1 else 0) + 2 * (if x = none then 0 else 1) := by
  cases x <;> cases fresh <;> rfl

/-- A view that is off delivers the sample of its channel. -/
theorem State.delivery_off (h : (s.view l c).interval = 0) : s.delivery l c =
    memberBlock c (s.sample c).mode 4 (s.sample c).clipped (s.sample c).sequence (s.sample c).time none
      (s.sample c).values :=
  if_pos h

/-- A view that is on delivers its output. -/
theorem State.delivery_on (h : (s.view l c).interval ≠ 0) : s.delivery l c =
    memberBlock c (s.view l c).output.mode
      ((if (s.view l c).fresh then 1 else 0) + 2 * (if (s.view l c).output.stamp = none then 0 else 1))
      (s.view l c).output.clipped (s.view l c).output.sequence (s.view l c).output.time (s.view l c).output.stamp
      (s.view l c).output.values := by
  rw [← memberFlags_on]
  exact if_neg h

theorem values_length (xs : List Int) : (xs.map es32).flatten.length = 4 * xs.length := by
  induction xs with
  | nil => rfl
  | cons x rest ih =>
    rw [List.map_cons, List.flatten_cons, List.length_append, es32_length, ih, List.length_cons]
    omega

/-- A member block has 11 bytes and 4 per value, 3 more with a stamp. -/
theorem memberBlock_length (c : Chan) (mode : Option Nat) (flags : Nat) (clipped : List Bool) (sequence : Nat)
    (time : Word32) (stamp : Option Stamp) (values : List Int) :
    (memberBlock c mode flags clipped sequence time stamp values).length =
      (if stamp = none then 11 else 14) + 4 * values.length := by
  unfold memberBlock
  rw [List.length_append, values_length]
  cases stamp <;> rfl

theorem State.delivery_length (s : State) (l : Link) (c : Chan) : (s.delivery l c).length =
    if (s.view l c).interval = 0 then 11 + 4 * (s.sample c).values.length
    else (if (s.view l c).output.stamp = none then 11 else 14) + 4 * (s.view l c).output.values.length := by
  split
  · rename_i h
    rw [State.delivery_off h]
    exact memberBlock_length ..
  · rename_i h
    rw [State.delivery_on h]
    exact memberBlock_length ..

theorem chanCode_chanOf {x : Nat} (h : x ≤ 6) : chanCode (chanOf x) = x := by
  rw [chanOf_eq h]
  split
  · rename_i h6
    exact h6.symm
  · exact portCode_portOf (by omega)

end Delivery

end Sys2Proof.Machine

/-! PROOF of O31: READ VALUES (R91, R92). -/

namespace Sys2Proof.Machine

section ReadValues
variable {s : State} {l : Link} {tag : Byte} {n : Nat} {b : List Byte}

/-- The checks of READ VALUES (R33, R92). -/
def State.readChecks (s : State) (b : List Byte) : List (Bool × Judgement) :=
  [(decide (b.length ≠ 2), .parameterError), (decide (6 < u8 b 0), .portError)] ++ s.chanChecks (u8 b 0) (u8 b 1)

theorem State.readValues_taken (s : State) (l : Link) (n : Nat) (b : List Byte) :
    State.readValues ⟨l, n⟩ b (s.taken l n) = (s.taken l n).check ⟨l, n⟩ (s.readChecks b) fun t =>
      (t.delivered l (chanOf (u8 b 0))).complete ⟨l, n⟩ (t.delivery l (chanOf (u8 b 0))) :=
  rfl

theorem exec_readValues_refused (h : s.Waits l tag .readValues n b) {j : Judgement} (hj : judge (s.readChecks b) = some j) :
    exec (.readValues l tag) s = .next (s.answered l tag .readValues n j []) :=
  congrArg _ (State.serve_refused h (s.readValues_taken l n b) hj)

/-- The delivery is taken as the view stands, and its fresh flag is cleared in the same act. -/
theorem exec_readValues_done (h : s.Waits l tag .readValues n b) (hj : judge (s.readChecks b) = none) :
    exec (.readValues l tag) s = .next ((s.delivered l (chanOf (u8 b 0))).answered l tag .readValues n .normalCompletion
      (s.delivery l (chanOf (u8 b 0)))) :=
  congrArg Host.Outcome.next (State.serve_done h (s.readValues_taken l n b) hj
    (t := s.delivered l (chanOf (u8 b 0))) (h.of_links rfl) rfl)

end ReadValues

/-- Settles O31, by the delivery of a view that is off and of one that is on. -/
theorem readValuesAnswered : Obligations.ReadValuesAnswered := by
  intro s l tag n b h c v o x checks block body
  have hc : checks = s.readChecks b := by
    simp only [checks, State.chanGuard_eq]
    rfl
  rw [hc]
  refine ⟨fun j hj => exec_readValues_refused h hj, fun hj => ?_⟩
  have hx : u8 b 0 ≤ 6 := field_le_of_judge hj
  have hch : chanOf (u8 b 0) = c := chanOf_eq hx
  have hcode : chanCode c = u8 b 0 := hch ▸ chanCode_chanOf hx
  have hbody : s.delivery l c = body := by
    by_cases h0 : v.interval = 0
    · rw [State.delivery_off h0]
      unfold memberBlock
      rw [hcode]
      exact (if_pos h0).symm
    · rw [State.delivery_on h0]
      unfold memberBlock
      rw [hcode]
      exact (if_neg h0).symm
  refine ⟨?_, hbody ▸ s.delivery_length l c⟩
  rw [exec_readValues_done h hj, hch, hbody]
  rfl

end Sys2Proof.Machine

/-! SUPPORT. The watches of one link as they meet an output (R107, R108), and one view as it takes a sample (R86). -/

namespace Sys2Proof.Machine

section Meets
variable {s t u : State} {l j : Link} {k : Nat} {w : Watch} {c y : Chan} {x : Sample}

/-! ### Watches that meet an output (R107, R108) -/

/-- No watch of the link has an action. -/
def State.Actionless (s : State) (l : Link) : Prop := ∀ k w, s.watch l k = some w → w.action = .none

/-- `t` follows from `s` by watches of the link `l` that meet outputs: beyond their own records and the notices they reach
channels and pairs, and these by an action alone. -/
structure State.Meets (l : Link) (s t : State) : Prop where
  frame : t = { s with links := t.links, motors := t.motors, pairs := t.pairs, watches := t.watches }
  others : ∀ j, j ≠ l → t.watches.get j = s.watches.get j
  quiet : s.Actionless l → t.Actionless l ∧ t.motors = s.motors ∧ t.pairs = s.pairs

theorem State.Meets.refl (l : Link) (s : State) : s.Meets l s := ⟨rfl, fun _ _ => rfl, fun h => ⟨h, rfl, rfl⟩⟩

theorem State.Meets.trans (h : s.Meets l t) (h' : t.Meets l u) : s.Meets l u where
  frame := by
    have h2 := h'.frame
    rw [h.frame] at h2
    exact h2
  others j hj := (h'.others j hj).trans (h.others j hj)
  quiet hs := by
    obtain ⟨ht, hm, hp⟩ := h.quiet hs
    obtain ⟨hu, hm', hp'⟩ := h'.quiet ht
    exact ⟨hu, hm'.trans hm, hp'.trans hp⟩

theorem State.LinksOnly.meets (h : s.LinksOnly t) : s.Meets l t where
  frame := by
    unfold State.LinksOnly at h
    rw [h]
  others _ _ := by rw [h]
  quiet hs := by
    rw [h]
    exact ⟨hs, rfl, rfl⟩

/-- An action is carried out only where a watch has one. -/
theorem State.MotionOnly.meets (h : s.MotionOnly t) (ha : ¬ s.Actionless l) : s.Meets l t where
  frame := by
    unfold State.MotionOnly at h
    rw [h]
  others _ _ := by rw [h]
  quiet hs := absurd hs ha

/-- A watch changes and keeps its action. -/
theorem State.Meets.setWatch {w' : Watch} (hw : s.watch l k = some w) (ha : w'.action = w.action) :
    s.Meets l (s.setWatch l k (some w')) where
  frame := rfl
  others _ hj := PerLink.get_set_ne _ _ hj
  quiet hs := by
    refine ⟨fun n v hv => ?_, rfl, rfl⟩
    rw [State.setWatch_watch] at hv
    split at hv
    · cases hv
      exact ha.trans (hs k w hw)
    · exact hs n v hv

theorem State.Meets.watchTold (hw : s.watch l k = some w) (a b c d : Nat) : s.Meets l (s.watchTold l k w a b c d) :=
  (State.Meets.setWatch (w' := w.fired a) hw rfl).trans (s.watchTold_frame l k w a b c d).meets

theorem State.carryOut_motion (s : State) (a : WatchAction) : s.MotionOnly (s.carryOut a) := by
  unfold State.carryOut
  split
  · exact .refl s
  · exact State.MotionOnly.endEnter s _ _ _ _
  · split
    · exact .refl s
    · exact State.MotionOnly.endEnter s _ _ _ _

theorem State.Meets.fireWatch (hw : s.watch l k = some w) : s.Meets l (s.fireWatch l k) := by
  by_cases hd : w.Due
  · by_cases hr : s.actionResult l w.action = .carriedOut
    · have ha : ¬ s.Actionless l := fun ha => by
        rw [ha k w hw] at hr
        cases hr
      have hm := (s.watchTold_frame l k w w.skips w.action.code 1 (s.actionEnds w.action)).motion.trans
        (State.carryOut_motion _ w.action)
      rw [State.fireWatch_carriedOut hw hd hr]
      refine (State.Meets.setWatch (w' := w.fired w.skips) hw rfl).trans (hm.meets fun hq => ha fun n v hv => ?_)
      by_cases hn : n = k
      · subst hn
        obtain rfl : w = v := Option.some.inj (hw.symm.trans hv)
        exact hq n (w.fired w.skips) ((s.setWatch_watch l l n n _).trans (if_pos ⟨rfl, rfl⟩))
      · exact hq n v (((s.setWatch_watch l l k n _).trans (if_neg fun e => hn e.2)).trans hv)
    · rw [State.fireWatch_told hw hd rfl hr]
      exact .watchTold hw _ _ _ _
  · rw [State.fireWatch_undue hw hd]
    exact .refl l s

theorem State.Meets.evalWatch (s : State) (l : Link) (c : Chan) (k : Nat) : s.Meets l (s.evalWatch l c k) := by
  by_cases hc : ∃ w, s.watch l k = some w ∧ w.chan = c
  · obtain ⟨w, hw, rfl⟩ := hc
    have sets : ∀ st n, s.Meets l (s.watchAt l k w st n) := fun st n => .setWatch hw rfl
    have fires : ∀ n, s.Meets l ((s.watchAt l k w .pending n).fireWatch l k) := fun n =>
      (sets .pending n).trans (.fireWatch (s.watchAt_watch l k w .pending n))
    cases hs : w.state with
    | armed =>
      rw [State.evalWatch_armed hw hs]
      split
      exacts [fires _, .refl l s]
    | pending =>
      rw [State.evalWatch_pending hw hs]
      split
      exacts [fires _, sets _ _]
    | fired =>
      rw [State.evalWatch_fired hw hs]
      split
      exacts [sets _ _, .refl l s]
    | disarmed =>
      rw [State.evalWatch_off hw hs]
      exact .refl l s
  · rw [State.evalWatch_absent fun w hw e => hc ⟨w, hw, e⟩]
    exact .refl l s

/-! ### One view (R86, R88, R89) -/

/-- The view of `c` on the link `l` is on, and the sample `x` is an output of it (R88). -/
def State.Outputs (s : State) (l : Link) (c : Chan) (x : Sample) : Prop :=
  (s.view l c).interval ≠ 0 ∧ (s.view l c).due x.interval = true

/-- The view that has taken the sample record which stands. -/
def State.viewStepped (s : State) (l : Link) (c : Chan) : View :=
  (s.view l c).taken (decide (c = .internal)) (s.sample c) ((s.view l c).stampPort.map s.stamped)

theorem State.viewTaken_idle (h : (s.view l c).interval = 0) : s.viewTaken l c = s := if_pos h

theorem State.viewTaken_meets (h : (s.view l c).interval ≠ 0) :
    (s.setView l c (s.viewStepped l c)).Meets l (s.viewTaken l c) := by
  unfold State.viewTaken
  dsimp only
  rw [if_neg h]
  split
  · exact List.foldlRecOn _ _ (.refl l _) fun u hu k _ => hu.trans (.evalWatch u l c k)
  · exact .refl l _

/-- A sample that is no output meets no watch. -/
theorem State.viewTaken_unmet (h : ¬ s.Outputs l c (s.sample c)) : (s.viewTaken l c).watches = s.watches ∧
    (s.viewTaken l c).motors = s.motors ∧ (s.viewTaken l c).links = s.links := by
  by_cases h0 : (s.view l c).interval = 0
  · rw [State.viewTaken_idle h0]
    exact ⟨rfl, rfl, rfl⟩
  · have ht : s.viewTaken l c = s.setView l c (s.viewStepped l c) := (if_neg h0).trans (if_neg fun hd => h ⟨h0, hd⟩)
    rw [ht]
    exact ⟨rfl, rfl, rfl⟩

theorem State.viewTaken_view (s : State) (l j : Link) (c y : Chan) : (s.viewTaken l c).view j y =
    if (j = l ∧ y = c) ∧ (s.view l c).interval ≠ 0 then s.viewStepped l c else s.view j y := by
  by_cases h0 : (s.view l c).interval = 0
  · rw [State.viewTaken_idle h0, if_neg fun e => e.2 h0]
  · have hv : (s.viewTaken l c).view j y = (s.setView l c (s.viewStepped l c)).view j y := by
      rw [State.view, (State.viewTaken_meets h0).frame]
      rfl
    simp only [hv, State.setView_view, ne_eq, h0, not_false_iff, and_true]

/-- The watches of the other link take no part. -/
theorem State.viewTaken_others (s : State) (c : Chan) (h : j ≠ l) :
    (s.viewTaken l c).watches.get j = s.watches.get j := by
  by_cases h0 : (s.view l c).interval = 0
  · rw [State.viewTaken_idle h0]
  · exact (State.viewTaken_meets h0).others j h

/-- Without an action no watch halts a channel. -/
theorem State.viewTaken_actionless (h : s.Actionless l) (c : Chan) :
    (s.viewTaken l c).motors = s.motors ∧ (s.viewTaken l c).pairs = s.pairs := by
  by_cases h0 : (s.view l c).interval = 0
  · rw [State.viewTaken_idle h0]
    exact ⟨rfl, rfl⟩
  · exact ((State.viewTaken_meets h0).quiet h).2

theorem State.stamped_congr (hp : t.ports = s.ports) (hm : t.motors = s.motors) (hq : t.pairs = s.pairs) :
    t.stamped = s.stamped := by
  have hport : t.port = s.port := funext fun p => by rw [State.port, hp, State.port]
  have hmotor : t.motor = s.motor := funext fun p => by rw [State.motor, hm, State.motor]
  have hpair : t.pair = s.pair := funext fun k => by rw [State.pair, hq, State.pair]
  funext p
  simp only [State.stamped, hport, hmotor, hpair]

/-! ### A sample through both views (R79, R86, R89) -/

theorem State.viewTaken_sample (s : State) (l : Link) (c y : Chan) : (s.viewTaken l c).sample y = s.sample y := by
  rw [State.SampleOnly.viewTaken s l c]
  rfl

theorem State.viewTaken_ports (s : State) (l : Link) (c : Chan) : (s.viewTaken l c).ports = s.ports := by
  rw [State.SampleOnly.viewTaken s l c]

/-- PL's view takes the sample as the channel does; TL's has not moved (notes/assumptions/14). -/
theorem State.sampleTaken_view (s : State) (l : Link) (c : Chan) (x : Sample) : ∃ r : State,
    (s.sampleTaken c x).view l c = (if (s.view l c).interval = 0 then s.view l c else r.viewStepped l c) ∧
    r.view l c = s.view l c ∧ r.sample c = x ∧ ((l = .pl ∨ s.Actionless .pl) → r.stamped = s.stamped) := by
  have hx : (s.setSample c x).sample c = x := s.setSample_sample_self c x
  cases l with
  | pl =>
    refine ⟨s.setSample c x, ?_, rfl, hx, fun _ => rfl⟩
    unfold State.sampleTaken
    rw [State.viewTaken_view, if_neg (by simp), State.viewTaken_view]
    simp only [and_self, true_and, ne_eq, ite_not]
    rfl
  | tl =>
    have hv : ((s.setSample c x).viewTaken .pl c).view .tl c = s.view .tl c :=
      (State.viewTaken_view ..).trans (if_neg (by simp))
    refine ⟨(s.setSample c x).viewTaken .pl c, ?_, hv, (State.viewTaken_sample ..).trans hx, fun h => ?_⟩
    · unfold State.sampleTaken
      rw [State.viewTaken_view, hv]
      simp only [and_self, true_and, ne_eq, ite_not]
    · have ha : (s.setSample c x).Actionless .pl := h.resolve_left (by decide)
      obtain ⟨hm, hp⟩ := State.viewTaken_actionless ha c
      exact State.stamped_congr (State.viewTaken_ports _ .pl c) hm hp

/-- A view that is off keeps all it holds. -/
theorem State.sampleTaken_view_off (h : (s.view l c).interval = 0) (x : Sample) :
    (s.sampleTaken c x).view l c = s.view l c := by
  obtain ⟨r, hr, -, -, -⟩ := s.sampleTaken_view l c x
  exact hr.trans (if_pos h)

/-- A view that is on has taken the sample. -/
theorem State.sampleTaken_view_on (h : (s.view l c).interval ≠ 0) (x : Sample) : ∃ z,
    (s.sampleTaken c x).view l c = (s.view l c).taken (decide (c = .internal)) x z ∧
      ((l = .pl ∨ s.Actionless .pl) → z = (s.view l c).stampPort.map s.stamped) := by
  obtain ⟨r, hr, hv, hx, hz⟩ := s.sampleTaken_view l c x
  rw [if_neg h, State.viewStepped, hv, hx] at hr
  exact ⟨_, hr, fun hl => by rw [hz hl]⟩

/-- The second view finds the outputs of the sample as the first did. -/
theorem State.outputs_viewTaken (h : ¬ s.Outputs .tl c x) (hx : s.sample c = x) :
    ¬ (s.viewTaken .pl c).Outputs .tl c ((s.viewTaken .pl c).sample c) := by
  unfold State.Outputs
  rw [State.viewTaken_sample, hx, State.viewTaken_view, if_neg (by simp)]
  exact h

theorem State.sampleTaken_watches (h : ¬ s.Outputs l c x) : (s.sampleTaken c x).watches.get l = s.watches.get l := by
  have hx : (s.setSample c x).sample c = x := s.setSample_sample_self c x
  unfold State.sampleTaken
  cases l with
  | pl =>
    rw [State.viewTaken_others _ c (by decide), (State.viewTaken_unmet (s := s.setSample c x) (by rwa [hx])).1]
    rfl
  | tl =>
    rw [(State.viewTaken_unmet (State.outputs_viewTaken (s := s.setSample c x) h hx)).1,
      State.viewTaken_others _ c (by decide)]
    rfl

/-- A sample that is no output of either view reaches neither channels nor links. -/
theorem State.sampleTaken_unmet (h : ∀ l, ¬ s.Outputs l c x) : (s.sampleTaken c x).motors = s.motors ∧
    (s.sampleTaken c x).links = s.links := by
  have hx : (s.setSample c x).sample c = x := s.setSample_sample_self c x
  obtain ⟨-, hm, hl⟩ := State.viewTaken_unmet (s := s.setSample c x) (l := .pl) (c := c) (by rw [hx]; exact h .pl)
  obtain ⟨-, hm', hl'⟩ := State.viewTaken_unmet (State.outputs_viewTaken (s := s.setSample c x) (h .tl) hx)
  exact ⟨hm'.trans hm, hl'.trans hl⟩

end Meets

end Sys2Proof.Machine

/-! PROOF of O32: PORT I SAMPLE (R79, R82, R86 to R89, R107). -/

namespace Sys2Proof.Machine

section PortISample
variable {s t u : State}

/-! ### The detectors (R96 to R101) -/

/-- `t` is `s` with another brick record, other working state of the detectors, and other Link Units. -/
def State.BrickOnly (s t : State) : Prop := t = { s with brick := t.brick, brickWork := t.brickWork, links := t.links }

theorem State.BrickOnly.trans (h : s.BrickOnly t) (h' : t.BrickOnly u) : s.BrickOnly u := by
  unfold State.BrickOnly at h h' ⊢
  rw [h', h]

theorem State.BrickOnly.hub (h : s.BrickOnly t) : t.hub = s.hub := by rw [h]

theorem State.BrickOnly.now (h : s.BrickOnly t) : t.now = s.now := by rw [State.now, h.hub, State.now]

theorem State.BrickOnly.ports (h : s.BrickOnly t) : t.ports = s.ports := by rw [h]

theorem State.BrickOnly.motors (h : s.BrickOnly t) : t.motors = s.motors := by rw [h]

theorem State.BrickOnly.pairs (h : s.BrickOnly t) : t.pairs = s.pairs := by rw [h]

theorem State.BrickOnly.watches (h : s.BrickOnly t) : t.watches = s.watches := by rw [h]

theorem State.BrickOnly.sharedI (h : s.BrickOnly t) : t.sharedI = s.sharedI := by rw [h]

theorem State.BrickOnly.brickSet (h : s.BrickOnly t) : t.brickSet = s.brickSet := by rw [h]

theorem State.BrickOnly.sample (h : s.BrickOnly t) (c : Chan) : t.sample c = s.sample c := by
  rw [h]
  rfl

theorem State.BrickOnly.view (h : s.BrickOnly t) (l : Link) (c : Chan) : t.view l c = s.view l c := by
  rw [h]
  rfl

theorem State.LinksOnly.brick (h : s.LinksOnly t) : s.BrickOnly t := by
  unfold State.LinksOnly at h
  unfold State.BrickOnly
  rw [h]

theorem State.LinksOnly.brickNotice (h : s.LinksOnly t) (l : Link) (e : BrickRaise) (n : Nat) :
    s.LinksOnly (t.brickNotice l e n) := by
  unfold State.brickNotice
  split
  · exact h.notify l _
  · exact h

theorem State.BrickOnly.raiseBrick (s : State) (e : Option BrickRaise) : s.BrickOnly (s.raiseBrick e) := by
  cases e with
  | none => rfl
  | some e =>
    refine State.BrickOnly.trans ?_ (((State.LinksOnly.refl _).brickNotice .pl e _).brickNotice .tl e _).brick
    rfl

theorem State.BrickOnly.runDetector (s : State) (on : Bool) (f : BrickState → DetectorWork → DetectorResult) :
    s.BrickOnly (s.runDetector on f) := by
  refine State.BrickOnly.trans ?_ (.raiseBrick _ _)
  rfl

theorem State.BrickOnly.detect (s : State) (now : Word32) (xs : List Int) : s.BrickOnly (s.detect now xs) := by
  unfold State.detect
  split
  · exact (((State.BrickOnly.runDetector s _ _).trans (.runDetector _ _ _)).trans (.runDetector _ _ _)).trans
      (.runDetector _ _ _)
  · rfl

/-- With no detector enabled, nothing has happened. -/
theorem State.detect_disabled (ho : s.brickSet.orientation = false) (ht : s.brickSet.tap = false)
    (hf : s.brickSet.freeFall = false) (hm : s.brickSet.motion = false) (now : Word32) (xs : List Int) :
    s.detect now xs = s := by
  have off : ∀ f, s.runDetector false f = s := fun _ => rfl
  unfold State.detect
  split
  · simp only [ho, ht, hf, hm, off]
  · rfl

/-! ### The sample (R82) -/

/-- The sample record of port I from its six readings (R79, R82). -/
def State.readings (s : State) (ax ay az gx gy gz : Int) : Sample :=
  let limit := fun (r x : Int) => max (-r) (min r x)
  let a : Int := s.sharedI.accelRange
  let g : Int := 10 * (s.sharedI.gyroRange : Int)
  let beyond := fun (r x : Int) => decide (r ≤ x ∨ x ≤ -r)
  ⟨none, nextNumber (s.sample .internal).sequence, s.hub.time,
    [limit a ax, limit a ay, limit a az, limit g gx, limit g gy, limit g gz],
    [beyond a ax, beyond a ay, beyond a az, beyond g gx, beyond g gy, beyond g gz], s.sharedI.interval⟩

theorem limitReading_eq (r x : Int) : limitReading r x = (max (-r) (min r x), decide (r ≤ x ∨ x ≤ -r)) := by
  rw [limitReading, Bool.decide_or]
  rfl

/-- The detectors take the readings, and then the views take the sample. -/
theorem State.internalSample_eq (s : State) (ax ay az gx gy gz : Int) : let x := s.readings ax ay az gx gy gz
    ∃ u : State, s.internalSample ax ay az gx gy gz = u.sampleTaken .internal x ∧ s.BrickOnly u ∧
      (s.brickSet.orientation = false → s.brickSet.tap = false → s.brickSet.freeFall = false →
        s.brickSet.motion = false → u = s) := by
  intro x
  have hx : s.internalSample ax ay az gx gy gz = (s.detect s.now x.values).takeSample .internal none x.values x.clipped
      x.interval := by
    unfold State.internalSample
    simp only [limitReading_eq]
    rfl
  have hb := State.BrickOnly.detect s s.now x.values
  refine ⟨s.detect s.now x.values, ?_, hb, fun ho ht hf hm => State.detect_disabled ho ht hf hm _ _⟩
  rw [hx, State.takeSample_eq, hb.sample, hb.now]
  rfl

theorem exec_portISample (hh : s.hub.held = false) (ax ay az gx gy gz : Int) : exec (.portISample ax ay az gx gy gz) s =
    .next (if s.hub.state = .ready then s.internalSample ax ay az gx gy gz else s) := by
  refine congrArg Host.Outcome.next ((State.unlessHeld_free hh _).trans ?_)
  simp only [State.hubReady, beq_iff_eq]

end PortISample

/-- Settles O32: the detectors reach their own records and the links, and the sample passes through both views. -/
theorem portISampleTaken : Obligations.PortISampleTaken := by
  intro s ax ay az gx gy gz hh limit a g beyond x outputs
  rw [exec_portISample hh]
  refine ⟨fun h => by rw [if_neg h], fun h => ?_⟩
  obtain ⟨u, ht, hb, hoff⟩ := s.internalSample_eq ax ay az gx gy gz
  rw [if_pos h, ht]
  have hview : ∀ l, u.view l .internal = s.view l .internal := fun l => hb.view l .internal
  have hout : ∀ l, u.Outputs l .internal x ↔ outputs l := fun l => by
    unfold State.Outputs
    rw [hview]
  have hrest := State.SampleOnly.sampleTaken u .internal x
  refine ⟨u, u.sampleTaken .internal x, rfl, rfl, hb, hoff, (u.sampleTaken_sample _ x _).trans (if_pos rfl), fun l h0 => ?_,
    fun l h0 => ?_, fun l hl => ?_, fun hl => ?_, (congrArg State.ports hrest).trans hb.ports,
    (congrArg State.sharedI hrest).trans hb.sharedI,
    (congrArg State.brickSet hrest).trans hb.brickSet,
    (congrArg State.hub hrest).trans hb.hub, fun p => ?_⟩
  · rw [← hview] at h0 ⊢
    exact State.sampleTaken_view_off h0 x
  · rw [← hview] at h0 ⊢
    obtain ⟨z, hv, hz⟩ := State.sampleTaken_view_on h0 x
    refine ⟨z, hv, fun hl => ?_⟩
    rw [hz (hl.imp_right fun ha k w hw => ha k w ?_), State.stamped_congr hb.ports hb.motors hb.pairs]
    rwa [State.watch, hb.watches] at hw
  · rw [State.sampleTaken_watches (mt (hout l).mp hl), hb.watches]
  · obtain ⟨hm, hlinks⟩ := State.sampleTaken_unmet fun l => mt (hout l).mp (hl l)
    exact ⟨hm.trans hb.motors, hlinks⟩
  · rw [State.sampleTaken_sample, if_neg (by simp), hb.sample]

end Sys2Proof.Machine

/-! SUPPORT. Rounding to nearest (section 0.5): how far it strays from the quotient, which way halves go, and what bounds
it keeps. -/

namespace Sys2Proof.Machine

section Rounding
variable {a b k : Int}

theorem nearest_of_nonneg (ha : 0 ≤ a) (hb : 0 < b) : nearest a b = (2 * a + b) / (2 * b) := by
  unfold nearest
  rw [Int.natAbs_of_nonneg ha]
  obtain h0 | h0 := ha.lt_or_eq
  · rw [Int.sign_eq_one_of_pos h0, one_mul]
  · rw [← h0, Int.sign_zero, zero_mul]
    exact (Int.ediv_eq_zero_of_lt (by omega) (by omega)).symm

theorem nearest_neg (a b : Int) : nearest (-a) b = -nearest a b := by
  unfold nearest
  rw [Int.natAbs_neg, Int.sign_neg, neg_mul]

/-- The rounded quotient is within one half of the exact one. -/
theorem nearest_error (a : Int) (hb : 0 < b) : 2 * (nearest a b * b - a).natAbs ≤ b := by
  have of_nonneg : ∀ x : Int, 0 ≤ x → 2 * (nearest x b * b - x).natAbs ≤ b := fun x hx => by
    have hdiv := Int.mul_ediv_add_emod (2 * x + b) (2 * b)
    have hlt := Int.emod_lt_of_pos (2 * x + b) (show 0 < 2 * b by omega)
    have hge := Int.emod_nonneg (2 * x + b) (show 2 * b ≠ 0 by omega)
    rw [nearest_of_nonneg hx hb, mul_comm ((2 * x + b) / (2 * b)) b]
    rw [mul_assoc] at hdiv
    omega
  obtain h | h := le_total 0 a
  · exact of_nonneg a h
  · have hn := of_nonneg (-a) (by omega)
    rw [nearest_neg, neg_mul] at hn
    omega

/-- A half goes away from zero. -/
theorem nearest_half (hb : 0 < b) (hk : 0 ≤ k) (h : 2 * a = (2 * k + 1) * b) : nearest a b = k + 1 := by
  have hpos : 0 < (2 * k + 1) * b := mul_pos (by omega) hb
  have hsum : 2 * a + b = (k + 1) * (2 * b) := by rw [h]; ring
  rw [nearest_of_nonneg (by omega) hb, hsum]
  exact Int.mul_ediv_cancel _ (by omega)

theorem nearest_neg_half (hb : 0 < b) (hk : 0 ≤ k) (h : 2 * a = -((2 * k + 1) * b)) : nearest a b = -(k + 1) := by
  have hn := nearest_half (a := -a) hb hk (by omega)
  rw [nearest_neg] at hn
  omega

/-- A quotient of at most `k` rounds to at most `k`. -/
theorem nearest_le (hb : 0 < b) (h : a ≤ k * b) : nearest a b ≤ k := by
  by_contra hc
  have hmul : (k + 1) * b ≤ nearest a b * b := Int.mul_le_mul_of_nonneg_right (by omega) (by omega)
  have herr := nearest_error a hb
  rw [add_mul, one_mul] at hmul
  omega

theorem le_nearest (hb : 0 < b) (h : k * b ≤ a) : k ≤ nearest a b := by
  have hn := nearest_le (a := -a) (k := -k) hb (by rw [neg_mul]; omega)
  rw [nearest_neg] at hn
  omega

/-- A quotient without a remainder stands. -/
theorem nearest_mul (k : Int) (hb : 0 < b) : nearest (k * b) b = k :=
  le_antisymm (nearest_le hb le_rfl) (le_nearest hb le_rfl)

end Rounding

end Sys2Proof.Machine

/-! PROOF of O33: the shared settings (R83, R84), the scaling (R80) and the filters (R87). -/

namespace Sys2Proof.Machine

/-! ### The shortest and the widest of a list -/

section Lists
variable {d i k : Nat} {xs : List Nat}

theorem shortest_eq (d : Nat) (xs : List Nat) : shortest d xs = xs.min?.getD d := by
  cases xs <;> rfl

theorem widest_eq (d : Nat) (xs : List Nat) : widest d xs = xs.max?.getD d := by
  cases xs <;> rfl

/-- The shortest of a list is in it and no longer than any of it; an empty list gives the default. -/
theorem shortest_spec (d : Nat) (xs : List Nat) : (shortest d xs ∈ xs ∧ ∀ y ∈ xs, shortest d xs ≤ y) ∨
    (xs = [] ∧ shortest d xs = d) := by
  rw [shortest_eq]
  cases h : xs.min? with
  | none => exact .inr ⟨List.min?_eq_none_iff.mp h, rfl⟩
  | some m => exact .inl (List.min?_eq_some_iff.mp h)

/-- The widest of a list is in it and no narrower than any of it; an empty list gives the default. -/
theorem widest_spec (d : Nat) (xs : List Nat) : (widest d xs ∈ xs ∧ ∀ y ∈ xs, y ≤ widest d xs) ∨
    (xs = [] ∧ widest d xs = d) := by
  rw [widest_eq]
  cases h : xs.max? with
  | none => exact .inr ⟨List.max?_eq_none_iff.mp h, rfl⟩
  | some m => exact .inl (List.max?_eq_some_iff.mp h)

theorem le_shortest_iff (hi : i ≤ d) : i ≤ shortest d xs ↔ ∀ y ∈ xs, i ≤ y := by
  obtain ⟨hm, hle⟩ | ⟨rfl, hd⟩ := shortest_spec d xs
  · exact ⟨fun h y hy => h.trans (hle y hy), fun h => h _ hm⟩
  · rw [hd]
    exact ⟨fun _ y hy => absurd hy List.not_mem_nil, fun _ => hi⟩

/-- In a falling list, the first number up to `d` is the greatest of them. -/
theorem find_le_greatest (hs : xs.Pairwise (· ≥ ·)) (h : xs.find? (fun x => decide (x ≤ d)) = some k) :
    k ∈ xs ∧ k ≤ d ∧ ∀ x ∈ xs, x ≤ d → x ≤ k := by
  induction xs with
  | nil => cases h
  | cons x rest ih =>
    obtain ⟨hx, hrest⟩ := List.pairwise_cons.mp hs
    by_cases hd : x ≤ d
    · rw [List.find?_cons_of_pos (by simpa using hd)] at h
      cases h
      exact ⟨List.mem_cons_self, hd, fun y hy _ => (List.mem_cons.mp hy).elim (·.le) (hx y)⟩
    · rw [List.find?_cons_of_neg (by simpa using hd)] at h
      obtain ⟨hk, hkd, hmax⟩ := ih hrest h
      exact ⟨List.mem_cons_of_mem _ hk, hkd, fun y hy hyd =>
        (List.mem_cons.mp hy).elim (fun e => absurd (e ▸ hyd) hd) fun hy => hmax y hy hyd⟩

/-- The interval that the motion sensor takes for a demand: the longest offered up to it, or 1.25 ms (R84). -/
theorem offered_spec (d : Nat) : let k := (offered.find? (fun i => decide (i ≤ d))).getD 1250
    k ∈ offered ∧ (k ≤ d ∨ k = 1250) ∧ ∀ i ∈ offered, i ≤ d → i ≤ k := by
  intro k
  cases h : offered.find? (fun i => decide (i ≤ d)) with
  | none =>
    have hk : k = 1250 := by simp only [k, h, Option.getD_none]
    rw [hk]
    exact ⟨by decide, .inr rfl, fun i hi hid => absurd (decide_eq_true hid) (List.find?_eq_none.mp h i hi)⟩
  | some y =>
    have hk : k = y := by simp only [k, h, Option.getD_some]
    obtain ⟨hm, hd, hmax⟩ := find_le_greatest (by decide) h
    rw [hk]
    exact ⟨hm, .inl hd, hmax⟩

end Lists

/-! ### The enabled views of UP links (R83, R84) -/

section Settings
variable {s : State}

/-- The view of channel `c` on the link `l` is on and the link is UP. -/
def State.Asks (s : State) (l : Link) (c : Chan) : Prop := (s.link l).up = true ∧ (s.view l c).interval ≠ 0

/-- What the enabled views of UP links give of one of their fields. -/
theorem State.mem_wanting_map {c : Chan} {f : View → Nat} {y : Nat} :
    y ∈ (s.wanting c).map f ↔ ∃ l, s.Asks l c ∧ f (s.view l c) = y := by
  have hall : ∀ l, l ∈ allLinks := fun l => by cases l <;> decide
  simp [State.wanting, hall, State.Asks]

theorem BrickSettings.anyEnabled_iff (b : BrickSettings) :
    b.anyEnabled = true ↔ b.orientation = true ∨ b.tap = true ∨ b.freeFall = true ∨ b.motion = true := by
  simp [BrickSettings.anyEnabled, or_assoc]

theorem mem_ite_singleton {b : Bool} {x y : Nat} : y ∈ (if b then [x] else []) ↔ b = true ∧ y = x := by
  cases b <;> simp

/-- The intervals that port I's enabled views and detectors ask (R84). -/
def State.demands (s : State) : List Nat :=
  (s.wanting .internal).map (fun v => v.interval * 1000) ++ (if s.brickSet.anyEnabled then [5000] else [])

theorem State.forall_demands {i : Nat} : (∀ y ∈ s.demands, i ≤ y) ↔
    (∀ l, s.Asks l .internal → i ≤ (s.view l .internal).interval * 1000) ∧
      (s.brickSet.orientation = true ∨ s.brickSet.tap = true ∨ s.brickSet.freeFall = true ∨ s.brickSet.motion = true →
        i ≤ 5000) := by
  rw [← BrickSettings.anyEnabled_iff]
  simp only [State.demands, List.mem_append, State.mem_wanting_map, mem_ite_singleton]
  constructor
  · intro h
    exact ⟨fun l hl => h _ (.inl ⟨l, hl, rfl⟩), fun hd => h _ (.inr ⟨hd, rfl⟩)⟩
  · rintro ⟨hv, hd⟩ y (⟨l, hl, rfl⟩ | ⟨hb, rfl⟩)
    exacts [hv l hl, hd hb]

/-- Port I's interval: one that the sensor offers, the longest that serves every demand, or 1.25 ms (R84). -/
theorem State.sharedInterval_spec (s : State) : let x := s.recomputeI.sharedI.interval
    x ∈ offered ∧ ((∀ y ∈ s.demands, x ≤ y) ∨ x = 1250) ∧ ∀ i ∈ offered, (∀ y ∈ s.demands, i ≤ y) → i ≤ x := by
  intro x
  obtain ⟨hx, hd, hmax⟩ := offered_spec (shortest 40000 s.demands)
  have hbound : ∀ i ∈ offered, i ≤ 40000 := by decide
  exact ⟨hx, hd.imp_left (le_shortest_iff (hbound x hx)).mp,
    fun i hi h => hmax i hi ((le_shortest_iff (hbound i hi)).mpr h)⟩

/-- A predicate that names the members of a list names the widest of it, where there is one. -/
theorem widest_of_mem {asks : Nat → Prop} {xs : List Nat} (h : ∀ y, y ∈ xs ↔ asks y) (d : Nat) :
    (asks (widest d xs) ∧ ∀ y, asks y → y ≤ widest d xs) ∨ ((∀ y, ¬ asks y) ∧ widest d xs = d) := by
  obtain ⟨hm, hle⟩ | ⟨he, hd⟩ := widest_spec d xs
  · exact .inl ⟨(h _).mp hm, fun y hy => hle y ((h y).mpr hy)⟩
  · refine .inr ⟨fun y hy => ?_, hd⟩
    have hy' := (h y).mpr hy
    rw [he] at hy'
    cases hy'

/-- The interval of a sensor port (R83). -/
theorem State.sensorInterval_spec (s : State) (p : Port) (minimum : Nat) : ∃ x : Nat,
    s.sensorInterval p minimum = max x minimum * 1000 ∧
    (∀ l, s.Asks l (.port p) → x ≤ (s.view l (.port p)).interval) ∧
    ((∃ l, s.Asks l (.port p) ∧ (s.view l (.port p)).interval = x) ∨ ((∀ l, ¬ s.Asks l (.port p)) ∧ x = 100)) := by
  have mem : ∀ l, s.Asks l (.port p) →
      (s.view l (.port p)).interval ∈ (s.wanting (.port p)).map (fun v => v.interval) :=
    fun l hl => State.mem_wanting_map.mpr ⟨l, hl, rfl⟩
  refine ⟨_, rfl, ?_⟩
  obtain ⟨hm, hle⟩ | ⟨he, hd⟩ := shortest_spec 100 ((s.wanting (.port p)).map (fun v => v.interval))
  · exact ⟨fun l hl => hle _ (mem l hl), .inl (State.mem_wanting_map.mp hm)⟩
  · have none_asks : ∀ l, ¬ s.Asks l (.port p) := fun l hl => by
      have := mem l hl
      rw [he] at this
      cases this
    exact ⟨fun l hl => absurd hl (none_asks l), .inr ⟨none_asks, hd⟩⟩

end Settings

/-! ### Scaling (R80) -/

section Scaling
variable {m : ModeRecord}

/-- A value between `lo` and `hi` at both ends of a scale is between them throughout it. -/
theorem interpolate_le {p q h d r : Int} (hp : p ≤ h) (hq : q ≤ h) (h0 : 0 ≤ d) (hr : d ≤ r) :
    p * r + d * (q - p) ≤ h * r := by
  have h1 : p * (r - d) ≤ h * (r - d) := Int.mul_le_mul_of_nonneg_right hp (by omega)
  have h2 : q * d ≤ h * d := Int.mul_le_mul_of_nonneg_right hq h0
  calc p * r + d * (q - p) = p * (r - d) + q * d := by ring
    _ ≤ h * (r - d) + h * d := add_le_add h1 h2
    _ = h * r := by ring

theorem le_interpolate {p q h d r : Int} (hp : h ≤ p) (hq : h ≤ q) (h0 : 0 ≤ d) (hr : d ≤ r) :
    h * r ≤ p * r + d * (q - p) := by
  have hn := interpolate_le (neg_le_neg hp) (neg_le_neg hq) h0 hr
  have he : -p * r + d * (-q - -p) = -(p * r + d * (q - p)) := by ring
  rw [he, neg_mul] at hn
  omega

/-- The exact scaled value of a clamped one, times the raw range. -/
def exactScaled (m : ModeRecord) (y : Int) : Int :=
  m.scaledMin * (m.rawMax - m.rawMin) + (y - m.rawMin) * (m.scaledMax - m.scaledMin)

/-- A raw value in the raw range scales into the scaled range, whichever way that runs. -/
theorem nearest_exact_bounds (hm : m.rawMin < m.rawMax) {y : Int} (h0 : m.rawMin ≤ y) (h1 : y ≤ m.rawMax) :
    min m.scaledMin m.scaledMax ≤ nearest (exactScaled m y) (m.rawMax - m.rawMin) ∧
      nearest (exactScaled m y) (m.rawMax - m.rawMin) ≤ max m.scaledMin m.scaledMax :=
  ⟨le_nearest (by omega) (le_interpolate (min_le_left _ _) (min_le_right _ _) (by omega) (by omega)),
    nearest_le (by omega) (interpolate_le (le_max_left _ _) (le_max_right _ _) (by omega) (by omega))⟩

theorem clamp_ne_iff {lo hi x : Int} (h : lo < hi) : x ≠ clamp lo hi x ↔ x < lo ∨ hi < x := by
  unfold clamp
  omega

end Scaling

/-! ### The filters (R87) -/

/-- Unseeded, LOW takes its input for its state: the rounding of 256 times a value gives it back. -/
theorem FilterState.step_unseeded {f : FilterState} (h : f.seeded = false) (n : Nat) (a : Int) :
    (f.step .low n a).2 = a ∧ (f.step .high n a).2 = 0 := by
  have ha : nearest (256 * a) 256 = a := by
    rw [mul_comm]
    exact nearest_mul a (by decide)
  simp [FilterState.step, h, ha]

/-- Settles O33, by the demands on port I, the bounds of the rounding, and the steps of the filters. -/
theorem sourceAndFilterArithmetic : Obligations.SourceAndFilterArithmetic := by
  refine ⟨fun s => ?_, fun m raw hm => ?_, fun a b hb => ⟨nearest_error a hb, fun k hk =>
    ⟨nearest_half hb hk, nearest_neg_half hb hk⟩⟩, fun f n a => ⟨rfl, rfl, rfl, rfl, fun h => f.step_unseeded h n a⟩⟩
  · intro x on detects serves accel gyro widest
    have hoffers : ∀ i, i ∈ [1250, 2500, 5000, 10000, 20000, 40000] ↔ i ∈ offered := fun i => List.mem_reverse (as := offered)
    have hserves : ∀ i, serves i ↔ ∀ y ∈ s.demands, i ≤ y := fun i => State.forall_demands.symm
    obtain ⟨hx, hs, hmax⟩ := s.sharedInterval_spec
    refine ⟨(hoffers _).mpr hx, hs.imp_left (hserves _).mpr, fun i hi h => hmax i ((hoffers i).mp hi) ((hserves i).mp h),
      widest_of_mem (fun y => ?_) 8000, widest_of_mem (fun y => State.mem_wanting_map) 2000, s.sensorInterval_spec⟩
    rw [List.mem_append, State.mem_wanting_map, mem_ite_singleton]
    rfl
  · intro x y r z
    have hr : 0 < r := by omega
    have hy : m.rawMin ≤ y ∧ y ≤ m.rawMax := by omega
    obtain ⟨hlo, hhi⟩ := nearest_exact_bounds hm hy.1 hy.2
    exact ⟨decide_eq_decide.mpr (clamp_ne_iff hm), hlo, hhi, nearest_error _ hr, fun k hk =>
      ⟨nearest_half hr hk, nearest_neg_half hr hk⟩⟩

end Sys2Proof.Machine

/-! PROOF of O40: the assembly of a report service (R91, R117, R118). -/

namespace Sys2Proof.Machine

section Service
variable {s u v : State} {l : Link} {c : Chan} {cs ds : List Chan}

/-! ### What assembling reads and clears (R91) -/

/-- `u` is `s` with the views of the ACTIVE channels among `cs` delivered on the link `l`: their fresh flags are clear. -/
structure State.Assembled (l : Link) (cs : List Chan) (s u : State) : Prop where
  frame : u = { s with views := u.views }
  view : ∀ c, u.view l c = if c ∈ cs ∧ s.chanActive c = true then { s.view l c with fresh := false } else s.view l c
  others : ∀ k, k ≠ l → u.views.get k = s.views.get k

theorem State.Assembled.refl (l : Link) (s : State) : s.Assembled l [] s :=
  ⟨rfl, fun _ => (if_neg fun e => List.not_mem_nil e.1).symm, fun _ _ => rfl⟩

theorem State.Assembled.chanActive (h : s.Assembled l cs u) (c : Chan) : u.chanActive c = s.chanActive c := by
  rw [h.frame]
  cases c <;> rfl

theorem State.Assembled.sample (h : s.Assembled l cs u) (c : Chan) : u.sample c = s.sample c := by
  rw [h.frame]
  rfl

theorem State.Assembled.stream (h : s.Assembled l cs u) (n : Nat) : u.stream l n = s.stream l n := by
  rw [h.frame]
  rfl

theorem State.Assembled.sched (h : s.Assembled l cs u) (k : Link) : u.sched k = s.sched k := by
  rw [h.frame]
  rfl

theorem State.Assembled.setSched (h : s.Assembled l cs u) (x : Scheduler) : u.setSched l x =
    { s with views := (u.setSched l x).views, scheds := (u.setSched l x).scheds } := by
  rw [h.frame]
  rfl

theorem State.Assembled.now (h : s.Assembled l cs u) : u.now = s.now := by
  rw [h.frame]
  rfl

theorem State.Assembled.trans (h : s.Assembled l cs u) (h' : u.Assembled l ds v) : s.Assembled l (cs ++ ds) v where
  frame := by
    have h2 := h'.frame
    rw [h.frame] at h2
    exact h2
  view c := by
    rw [h'.view, h.view, h.chanActive]
    by_cases hc : c ∈ cs ∧ s.chanActive c = true
    · rw [if_pos hc]
      exact (ite_self _).trans (if_pos ⟨List.mem_append_left ds hc.1, hc.2⟩).symm
    · have hd : (c ∈ cs ++ ds ∧ s.chanActive c = true) ↔ (c ∈ ds ∧ s.chanActive c = true) := by
        rw [List.mem_append, or_and_right, or_iff_right hc]
      simp only [if_neg hc, hd]
  others k hk := (h'.others k hk).trans (h.others k hk)

theorem State.Assembled.member (s : State) (l : Link) (c : Chan) : s.Assembled l [c] (s.member l c).1 := by
  by_cases ha : s.chanActive c = true
  · have hm : (s.member l c).1 = s.delivered l c := congrArg Prod.fst (if_pos ha)
    rw [hm]
    refine ⟨rfl, fun y => ?_, fun k hk => PerLink.get_set_ne _ _ hk⟩
    rw [State.delivered, State.setView_view]
    by_cases hy : y = c
    · simp [hy, ha]
    · simp [hy]
  · have hm : (s.member l c).1 = s := congrArg Prod.fst (if_neg ha)
    rw [hm]
    refine ⟨rfl, fun y => (if_neg ?_).symm, fun _ _ => rfl⟩
    rintro ⟨hy, hya⟩
    rw [List.mem_singleton.mp hy] at hya
    exact ha hya

theorem State.Assembled.members (s : State) (l : Link) (cs : List Chan) : s.Assembled l cs (s.members l cs).1 := by
  induction cs generalizing s with
  | nil => exact .refl l s
  | cons c rest ih => exact (State.Assembled.member s l c).trans (ih _)

/-! ### Member blocks (R91, R118) -/

/-- The member block of `c` on the link `l`, in a service that has delivered it before if `again`. -/
def State.blockOf (s : State) (l : Link) (c : Chan) (again : Bool) : List Byte :=
  if s.chanActive c then
    (s.setView l c { s.view l c with fresh := (s.view l c).fresh && !again }).delivery l c
  else memberBlock c none 0 [] 0 0 none [0]

theorem State.chanActive_iff (s : State) (c : Chan) : s.chanActive c = true ↔
    match c with
    | .internal => True
    | .port p => (s.port p).state = .active := by
  cases c with
  | internal => exact iff_true_intro rfl
  | port p => exact beq_iff_eq

/-- A port that is not ACTIVE gives the cleared block of one value (R118). -/
theorem State.blockOf_inactive (h : ¬ s.chanActive c = true) (again : Bool) : s.blockOf l c again =
    [BitVec.ofNat 8 (chanCode c), 0xFF#8, 0#8, 1#8] ++ List.replicate 11 0#8 :=
  (if_neg h).trans rfl

theorem State.blockOf_off (h : s.chanActive c = true) (h0 : (s.view l c).interval = 0) (again : Bool) :
    s.blockOf l c again = memberBlock c (s.sample c).mode 4 (s.sample c).clipped (s.sample c).sequence (s.sample c).time
      none (s.sample c).values := by
  refine (if_pos h).trans (State.delivery_off ?_)
  rw [State.setView_view, if_pos ⟨rfl, rfl⟩]
  exact h0

theorem State.blockOf_on (h : s.chanActive c = true) (h0 : (s.view l c).interval ≠ 0) (again : Bool) :
    let o := (s.view l c).output
    s.blockOf l c again = memberBlock c o.mode
      ((if (s.view l c).fresh && !again then 1 else 0) + 2 * (if o.stamp = none then 0 else 1)) o.clipped o.sequence o.time
      o.stamp o.values := by
  refine (if_pos h).trans ((State.delivery_on ?_).trans ?_)
  all_goals rw [State.setView_view, if_pos ⟨rfl, rfl⟩]
  exact h0

/-- A delivery rests on the channel's sample and the link's view of it. -/
theorem State.delivery_congr (hv : u.view l c = s.view l c) (hx : u.sample c = s.sample c) :
    u.delivery l c = s.delivery l c := by
  unfold State.delivery
  rw [hv, hx]

/-- What is delivered while a service is assembled: the block as it stood, fresh only the first time. -/
theorem State.Assembled.block (h : s.Assembled l cs u) (c : Chan) :
    (u.member l c).2 = s.blockOf l c (decide (c ∈ cs)) := by
  unfold State.member State.blockOf
  rw [h.chanActive]
  split
  · rename_i ha
    refine State.delivery_congr ?_ (h.sample c)
    rw [State.setView_view, if_pos ⟨rfl, rfl⟩, h.view]
    by_cases hc : c ∈ cs <;> simp [hc, ha]
  · rfl

/-- The blocks of a stream that names no channel twice, in member order. -/
theorem State.Assembled.blocks (h : s.Assembled l cs u) (hn : ds.Nodup) :
    (u.members l ds).2 = (ds.map (fun c => s.blockOf l c (decide (c ∈ cs)))).flatten := by
  induction ds generalizing u cs with
  | nil => rfl
  | cons c rest ih =>
    obtain ⟨hc, hrest⟩ := List.nodup_cons.mp hn
    have hmap : ∀ y ∈ rest, s.blockOf l y (decide (y ∈ cs ++ [c])) = s.blockOf l y (decide (y ∈ cs)) := fun y hy => by
      have hyc : y ≠ c := fun e => hc (e ▸ hy)
      simp [hyc]
    rw [List.map_cons, List.flatten_cons, ← h.block, ← List.map_congr_left hmap]
    exact congrArg ((u.member l c).2 ++ ·) (ih (h.trans (.member u l c)) hrest)

/-! ### Frames (R117) -/

theorem State.Assembled.assemble (s : State) (l : Link) (q : QueueId) (ns : List Nat) :
    s.Assembled l (ns.map (fun n => (s.stream l n).members)).flatten (s.assemble l q ns).1 := by
  induction ns generalizing s with
  | nil => exact .refl l s
  | cons n rest ih =>
    have h := State.Assembled.members s l (s.stream l n).members
    have hr := ih (s.members l (s.stream l n).members).1
    simp only [h.stream] at hr
    exact h.trans hr

/-- The REPORT frame of a stream: the queue, the member count, hub time and a block per member. -/
def State.frameOf (s : State) (l : Link) (q : QueueId) (again : Nat → Chan → Bool) (n : Nat) : ReportFrame :=
  let ms := (s.stream l n).members
  ⟨n, e8 (queueCode q) ++ e8 ms.length ++ e32 s.hub.time.toNat ++ (ms.map (fun c => s.blockOf l c (again n c))).flatten⟩

/-- The frames of streams in ascending number, after the channels `cs`: a channel is fresh in the first that names it. -/
theorem State.Assembled.frames (h : s.Assembled l cs u) (q : QueueId) {ns : List Nat} (hs : ns.Pairwise (· < ·))
    (hn : ∀ n ∈ ns, (s.stream l n).members.Nodup) {again : Nat → Chan → Bool}
    (ha : ∀ n ∈ ns, ∀ c, again n c = true ↔ c ∈ cs ∨ ∃ k ∈ ns, k < n ∧ c ∈ (s.stream l k).members) :
    (u.assemble l q ns).2 = ns.map (s.frameOf l q again) := by
  induction ns generalizing u cs with
  | nil => rfl
  | cons n rest ih =>
    obtain ⟨hlt, hrest⟩ := List.pairwise_cons.mp hs
    obtain ⟨hnd, hnds⟩ := List.forall_mem_cons.mp hn
    have first : ∀ c, again n c = decide (c ∈ cs) := fun c => by
      have none_before : ¬ ∃ k ∈ n :: rest, k < n ∧ c ∈ (s.stream l k).members := by
        rintro ⟨k, hk, hkn, -⟩
        rcases List.mem_cons.mp hk with rfl | hk
        · exact lt_irrefl _ hkn
        · exact lt_asymm hkn (hlt k hk)
      rw [Bool.eq_iff_iff, ha n List.mem_cons_self, or_iff_left none_before, decide_eq_true_iff]
    have later : ∀ m ∈ rest, ∀ c, again m c = true ↔
        c ∈ cs ++ (s.stream l n).members ∨ ∃ k ∈ rest, k < m ∧ c ∈ (s.stream l k).members := fun m hm c => by
      have hnm := hlt m hm
      simp [ha m (List.mem_cons_of_mem _ hm), hnm, or_assoc]
    have hu := h.trans (.members u l (s.stream l n).members)
    have hbody := h.blocks (ds := (s.stream l n).members) hnd
    have hfirst : s.frameOf l q again n = ⟨n, e8 (queueCode q) ++ e8 (s.stream l n).members.length ++ eTime s.now ++
        (u.members l (s.stream l n).members).2⟩ := by
      rw [hbody]
      simp only [State.frameOf, first]
      rfl
    rw [List.map_cons, hfirst, ← ih hu hrest hnds later]
    simp only [State.assemble, h.stream, h.now]

/-- A service that begins holds the frames, and its request no longer waits (R117). -/
theorem State.beginService_eq (s : State) (l : Link) (q : QueueId) :
    let u := (s.assemble l q (s.enabledOn l q)).1
    s.beginService l q = u.setSched l { s.sched l with
      queues := (s.sched l).queues.set q { (s.sched l).queues.get q with waiting := false }
      service := some ⟨q, (s.assemble l q (s.enabledOn l q)).2⟩ } := by
  intro u
  have hd : u.sched l = s.sched l :=
    (State.Assembled.assemble s l q (s.enabledOn l q)).sched l
  rw [← hd]
  rfl

end Service

/-- Settles O40, by what assembling has read and cleared before each member. -/
theorem serviceAssembled : Obligations.ServiceAssembled := by
  intro s l q numbers members active layout r sent hn
  have hnum : s.enabledOn l q = numbers := rfl
  have hu := State.Assembled.assemble s l q numbers
  have hsort : numbers.Pairwise (· < ·) := List.pairwise_lt_range.filter _
  have hframes := (State.Assembled.refl l s).frames q hsort hn (again := sent) fun n _ c =>
    decide_eq_true_iff.trans (or_iff_right List.not_mem_nil).symm
  have hactive : ∀ c, s.chanActive c = true ↔ active c := s.chanActive_iff
  have hbegin := s.beginService_eq l q
  rw [hnum, hframes] at hbegin
  refine ⟨s.beginService l q, s.blockOf l, rfl, ?_, fun c again => ⟨fun ha => ?_, fun ha h0 => ?_, fun ha h0 => ?_⟩,
    fun c => ?_, fun k hk => ⟨?_, ?_⟩, ?_⟩
  · rw [hbegin]
    exact PerLink.get_set_self _ _ _
  · exact State.blockOf_inactive (mt (hactive c).mp ha) again
  · exact State.blockOf_off ((hactive c).mpr ha) h0 again
  · exact State.blockOf_on ((hactive c).mpr ha) h0 again
  · rw [hbegin]
    exact hu.view c
  · rw [hbegin]
    exact hu.others k hk
  · rw [hbegin]
    exact (PerLink.get_set_ne _ _ hk).trans (hu.sched k)
  · rw [hbegin]
    exact hu.setSched _

end Sys2Proof.Machine
